-- ==== Sys2Proof/Word.lean ====
section
/-! DEFINITION. The byte of the two serial ports. -/

namespace Sys2Proof

/-- A byte as it travels on the link or on the outstation line (00, "Numbers"). -/
abbrev Byte := BitVec 8

/-- One of the six gasholders H0..H5 (00, "Terms"). -/
abbrev HolderId := Fin 6

/-- One of the eight street districts D0..D7 (00, "Terms"). -/
abbrev DistrictId := Fin 8

end Sys2Proof
end

