-- ==== Sys2Proof/Syntax.lean ====
section
/-! DEFINITION. The commands of the HYC-48: one constructor of `Instr` per row of spec/opcode_table.json, with the
types of their operands. A request row carries the tag of its frame (11, "Link request frame") and the request's fields;
a row that is the arrival of a message between blocks carries the message. -/

namespace Sys2Proof

/-- Order kinds (03 R39). -/
inductive OrderKind where
  | draw | fill | float | stand
  deriving DecidableEq, Repr

/-- End actions of an order (03 R39). -/
inductive EndAction where
  | stand | cont
  deriving DecidableEq, Repr

/-- Outstation kinds (09 R168). -/
inductive EntryKind where
  | crown | meter | governor | telltale | barometer
  deriving DecidableEq, Repr

/-- Account kinds (07 R132). -/
inductive AccountKind where
  | receipt | sendOut | worksUse | suspense
  deriving DecidableEq, Repr

/-- Levels of BAR and UNBAR (05 R106). -/
inductive BarLevel where
  | root | main | point
  deriving DecidableEq, Repr

/-- Attention priority orders (11 R198). -/
inductive PriorityOrder where
  | a | b
  deriving DecidableEq, Repr

/-- Actions of SET-OUTSTATION (09 R169). -/
inductive OutstationAction where
  | set | delete
  deriving DecidableEq, Repr

/-- Result codes, in the order of the response layout (11 R197). -/
inductive Result where
  | done | doneClamped | busy | badFrame | illegalMode | noRecord | range | wrongState | inUse | full | aborted
  | storeFault
  deriving DecidableEq, Repr

/-- One lift of a holder's configuration (02 R19). -/
structure Lift where
  area : Nat
  stroke : Nat
  pressure : Nat
  deriving DecidableEq, Repr

/-- The configuration fields of SET-HOLDER (02 R19). -/
structure HolderSettings where
  fitted : Bool
  lifts : List Lift
  landed : Nat
  lowStop : Nat
  topStop : Nat
  maxStep : Nat
  travel : Option Nat
  crownEntry : Option Nat
  deriving DecidableEq, Repr

/-- The fields of SET-YARD, each of which may be absent (10 R182). -/
structure YardSettings where
  declaredCv : Option Nat
  fallback : Option Nat
  bookingShare : Option Nat
  fastShare : Option Nat
  replyWait : Option Nat
  scrubInterval : Option Nat
  priority : Option PriorityOrder
  deriving DecidableEq, Repr

/-- One step of a district's schedule (04 R62). -/
structure ScheduleStep where
  start : Nat
  setPoint : Nat
  deriving DecidableEq, Repr

/-- The working fields of SET-DISTRICT, each of which may be absent (04 R64). -/
structure DistrictSettings where
  schedule : Option (List ScheduleStep)
  floor : Option Nat
  ceiling : Option Nat
  drop : Option Nat
  ttMin : Option Nat
  ttBand : Option Nat
  ttStep : Option Nat
  compMax : Option Nat
  autoJoin : Option Bool
  standby : Option (List Nat)
  deriving DecidableEq, Repr

/-- The fields of a direct route (05 R100). -/
structure RouteSettings where
  enabled : Bool
  low : Nat
  high : Nat
  slot : Option Nat
  barred : Bool
  deriving DecidableEq, Repr

/-- The contents carried by RESTORE-ACCOUNT (07 R141). -/
structure AccountContents where
  kind : AccountKind
  cv : Option Nat
  period : Nat
  volume : Nat
  volumeRes : Nat
  heat : Nat
  heatRes : Nat
  bookings : Nat
  clampedBookings : Nat
  limitReached : Bool
  prevVolume : Nat
  prevHeat : Nat
  prevBookings : Nat
  deriving DecidableEq, Repr

/-- The values of a good crown reply (09 R173). -/
structure CrownReading where
  height : Nat
  temp : Int
  inletOpen : Bool
  inletClosed : Bool
  outletOpen : Bool
  outletClosed : Bool
  topStop : Bool
  landing : Bool
  deriving DecidableEq, Repr

/-- The values of a good meter reply (09 R173): station pressure and temperature, and the counts of channels 0..3. -/
structure MeterReading where
  pressure : Nat
  temp : Int
  counts : Vector Nat 4
  deriving DecidableEq, Repr

/-- The values of a good governor reply (09 R173). An echoed loading of 00h is none (11, "Outstation frames"). -/
structure GovernorReading where
  outlet : Nat
  echo : Option Nat
  trip : Bool
  deriving DecidableEq, Repr

/-- A notice of HOC to DIC (02 R34): the holder, its values as they stand, and what may travel in one notice beside the
notice's own list change: a join-pending, a removal, a standing notice (04 R76). -/
structure HolderNotice where
  holder : HolderId
  answering : Bool
  stagePressure : Nat
  pend : Option DistrictId
  remove : Bool
  standing : Bool
  deriving DecidableEq, Repr

/-- What the world has done to a store slot: so many more of its words are flawed (08 R154). -/
structure Flaw where
  slot : Nat
  words : Nat
  deriving DecidableEq, Repr

/-- What the check code kept over the backed working state outside the store finds at power-on (10 R183). -/
inductive StateFlaw where
  | none | correctable | uncorrectable
  deriving DecidableEq, Repr

/-- The 89 commands of spec/opcode_table.json, in its order. -/
inductive Instr where
  -- supply
  /-- The release of RSTN: whether the supply monitor reports VBAT low, and what the check code finds (10 R183). -/
  | powerOn (batteryLow : Bool) (found : StateFlaw)
  /-- VCC falls below the switch-over level. -/
  | supplyFail
  -- link
  /-- Bytes arrive at LKRXD, the last of them ending a link frame (11 R191). -/
  | linkFrame (bytes : List Byte)
  /-- The END of the response being sent has gone out. -/
  | responseSent
  -- immediate requests
  | yardReset (tag : Byte)
  | lineReset (tag : Byte)
  | yardHold (tag : Byte)
  | stop (tag : Byte) (holder : Nat)
  | isolate (tag : Byte) (holder : Nat)
  -- SETUP-ONLY requests
  | setYard (tag : Byte) (f : YardSettings)
  | setHolder (tag : Byte) (holder : Nat) (f : HolderSettings)
  | setDistrictStations (tag : Byte) (district : Nat) (governor telltale : Option Nat)
  | setOutstation (tag : Byte) (address : Nat) (action : OutstationAction) (kind : Option EntryKind) (retry : Option Nat)
  | setChannel (tag : Byte) (address channel : Nat) (enabled : Bool) (point constant limit : Nat)
  -- orders
  | order (tag : Byte) (holder : Nat) (kind : OrderKind) (district quantity : Option Nat) (endAction : Option EndAction)
  | repeatOrder (tag : Byte) (holder : Nat)
  | returnHolder (tag : Byte) (holder : Nat)
  -- district requests
  | setDistrict (tag : Byte) (district : Nat) (f : DistrictSettings)
  | districtIn (tag : Byte) (district : Nat)
  | districtOut (tag : Byte) (district : Nat)
  | districtRestore (tag : Byte) (district : Nat)
  | setClock (tag : Byte) (day minute : Nat)
  -- directory requests
  | mapPoint (tag : Byte) (point slot : Nat) (barred global : Bool)
  | linkPoint (tag : Byte) (point target : Nat)
  | unmapPoint (tag : Byte) (point : Nat)
  | bar (tag : Byte) (level : BarLevel) (point : Nat)
  | unbar (tag : Byte) (level : BarLevel) (point : Nat)
  | setRoute (tag : Byte) (route : Nat) (f : RouteSettings)
  | lookPoint (tag : Byte) (point : Nat) (clearBooked : Bool)
  -- account requests
  | openAccount (tag : Byte) (slot : Nat) (kind : AccountKind) (cv : Option Nat)
  | closeAccount (tag : Byte) (slot : Nat)
  | reopenAccount (tag : Byte) (slot : Nat)
  | retireAccount (tag : Byte) (slot : Nat)
  | restoreAccount (tag : Byte) (slot : Nat) (c : AccountContents)
  | adjust (tag : Byte) (source target cuft therms : Nat)
  | closePeriod (tag : Byte)
  -- looks and attention
  | lookHolder (tag : Byte) (holder : Nat)
  | lookDistrict (tag : Byte) (district : Nat)
  | lookAccount (tag : Byte) (slot : Nat)
  | lookBalance (tag : Byte)
  | lookBookingEngine (tag : Byte)
  | lookStore (tag : Byte)
  | lookLine (tag : Byte) (address : Option Nat)
  | lookYard (tag : Byte)
  | lookLink (tag : Byte)
  | readAttention (tag : Byte)
  | ack (tag : Byte) (source : Nat)
  -- modes
  | work (tag : Byte)
  | setup (tag : Byte)
  | resume (tag : Byte)
  -- outstation line
  | pollSent
  /-- Bytes arrive at OLRXD, the last of them ending a frame (09 R167). -/
  | lineFrameEnd (bytes : List Byte)
  | replyWaitExpiry
  | lineDeadNotice
  | lineAliveNotice
  -- holders
  | crownReply (holder : HolderId) (r : CrownReading)
  | moveTimerExpiry (holder : HolderId)
  | crownSilentNotice (holder : HolderId)
  | automaticDraw (holder : HolderId) (district : DistrictId)
  -- districts
  | autoJoinAnswer (holder : HolderId) (district : DistrictId) (result : Result)
  | holderValuesNotice (n : HolderNotice)
  | joinPendingNotice (n : HolderNotice) (district : DistrictId)
  | joinNotice (n : HolderNotice) (district : DistrictId)
  | leaveNotice (n : HolderNotice)
  | withdrawPendingNotice (n : HolderNotice) (district : DistrictId)
  | removeNotice (n : HolderNotice)
  | standingNotice (n : HolderNotice)
  | minuteEvent
  | governorReply (district : DistrictId) (r : GovernorReading)
  | telltaleReply (district : DistrictId) (pressure : Nat)
  | governorSilentNotice (district : DistrictId)
  | telltaleSilentNotice (district : DistrictId)
  -- yard and booking
  | barometerReply (value : Nat)
  | meterReply (address : Nat) (r : MeterReading)
  -- store accesses: each carries the flaws the world has made in the store since the last command (08 R154)
  | walkTableRead (flaws : List Flaw)
  | walkFlagAccess (flaws : List Flaw)
  | commitAccess (flaws : List Flaw)
  | bookedFlagAccess (flaws : List Flaw)
  | directoryAccessEnd (flaws : List Flaw)
  | accountRequestAccess (flaws : List Flaw)
  | retireScanRead (flaws : List Flaw)
  | retireFinalAccess (flaws : List Flaw)
  | closeScanAccess (flaws : List Flaw)
  | bookedPassAccess (flaws : List Flaw)
  | balanceRead (flaws : List Flaw)
  | lookPointRead (flaws : List Flaw)
  | scrubTimerExpiry
  | scrubCheck (flaws : List Flaw)
  | retireCheckAccess (flaws : List Flaw)
  deriving DecidableEq, Repr

/-- A request of the catalogue as REX takes it from a frame (11, "The request catalogue"): the request rows of `Instr`
without their tag, and `outOfRange` for a frame of a known code in which a flag, choice or presence byte names no value
(R201; log entry 11). -/
inductive Request where
  | yardReset
  | lineReset
  | yardHold
  | stop (holder : Nat)
  | isolate (holder : Nat)
  | setYard (f : YardSettings)
  | setHolder (holder : Nat) (f : HolderSettings)
  | setDistrictStations (district : Nat) (governor telltale : Option Nat)
  | setOutstation (address : Nat) (action : OutstationAction) (kind : Option EntryKind) (retry : Option Nat)
  | setChannel (address channel : Nat) (enabled : Bool) (point constant limit : Nat)
  | order (holder : Nat) (kind : OrderKind) (district quantity : Option Nat) (endAction : Option EndAction)
  | repeatOrder (holder : Nat)
  | returnHolder (holder : Nat)
  | setDistrict (district : Nat) (f : DistrictSettings)
  | districtIn (district : Nat)
  | districtOut (district : Nat)
  | districtRestore (district : Nat)
  | setClock (day minute : Nat)
  | mapPoint (point slot : Nat) (barred global : Bool)
  | linkPoint (point target : Nat)
  | unmapPoint (point : Nat)
  | bar (level : BarLevel) (point : Nat)
  | unbar (level : BarLevel) (point : Nat)
  | setRoute (route : Nat) (f : RouteSettings)
  | lookPoint (point : Nat) (clearBooked : Bool)
  | openAccount (slot : Nat) (kind : AccountKind) (cv : Option Nat)
  | closeAccount (slot : Nat)
  | reopenAccount (slot : Nat)
  | retireAccount (slot : Nat)
  | restoreAccount (slot : Nat) (c : AccountContents)
  | adjust (source target cuft therms : Nat)
  | closePeriod
  | lookHolder (holder : Nat)
  | lookDistrict (district : Nat)
  | lookAccount (slot : Nat)
  | lookBalance
  | lookBookingEngine
  | lookStore
  | lookLine (address : Option Nat)
  | lookYard
  | lookLink
  | readAttention
  | ack (source : Nat)
  | work
  | setup
  | resume
  | outOfRange (code : Byte)
  deriving DecidableEq, Repr

end Sys2Proof
end

