-- ==== Sys2Proof/Decode.lean ====
section
/-! DEFINITION. The command that a word spells by the bits of spec/opcode_table.json. The table gives bits to no row: request
frames have codes and fields of their own (11 R201), which Machine/Operands.lean reads. -/

namespace Sys2Proof

/-- No word spells a command: no row of the table has bits. -/
def decodeTableWord (_nbits _w : Nat) : Option Instr := none

end Sys2Proof
end

