-- ==== Sys2Proof/Config.lean ====
section
/-! DEFINITION. The fixed numbers of the HYC-48 that the spec states: capacities, limits and the special bytes. -/

namespace Sys2Proof.Config

/-- Poll list entries (09 R168). -/
def maxEntries : Nat := 48
/-- Booking queue entries (06 R114). -/
def maxQueue : Nat := 16
/-- Booking cache entries (06 R120). -/
def maxCache : Nat := 16
/-- Feeds plus pending joins of a district (04 R41, R62). -/
def maxFeeds : Nat := 3
/-- Places of the request stack (11 R194). -/
def maxStack : Nat := 2
/-- Queued responses at which a frame is discarded (11 R192). -/
def responseRoom : Nat := 4
/-- Store slots (08 R154). -/
def slots : Nat := 344
/-- Account slots (07 R132). -/
def accounts : Nat := 256
/-- Main tables (05 R91). -/
def mainTables : Nat := 24
/-- Point tables (05 R91). -/
def pointTables : Nat := 64
/-- Greatest whole volume of an account, 2^40 - 1 cu ft (01 R9). -/
def maxVolume : Nat := 1099511627775
/-- Greatest whole heat of an account, 2^32 - 1 therms (01 R10), and the top of the 32-bit counts (07 R132). -/
def maxWord : Nat := 4294967295
/-- One therm in units of 1/65536 Btu (01, "account accumulators"). -/
def therm : Nat := 6553600000
/-- Top of the 16-bit counts (08 R160, 09 R176, 11 R200). -/
def maxCount : Nat := 65535
/-- Meter points (05 R89). -/
def maxPoint : Nat := 4095

/-- START begins a frame (09, "frames"). -/
def startByte : Byte := 0xF1
/-- END ends a frame. -/
def endByte : Byte := 0xF2
/-- ESC introduces a complemented byte. -/
def escByte : Byte := 0xF3
/-- ABORT discards the frame in progress. -/
def abortByte : Byte := 0xF4

end Sys2Proof.Config
end

