-- ==== Sys2Proof/Machine/State.lean ====
section
/-! DEFINITION. The state of the HYC-48 as plain data: every record, queue, counter, mark and latch the spec gives each of
its blocks, the messages between blocks that have been given and not yet taken, and the queue of waiting commands. -/

namespace Sys2Proof.Machine

/-- A list of (number, record) pairs, numbers strictly rising and no record equal to the blank one (Ops.lean). -/
abbrev Sparse (α : Type) := List (Nat × α)

/-! ### Holder records (HOC) -/

/-- A valve's intent (02 R21). -/
inductive Valve where
  | opened | closed
  deriving DecidableEq, Repr

/-- A valve's proved position (02 R22, R29). -/
inductive Proved where
  | unknown | opened | closed | moving | conflict
  deriving DecidableEq, Repr

/-- Fault reasons (02 R21, R31). -/
inductive FaultReason where
  | uncommanded | noProof | recoveryMismatch | orphan
  deriving DecidableEq, Repr

/-- Holder states (03 R37). -/
inductive HolderState where
  | recovering | standing | filling | drawing | floating | changing | isolated | faulted
  deriving DecidableEq, Repr

/-- The target of a change-over: a working state, or ISOLATED (03 R45, R57). -/
inductive Target where
  | standing | filling | drawing (d : DistrictId) | floating (d : DistrictId) | isolated
  deriving DecidableEq, Repr

/-- One move of a change-over (03 R45). -/
inductive Move where
  | openInlet | closeInlet | openOutlet | closeOutlet | join (d : DistrictId) | leave
  deriving DecidableEq, Repr

/-- A change-over (02 R22, 03 R45, R46). `started` tells whether the move at `step` has started: a waiting one has not
(03 R60). `timer` is the length in seconds of the move timer while it runs. -/
structure ChangeOver where
  target : Target
  moves : List Move
  step : Nat
  started : Bool
  timer : Option Nat
  deriving DecidableEq, Repr

/-- An order (03 R39). -/
structure Order where
  kind : OrderKind
  district : Option DistrictId
  quantity : Option Nat
  endAction : EndAction
  automatic : Bool
  deriving DecidableEq, Repr

/-- The jump candidate (02 R26). -/
structure Jump where
  height : Nat
  count : Nat
  deriving DecidableEq, Repr

/-- The attention latches of a holder, in rank order (02 R36). -/
structure HolderLatches where
  fault : Bool
  orderShort : Bool
  forcedContinue : Bool
  lowStopWithdrawn : Bool
  crownSilent : Bool
  crownJump : Bool
  orderStopped : Bool
  orderDone : Bool
  crownReturned : Bool
  recovered : Bool
  deriving DecidableEq, Repr

/-- A holder record (02 R19, R21, R22). The crown station entry is held in the poll list, as the entry's linked record. -/
structure Holder where
  fitted : Bool
  lifts : List Lift
  landed : Nat
  lowStop : Nat
  topStop : Nat
  maxStep : Nat
  travel : Nat
  inletIntent : Valve
  outletIntent : Valve
  isolated : Bool
  faulted : Bool
  faultReason : Option FaultReason
  faultStep : Nat
  height : Nat
  temp : Int
  stage : Nat
  stagePressure : Nat
  gv : Nat
  stock : Nat
  stockClamped : Bool
  lastOrder : Option Order
  terminal : Bool
  state : HolderState
  changeOver : Option ChangeOver
  active : Option Order
  next : Option Order
  activationWaits : Bool
  startStock : Option Nat
  remainder : Option Nat
  answering : Bool
  jump : Option Jump
  provedInlet : Proved
  provedOutlet : Proved
  latches : HolderLatches
  deriving DecidableEq, Repr

/-! ### District records (DIC) -/

/-- District states (04 R66). -/
inductive DistrictState where
  | out | serving | short | starved | tripped
  deriving DecidableEq, Repr

/-- A root or main descriptor (05 R90): `table = none` is INVALID. -/
structure Desc where
  table : Option Nat
  barred : Bool
  used : Bool
  deriving DecidableEq, Repr

/-- The attention latches of a district, in rank order (04 R88). -/
structure DistrictLatches where
  tripped : Bool
  starved : Bool
  short : Bool
  autoJoinFailed : Bool
  governorSilent : Bool
  telltaleLow : Bool
  autoJoinStarted : Bool
  deriving DecidableEq, Repr

/-- A district record (04 R62). Its stations are held in the poll list, as the entries' linked records. -/
structure District where
  schedule : List ScheduleStep
  floor : Nat
  ceiling : Nat
  drop : Nat
  ttMin : Nat
  ttBand : Nat
  ttStep : Nat
  compMax : Nat
  autoJoin : Bool
  standby : List HolderId
  state : DistrictState
  comp : Nat
  setPoint : Nat
  loading : Nat
  required : Nat
  feeds : List HolderId
  root : Desc
  inFlight : Option Nat
  acked : Option Nat
  available : Nat
  pendingJoins : List HolderId
  joinInHand : Option HolderId
  ttLow : Bool
  latches : DistrictLatches
  deriving DecidableEq, Repr

/-- DIC's view of one holder (04 R62, R75). -/
structure View where
  answering : Bool
  pressure : Nat
  deriving DecidableEq, Repr

/-- DIC's automatic-join attempt in flight: the automatic DRAW has been placed and its answer is awaited (04 R80). -/
structure Attempt where
  district : DistrictId
  holder : HolderId
  deriving DecidableEq, Repr

/-! ### Outstation line (OLC) -/

/-- The linked record of a poll entry (09 R168). -/
inductive Link where
  | none | holder (h : HolderId) | district (d : DistrictId) | yard
  deriving DecidableEq, Repr

/-- States of a poll entry (09 R168). -/
inductive EntryState where
  | untried | answering | silent
  deriving DecidableEq, Repr

/-- A valve drive (03 R46). -/
inductive Drive where
  | inletOpen | inletClosed | outletOpen | outletClosed
  deriving DecidableEq, Repr

/-- A pending command (09 R174). -/
inductive Command where
  | drive (d : Drive) | loading (l : Nat)
  deriving DecidableEq, Repr

/-- The values of an entry's last good reply (09 R168, R173). -/
inductive Reading where
  | crown (r : CrownReading) | meter (r : MeterReading) | governor (r : GovernorReading) | telltale (pressure : Nat)
  | barometer (value : Nat)
  deriving DecidableEq, Repr

/-- A meter channel (06 R110). -/
structure Channel where
  enabled : Bool
  point : Nat
  constant : Nat
  limit : Nat
  base : Nat
  baseTaken : Bool
  latest : Option Nat
  waiting : Bool
  deriving DecidableEq, Repr

/-- A poll list entry (09 R168). The channels of an entry that is no METER stand at their starting values. `handed` tells that
`last` came in a reply handed to the owner the entry is linked to now: a later link does not take up the values that stood
there before it (R173). -/
structure PollEntry where
  address : Nat
  kind : EntryKind
  link : Link
  retry : Nat
  channels : Vector Channel 4
  state : EntryState
  misses : Nat
  command : Option Command
  last : Option Reading
  handed : Bool
  deriving DecidableEq, Repr

/-- The attempt in flight (09 R171): the polled address, whether the poll is still being sent, the command it carries, the
reply wait that runs for it, and whether its turn is the single attempt of a SILENT entry (R172). -/
structure Exchange where
  address : Nat
  sending : Bool
  command : Option Command
  wait : Nat
  single : Bool
  deriving DecidableEq, Repr

/-- A receiver of frames (09 R167, 11 R191): its state with the unescaped bytes of the partial frame. -/
inductive Rx where
  | hunt | frame (bytes : List Byte) | escaped (bytes : List Byte)
  deriving DecidableEq, Repr

/-- The line latches with their detail, in rank order (09 R177). -/
structure LineLatches where
  lineDead : Bool
  silent : Option (List Nat)
  returned : Option (List Nat)
  checkError : Option Nat
  abort : Option Nat
  unexpected : Option (Nat × Nat)
  deriving DecidableEq, Repr

/-- The outstation line (09). A position counts the entries up to and including the one it stands on; 0 is the head
(R170). `tx` holds the poll being sent; OLDIR is high while it holds any byte (R165). `gaveUp` tells that the poll before it was
given up: ABORT went out in place of the rest of its frame and OLDIR was lowered (R165). `lateFrame` tells that a wait has
ended without the frame the receiver had begun, and that the next poll is going out while that frame is still received to its
end (R167, R169, R171; log entry 30). -/
structure Line where
  entries : List PollEntry
  ordPos : Nat
  fastPos : Nat
  turnCount : Nat
  exchange : Option Exchange
  tx : List Byte
  gaveUp : Bool
  lateFrame : Bool
  rx : Rx
  checkErrors : Nat
  aborts : Nat
  unexpected : Nat
  dead : Bool
  latches : LineLatches
  deriving DecidableEq, Repr

/-! ### Meter directory and booking (BKE) -/

/-- Kind and target of a leaf (05 R90). -/
inductive LeafKind where
  | invalid | account (slot : Nat) | indirect (point : Nat)
  deriving DecidableEq, Repr

/-- A leaf descriptor (05 R90). -/
structure Leaf where
  kind : LeafKind
  barred : Bool
  used : Bool
  booked : Bool
  global : Bool
  deriving DecidableEq, Repr

/-- A leaf's position with its kind and target as read (05 R92, R98). -/
structure LeafRef where
  table : Nat
  index : Nat
  kind : LeafKind
  deriving DecidableEq, Repr

/-- Reasons of a NO-ROUTE outcome (05 R98). -/
inductive NoRoute where
  | invalidRoot | invalidMain | invalidLeaf | badIndirect | damaged
  deriving DecidableEq, Repr

/-- The access a walk awaits (05 R94 to R96): a main table's read, the USED access of the main descriptor it read (which
names the point table to go on to), a point table's read, or the USED access of the leaf it read. -/
inductive WalkLevel where
  | mainRead (table : Nat)
  | mainFlag (table : Nat) (next : Nat)
  | pointRead (table : Nat)
  | leafFlag (table : Nat) (leaf : Leaf)
  deriving DecidableEq, Repr

/-- A walk in flight (05 R93). `target` is the target meter point once an indirect leaf has been passed, and `own` the
position of that leaf. -/
structure Walk where
  point : Nat
  level : WalkLevel
  barred : Bool
  target : Option Nat
  own : Option LeafRef
  stale : Bool
  deriving DecidableEq, Repr

/-- Where an ACCOUNT resolution came from (06 R119); a walk gives the point's own leaf. -/
inductive Origin where
  | route | cache | walk (own : LeafRef)
  deriving DecidableEq, Repr

/-- A resolution of the booking in hand (06 R119). -/
inductive Resolution where
  | account (slot : Nat) (barred global : Bool) (origin : Origin)
  | noRoute (reason : NoRoute)
  deriving DecidableEq, Repr

/-- The phases of the booking in hand (06, "The booking cycle"); IDLE is no booking in hand. COMMITTING holds the
resolution, or none for the IMPLAUSIBLE finding, and the resolution's stale mark (R122); MARKING holds the slot and the
accumulated BARRED the booking was resolved to, with the leaf to be marked. -/
inductive Phase where
  | resolving (w : Walk)
  | committing (r : Option Resolution) (stale : Bool)
  | marking (slot : Nat) (barred : Bool) (own : LeafRef)
  deriving DecidableEq, Repr

/-- An entry of the booking queue (06 R114). -/
structure QueueEntry where
  address : Nat
  channel : Fin 4
  target : Nat
  pressure : Nat
  temp : Int
  deriving DecidableEq, Repr

/-- The booking in hand (06 R118). -/
structure InHand where
  address : Nat
  channel : Fin 4
  target : Nat
  pressure : Nat
  temp : Int
  point : Nat
  constant : Nat
  limit : Nat
  pulses : Nat
  phase : Phase
  deriving DecidableEq, Repr

/-- An entry of the booking cache (06 R120). -/
structure CacheEntry where
  point : Nat
  slot : Nat
  barred : Bool
  global : Bool
  deriving DecidableEq, Repr

/-- Reasons of diversion (06 R124). -/
inductive Divert where
  | implausible | noRoute | barred | closed | damaged | full
  deriving DecidableEq, Repr

/-- The DIVERTED latch: the reasons seen, and the channel and point of the latest (06 R130). -/
structure DivertedLatch where
  reasons : List Divert
  address : Nat
  channel : Fin 4
  point : Nat
  deriving DecidableEq, Repr

/-- The IMPLAUSIBLE latch (06 R130). -/
structure ImplausibleLatch where
  address : Nat
  channel : Fin 4
  pulses : Nat
  deriving DecidableEq, Repr

/-- The booking engine (06). The cache stands most recent first (R120). -/
structure Bke where
  queue : List QueueEntry
  inHand : Option InHand
  cache : List CacheEntry
  routes : Vector RouteSettings 2
  diverted : Option DivertedLatch
  implausible : Option ImplausibleLatch
  deriving DecidableEq, Repr

/-! ### Record store (RST) -/

/-- The account state held in the record's own words (07 R132); DAMAGED is the slot's status (08 R154). -/
inductive AccountState where
  | free | opened | closed
  deriving DecidableEq, Repr

/-- The six diverted counts of slot 0 (07 R132). -/
structure DivertCounts where
  implausible : Nat
  noRoute : Nat
  barred : Nat
  closed : Nat
  damaged : Nat
  full : Nat
  deriving DecidableEq, Repr

/-- An account record (07 R132). A FREE slot has no kind. -/
structure Account where
  state : AccountState
  kind : Option AccountKind
  cv : Option Nat
  period : Nat
  volume : Nat
  volumeRes : Nat
  heat : Nat
  heatRes : Nat
  bookings : Nat
  clampedBookings : Nat
  limitReached : Bool
  prevVolume : Nat
  prevHeat : Nat
  prevBookings : Nat
  diverts : DivertCounts
  deriving DecidableEq, Repr

/-- The allocation record of an allocated main table (05 R91). -/
structure MainAlloc where
  district : DistrictId
  provisional : Bool
  deriving DecidableEq, Repr

/-- The allocation record of an allocated point table (05 R91). -/
structure PointAlloc where
  main : Nat
  index : Nat
  provisional : Bool
  deriving DecidableEq, Repr

/-- The three requesters of the store arbiter (08 R163). -/
inductive Requester where
  | bke | rex | scrub
  deriving DecidableEq, Repr

/-- The access being served, with what it read from outside the store when it was granted: the yard period, the barometer
in use, the declared CV, and the stale mark of BKE's resolution (06 R122, R125; 08 R163). -/
structure Grant where
  requester : Requester
  period : Nat
  barometer : Nat
  declaredCv : Nat
  stale : Bool
  deriving DecidableEq, Repr

/-- The store arbiter (08 R163). -/
structure Arbiter where
  serving : Option Grant
  bkeWaits : Bool
  rexWaits : Bool
  scrubWaits : Bool
  count : Nat
  deriving DecidableEq, Repr

/-- The DAMAGED latch of the store (08 R160). -/
structure DamagedLatch where
  slot : Nat
  reads : Nat
  deriving DecidableEq, Repr

/-- The record store (08). `flaws` gives the number of flawed words of a store slot and `damaged` its status; both go by
store slot number 0..343, the tables by table number. -/
structure Rst where
  accounts : Sparse Account
  mains : Sparse (Sparse Desc)
  points : Sparse (Sparse Leaf)
  flaws : Sparse Nat
  damaged : Sparse Bool
  mainAlloc : Sparse (Option MainAlloc)
  pointAlloc : Sparse (Option PointAlloc)
  freeMains : List Nat
  freePoints : List Nat
  corrected : Nat
  lastCorrected : Option Nat
  damagedReads : Nat
  lastDamaged : Option Nat
  damagedLatch : Option DamagedLatch
  correctedLatch : Option Nat
  scrubPointer : Nat
  scrubPending : Bool
  scrubTimer : Option Nat
  arbiter : Arbiter
  deriving DecidableEq, Repr

/-! ### Request executor (REX) -/

/-- Whole cubic feet and therms of one balance figure (07 R147). -/
structure Figure where
  cuft : Nat
  therms : Nat
  deriving DecidableEq, Repr

/-- The sums of a close scan or of LOOK BALANCE (07 R147, R153). -/
structure Sums where
  receipts : Figure
  sendOut : Figure
  worksUse : Figure
  suspense : Figure
  counted : Nat
  skipped : Nat
  deriving DecidableEq, Repr

/-- What a table read showed of one descriptor: the table, the descriptor, and whether the table was damaged. -/
structure MainRead where
  table : Nat
  desc : Desc
  damaged : Bool
  deriving DecidableEq, Repr

/-- What a table read showed of one leaf. -/
structure LeafRead where
  table : Nat
  leaf : Leaf
  damaged : Bool
  deriving DecidableEq, Repr

/-- What LOOK-POINT reports of one path (05 R107). -/
structure PathReport where
  root : Desc
  main : Option MainRead
  leaf : Option LeafRead
  deriving DecidableEq, Repr

/-- The access LOOK-POINT awaits (05 R107): a read of a main or point table on its own or the target's path, or the flag
access that clears BOOKED. -/
inductive LookStage where
  | ownMain (table : Nat) | ownPoint (table : Nat) | targetMain (table : Nat) | targetPoint (table : Nat)
  | clearBooked (own : LeafRef)
  deriving DecidableEq, Repr

/-- LOOK-POINT in progress (05 R107). -/
structure LookWork where
  stage : LookStage
  own : PathReport
  target : Option PathReport
  deriving DecidableEq, Repr

/-- One action of a directory change request (05 R103 to R106, R109): the writes that take a store access, the re-reads of
UNMAP-POINT, and the changes of the district record, the allocation records and the routes, which take none. -/
inductive DirAction where
  | allocMain (table : Nat) (d : DistrictId)
  | allocPoint (table main index : Nat)
  | reinitMain (table : Nat)
  | reinitPoint (table : Nat)
  | writeMain (table index : Nat) (desc : Desc)
  | writeLeaf (table index : Nat) (leaf : Leaf)
  | barMain (table index : Nat) (barred : Bool)
  | barLeaf (table index : Nat) (barred : Bool)
  | recheckPoint (main index point : Nat) (barred : Bool)
  | recheckMain (main : Nat)
  | setRoot (d : DistrictId) (root : Desc)
  | barRoot (d : DistrictId) (barred : Bool)
  | freeChildren (main : Nat)
  | freeMain (table : Nat)
  | freePoint (table : Nat)
  | setRoute (route : Fin 2) (f : RouteSettings)
  deriving DecidableEq, Repr

/-- A directory change request in progress (05 R102): the check read it awaits, or the actions it has yet to make. -/
inductive DirWork where
  | account
  | targetMain (table : Nat)
  | targetPoint (table : Nat)
  | ownMain (table : Nat)
  | ownPoint (main : Nat) (desc : Desc) (table : Nat)
  | actions (plan : List DirAction)
  deriving DecidableEq, Repr

/-- A leaf whose BOOKED flag the pass of CLOSE-PERIOD has yet to clear, as its read found it; `stands` tells that BKE has set the
flag again since that read (07 R148). -/
structure PassLeaf where
  own : LeafRef
  stands : Bool
  deriving DecidableEq, Repr

/-- The progress of the started head of the request stack: which access it awaits, and what it has gathered (11 R194). -/
inductive HeadWork where
  | account
  | retireCheck
  | retireScan (left : List Nat)
  | retireFinal
  | closeScan (slot : Nat) (sums : Sums)
  | closePass (tables : List Nat) (leaves : List PassLeaf) (sums : Sums)
  | balance (slot : Nat) (sums : Sums)
  | lookPoint (w : LookWork)
  | directory (w : DirWork)
  deriving DecidableEq, Repr

/-- A request on the stack (11 R194). -/
structure Stacked where
  tag : Byte
  request : Request
  started : Bool
  deriving DecidableEq, Repr

/-- One field of an answer in the form of 11 R201: a number of so many bytes, a signed number, a choice, a flag, a
presence byte or a count byte. -/
inductive Field where
  | num (width value : Nat)
  | int (width : Nat) (value : Int)
  | choice (index : Nat)
  | flag (set : Bool)
  | presence (present : Bool)
  | count (items : Nat)
  deriving DecidableEq, Repr

/-- A response (11 R193, "Link response frame"). -/
structure Response where
  tag : Byte
  code : Byte
  result : Result
  fields : List Field
  deriving DecidableEq, Repr

/-- The request executor's link side (11). The response queue's head is the response being sent (R193). -/
structure Rex where
  stack : List Stacked
  work : Option HeadWork
  responses : List Response
  rx : Rx
  badFrames : Nat
  aborts : Nat
  discards : Nat
  deriving DecidableEq, Repr

/-! ### Yard and balance records -/

/-- Yard modes (10 R181). -/
inductive Mode where
  | setup | working | hold
  deriving DecidableEq, Repr

/-- Causes of RESTARTED (10 R190). -/
inductive RestartCause where
  | powerOn | freshStart | yardReset
  deriving DecidableEq, Repr

/-- Causes of HOLD-ENTERED (10 R190). -/
inductive HoldCause where
  | yardHold | lineDead
  deriving DecidableEq, Repr

/-- The yard record with the clock it reads and the yard latches (10 R181, R190). `barometerTaken` tells that a good
barometer reply has been taken since the reset (10 R182). -/
structure Yard where
  mode : Mode
  declaredCv : Nat
  fallback : Nat
  barometer : Nat
  barometerTaken : Bool
  period : Nat
  closeUnfinished : Bool
  day : Nat
  minute : Nat
  bookingShare : Nat
  fastShare : Nat
  replyWait : Nat
  scrubInterval : Nat
  priority : PriorityOrder
  restarted : Option RestartCause
  holdEntered : Option HoldCause
  periodClosed : Option Nat
  deriving DecidableEq, Repr

/-- A signed balance figure (07 R151). -/
structure SignedFigure where
  cuft : Int
  therms : Int
  deriving DecidableEq, Repr

/-- A day and minute of the yard clock (07 R151). -/
structure Time where
  day : Nat
  minute : Nat
  deriving DecidableEq, Repr

/-- The balance record (07 R151). -/
structure Balance where
  start : Time
  startStocks : Vector Nat 6
  prevStart : Time
  prevStocks : Vector Nat 6
  previous : Sums
  stockChange : SignedFigure
  unaccounted : SignedFigure
  unfinished : Bool
  deriving DecidableEq, Repr

/-! ### The whole part -/

/-- The state of the HYC-48. `inTransit` holds the messages blocks have given and not yet taken, in the order given, each as
the command that is its arrival (log entry 4). `running` is clear from the failure of the main supply to power-on.
`pending` is the queue of waiting commands, first in, first out. -/
structure State where
  yard : Yard
  balance : Balance
  holders : Vector Holder 6
  districts : Vector District 8
  views : Vector View 6
  occasions : List DistrictId
  attempt : Option Attempt
  line : Line
  bke : Bke
  rst : Rst
  rex : Rex
  inTransit : List Instr
  running : Bool
  pending : List Instr
  deriving DecidableEq, Repr

/-- Why the machine stops with a fault. It never does: the spec gives every command an effect or a result code, so the type
has no constructor (safe: a claim that no fault happens is a claim about every command's meaning). -/
inductive Fault where
  deriving DecidableEq, Repr

/-- Why a command has no meaning. `notModelled` is raised by `exec` alone, for a command whose meaning is not written
(safe: nothing is claimed of it). -/
inductive Refusal where
  | notModelled (mnemonic : String)
  deriving DecidableEq, Repr

/-! ### Starting values -/

/-- All holder latches clear (02 R36). -/
def HolderLatches.clear : HolderLatches :=
  ⟨false, false, false, false, false, false, false, false, false, false⟩

/-- All district latches clear (04 R88). -/
def DistrictLatches.clear : DistrictLatches := ⟨false, false, false, false, false, false, false⟩

/-- All line latches clear (09 R177). -/
def LineLatches.clear : LineLatches := ⟨false, none, none, none, none, none⟩

/-- The record of a holder not fitted, with the starting configuration of 10 R183. The fields the spec gives no value to
while no holder is fitted stand at the values fitting gives them (02 R20; DESIGN CHOICE, log entry 1). -/
def Holder.unfitted : Holder where
  fitted := false
  lifts := [⟨100, 100, 1⟩]
  landed := 0
  lowStop := 0
  topStop := 100
  maxStep := 10
  travel := 120
  inletIntent := .closed
  outletIntent := .closed
  isolated := false
  faulted := false
  faultReason := none
  faultStep := 0
  height := 0
  temp := 600
  stage := 0
  stagePressure := 0
  gv := 0
  stock := 0
  stockClamped := false
  lastOrder := none
  terminal := false
  state := .recovering
  changeOver := none
  active := none
  next := none
  activationWaits := false
  startStock := none
  remainder := none
  answering := false
  jump := none
  provedInlet := .unknown
  provedOutlet := .unknown
  latches := HolderLatches.clear

/-- An INVALID root or main descriptor with its flags clear (05 R90). -/
def Desc.invalid : Desc := ⟨none, false, false⟩

/-- An INVALID leaf (05 R90). -/
def Leaf.invalid : Leaf := ⟨.invalid, false, false, false, false⟩

/-- The starting values of a district record (04 R62). -/
def District.starting : District where
  schedule := [⟨0, 30⟩]
  floor := 20
  ceiling := 150
  drop := 0
  ttMin := 5
  ttBand := 1
  ttStep := 1
  compMax := 0
  autoJoin := false
  standby := []
  state := .out
  comp := 0
  setPoint := 30
  loading := 30
  required := 30
  feeds := []
  root := Desc.invalid
  inFlight := none
  acked := none
  available := 0
  pendingJoins := []
  joinInHand := none
  ttLow := false
  latches := DistrictLatches.clear

/-- The starting values of a meter channel (06 R110). -/
def Channel.starting : Channel := ⟨false, 0, 1, 4095, 0, false, none, false⟩

/-- The starting values of a direct route (05 R100). -/
def startingRoute : RouteSettings := ⟨false, 0, 0, none, false⟩

/-- Diverted counts all zero. -/
def DivertCounts.zero : DivertCounts := ⟨0, 0, 0, 0, 0, 0⟩

/-- The record of a FREE account slot (07 R132). -/
def Account.free : Account :=
  ⟨.free, none, none, 0, 0, 0, 0, 0, 0, 0, false, 0, 0, 0, DivertCounts.zero⟩

/-- A fresh suspense account at the given period (07 R132, 08 R157). -/
def Account.suspense (period : Nat) : Account :=
  ⟨.opened, some .suspense, none, period, 0, 0, 0, 0, 0, 0, false, 0, 0, 0, DivertCounts.zero⟩

/-- Sums before the first slot (07 R147). -/
def Sums.zero : Sums := ⟨⟨0, 0⟩, ⟨0, 0⟩, ⟨0, 0⟩, ⟨0, 0⟩, 0, 0⟩

/-- An idle arbiter (08 R163). -/
def Arbiter.idle : Arbiter := ⟨none, false, false, false, 0⟩

/-- The store started afresh (10 R183), with the scrubber as after a reset (08 R162). -/
def Rst.fresh : Rst where
  accounts := [(0, Account.suspense 0)]
  mains := []
  points := []
  flaws := []
  damaged := []
  mainAlloc := []
  pointAlloc := []
  freeMains := List.range Config.mainTables
  freePoints := List.range Config.pointTables
  corrected := 0
  lastCorrected := none
  damagedReads := 0
  lastDamaged := none
  damagedLatch := none
  correctedLatch := none
  scrubPointer := 0
  scrubPending := false
  scrubTimer := some 10
  arbiter := Arbiter.idle

/-- An empty poll list on a quiet line (09 R168, R180). -/
def Line.empty : Line where
  entries := []
  ordPos := 0
  fastPos := 0
  turnCount := 0
  exchange := none
  tx := []
  gaveUp := false
  lateFrame := false
  rx := .hunt
  checkErrors := 0
  aborts := 0
  unexpected := 0
  dead := false
  latches := LineLatches.clear

/-- The booking engine at rest with both routes at their starting values (05 R100, 06 R129). -/
def Bke.fresh : Bke := ⟨[], none, [], Vector.replicate 2 startingRoute, none, none⟩

/-- The link side of REX after power-on (11 R193, R194, R200). -/
def Rex.empty : Rex := ⟨[], none, [], .hunt, 0, 0, 0⟩

/-- The starting values of the yard record (10 R181), in SETUP, with RESTARTED latched for a fresh start (R190). -/
def Yard.starting : Yard where
  mode := .setup
  declaredCv := 500
  fallback := 2992
  barometer := 2992
  barometerTaken := false
  period := 0
  closeUnfinished := false
  day := 0
  minute := 0
  bookingShare := 2
  fastShare := 2
  replyWait := 200
  scrubInterval := 10
  priority := .a
  restarted := some .freshStart
  holdEntered := none
  periodClosed := none

/-- The balance record of a fresh start (07 R151). Both start times are the yard clock's once the same fresh start has written it,
day 0 and minute 0 (10 R181; DESIGN CHOICE, log entry 46). -/
def Balance.starting : Balance where
  start := ⟨0, 0⟩
  startStocks := Vector.replicate 6 0
  prevStart := ⟨0, 0⟩
  prevStocks := Vector.replicate 6 0
  previous := Sums.zero
  stockChange := ⟨0, 0⟩
  unaccounted := ⟨0, 0⟩
  unfinished := false

/-- The machine right after reset: power-on with the backed state started afresh (10 R183, R188). -/
def State.reset : State where
  yard := Yard.starting
  balance := Balance.starting
  holders := Vector.replicate 6 Holder.unfitted
  districts := Vector.replicate 8 District.starting
  views := Vector.replicate 6 ⟨false, 0⟩
  occasions := []
  attempt := none
  line := Line.empty
  bke := Bke.fresh
  rst := Rst.fresh
  rex := Rex.empty
  inTransit := []
  running := true
  pending := []

end Sys2Proof.Machine
end

