-- ==== Sys2Proof/Machine/Ops.lean ====
section
/-! DEFINITION. The named operations over the state: sparse stores in canonical form, the blocks' records, the messages in
transit, clamps and counts. -/

namespace Sys2Proof.Machine

/-! ### Sparse stores -/

/-- What stands at number `n`: the listed record, or the blank one. -/
def readAt {α : Type} (blank : α) : Sparse α → Nat → α
  | [], _ => blank
  | (k, v) :: m, n => if n = k then v else readAt blank m n

/-- The store with `v` at number `n`, kept in canonical form: rising numbers, no blank record listed. -/
def writeAt {α : Type} [DecidableEq α] (blank : α) : Sparse α → Nat → α → Sparse α
  | [], n, v => if v = blank then [] else [(n, v)]
  | (k, w) :: m, n, v =>
    if n < k then (if v = blank then (k, w) :: m else (n, v) :: (k, w) :: m)
    else if n = k then (if v = blank then m else (k, v) :: m)
    else (k, w) :: writeAt blank m n v

/-- All listed numbers lie above `n`. -/
def allAbove {α : Type} (n : Nat) : Sparse α → Bool
  | [] => true
  | (k, _) :: m => decide (n < k) && allAbove n m

/-- The canonical form of a sparse store. -/
def canonical {α : Type} [DecidableEq α] (blank : α) : Sparse α → Bool
  | [] => true
  | (k, v) :: m => decide (v ≠ blank) && allAbove k m && canonical blank m

/-! ### Numbers -/

/-- `v` clamped to `lo..hi` (00, "Clamping"). -/
def clampTo (lo hi v : Nat) : Nat := if v < lo then lo else if hi < v then hi else v

/-- A signed value clamped to `lo..hi`. -/
def clampInt (lo hi v : Int) : Int := if v < lo then lo else if hi < v then hi else v

/-- A count raised by one, stopping at the top. -/
def bump (top n : Nat) : Nat := if n < top then n + 1 else top

/-- `lo ≤ v ≤ hi`. -/
def within (lo hi v : Nat) : Bool := decide (lo ≤ v) && decide (v ≤ hi)

/-- An absent value, or one in range. -/
def optWithin (lo hi : Nat) : Option Nat → Bool
  | none => true
  | some v => within lo hi v

/-- An item joins the tail of a list that does not yet hold it. -/
def addNew {α : Type} [DecidableEq α] (l : List α) (x : α) : List α := if x ∈ l then l else l ++ [x]

/-- An item is taken out of a list; the others keep their order. -/
def without {α : Type} [DecidableEq α] (l : List α) (x : α) : List α := l.filter (· ≠ x)

/-! ### Fixed numbers of records -/

/-- A function on each of four records. -/
def mapFour {α β : Type} (f : α → β) (v : Vector α 4) : Vector β 4 := #v[f v[0], f v[1], f v[2], f v[3]]

/-- A function on each of six records. -/
def mapSix {α β : Type} (f : α → β) (v : Vector α 6) : Vector β 6 :=
  #v[f v[0], f v[1], f v[2], f v[3], f v[4], f v[5]]

/-- A function on each of eight records. -/
def mapEight {α β : Type} (f : α → β) (v : Vector α 8) : Vector β 8 :=
  #v[f v[0], f v[1], f v[2], f v[3], f v[4], f v[5], f v[6], f v[7]]

/-! ### Records of the blocks -/

/-- H0..H5 in order. -/
def holderIds : List HolderId := [0, 1, 2, 3, 4, 5]

/-- D0..D7 in order. -/
def districtIds : List DistrictId := [0, 1, 2, 3, 4, 5, 6, 7]

/-- The holder a number names, if any (02, "The holder record"). -/
def holderOf (n : Nat) : Option HolderId := if h : n < 6 then some ⟨n, h⟩ else none

/-- The district a number names, if any (04 R62). -/
def districtOf (n : Nat) : Option DistrictId := if h : n < 8 then some ⟨n, h⟩ else none

/-- The record of a holder. -/
def State.holder (s : State) (h : HolderId) : Holder := s.holders[h]

/-- Replace a holder's record. -/
def State.setHolder (s : State) (h : HolderId) (r : Holder) : State := { s with holders := s.holders.set h r }

/-- Change a holder's record. -/
def State.modHolder (s : State) (h : HolderId) (f : Holder → Holder) : State := s.setHolder h (f (s.holder h))

/-- The record of a district. -/
def State.district (s : State) (d : DistrictId) : District := s.districts[d]

/-- Change a district's record. -/
def State.modDistrict (s : State) (d : DistrictId) (f : District → District) : State :=
  { s with districts := s.districts.set d (f (s.district d)) }

/-- DIC's view of a holder. -/
def State.view (s : State) (h : HolderId) : View := s.views[h]

/-- Replace DIC's view of a holder. -/
def State.setView (s : State) (h : HolderId) (v : View) : State := { s with views := s.views.set h v }

/-- Change the yard record. -/
def State.modYard (s : State) (f : Yard → Yard) : State := { s with yard := f s.yard }

/-- Change the balance record. -/
def State.modBalance (s : State) (f : Balance → Balance) : State := { s with balance := f s.balance }

/-- Change the outstation line. -/
def State.modLine (s : State) (f : Line → Line) : State := { s with line := f s.line }

/-- Change the booking engine. -/
def State.modBke (s : State) (f : Bke → Bke) : State := { s with bke := f s.bke }

/-- Change the record store. -/
def State.modRst (s : State) (f : Rst → Rst) : State := { s with rst := f s.rst }

/-- Change the request executor. -/
def State.modRex (s : State) (f : Rex → Rex) : State := { s with rex := f s.rex }

/-- A block gives a message: it stands in transit until the command that is its arrival (log entry 4). -/
def State.send (s : State) (m : Instr) : State := { s with inTransit := s.inTransit ++ [m] }

/-- A message is taken: the first one like it leaves the messages in transit. -/
def State.taken (s : State) (m : Instr) : State := { s with inTransit := s.inTransit.erase m }

/-- A command acts only while the part runs (10, "Power-on and YARD-RESET"): between the failure of the main supply and
power-on nothing but the clock goes on. -/
def whenRunning (s : State) (f : State → State) : Host.Outcome State Fault Refusal :=
  if s.running then .next (f s) else .next s

end Sys2Proof.Machine
end

