-- ==== Sys2Proof/Machine/Operands.lean ====
section
/-! DEFINITION. Frames and the forms of their fields: numbers as bytes, the check, escaping, the frame receivers (09 R165 to
R167, 11 R191), the request catalogue's codes and field forms (11 R201), and the poll and reply payloads (11, "Outstation
frames"). -/

namespace Sys2Proof.Machine

/-! ### Numbers as bytes -/

/-- A number in so many bytes, the more significant byte first (11, "Frame layouts"). -/
def numBytes : Nat → Nat → List Byte
  | 0, _ => []
  | w + 1, v => BitVec.ofNat 8 (v / 256 ^ w) :: numBytes w v

/-- The number that bytes hold, the more significant byte first. -/
def bytesNum (bs : List Byte) : Nat := bs.foldl (fun n b => n * 256 + b.toNat) 0

/-- A signed number in two's complement over so many bytes. -/
def intBytes (w : Nat) (v : Int) : List Byte := numBytes w (v % (256 ^ w : Nat)).toNat

/-- The signed number that two bytes hold in two's complement. -/
def signed16 (n : Nat) : Int := if n < 32768 then n else (n : Int) - 65536

/-- The bytes of one answer or request field (11 R201). -/
def Field.bytes : Field → List Byte
  | .num w v => numBytes w v
  | .int w v => intBytes w v
  | .choice i => numBytes 1 i
  | .flag b => [if b then 1 else 0]
  | .presence b => [if b then 1 else 0]
  | .count n => numBytes 1 n

/-- The bytes of a sequence of fields. -/
def fieldBytes (fs : List Field) : List Byte := fs.flatMap Field.bytes

/-- A field that may be absent, behind its presence byte (11 R201). -/
def optField {α : Type} (f : α → List Field) : Option α → List Field
  | none => [.presence false]
  | some a => .presence true :: f a

/-- A list: one count byte, then the items (11 R201). -/
def listField {α : Type} (f : α → List Field) (l : List α) : List Field := .count l.length :: l.flatMap f

/-! ### Frames -/

/-- The check over unescaped bytes from position `i` on (09 R166). -/
def checkFrom : Nat → List Byte → Nat
  | _, [] => 0
  | i, b :: bs => i * b.toNat + checkFrom (i + 1) bs

/-- The check of a frame's bytes (09 R166). -/
def frameCheck (bs : List Byte) : Nat := checkFrom 1 bs % 65536

/-- The four byte values with a meaning of their own (09, "frames"). -/
def isSpecial (b : Byte) : Bool :=
  b == Config.startByte || b == Config.endByte || b == Config.escByte || b == Config.abortByte

/-- A frame byte as sent: a special one as ESC and its complement (09 R165). -/
def escapeByte (b : Byte) : List Byte := if isSpecial b then [Config.escByte, ~~~b] else [b]

/-- A frame on the wire: START, the escaped bytes and check, END (09 R165). -/
def wireFrame (body : List Byte) : List Byte :=
  Config.startByte :: (body ++ numBytes 2 (frameCheck body)).flatMap escapeByte ++ [Config.endByte]

/-- The form of a receiver's frames: how many length bytes follow the two header bytes, and the greatest length. -/
structure Form where
  lengthBytes : Nat
  maxLength : Nat
  deriving DecidableEq, Repr

/-- Outstation frames: one length byte, at most 40 (09, "frames"). -/
def lineForm : Form := ⟨1, 40⟩

/-- Link request frames: two length bytes, at most 128 (11 R191). -/
def linkForm : Form := ⟨2, 128⟩

/-- Bytes up to and including the length. -/
def Form.header (f : Form) : Nat := 2 + f.lengthBytes

/-- The length a frame's bytes carry. -/
def Form.length (f : Form) (bs : List Byte) : Nat := bytesNum ((bs.drop 2).take f.lengthBytes)

/-- The bytes of a whole frame with the length its bytes carry. -/
def Form.total (f : Form) (bs : List Byte) : Nat := f.header + f.length bs + 2

/-- How a receiver ends a frame: whole (its bytes without the check), bad (the bytes it reached), or by ABORT. -/
inductive FrameEnd where
  | whole (body : List Byte) | bad (bytes : List Byte) | aborted
  deriving DecidableEq, Repr

/-- A frame byte is taken: an excessive length, and a byte after the second check byte, end the frame as bad (09 R167). -/
def Form.take (f : Form) (acc : List Byte) (b : Byte) : Rx × Option FrameEnd :=
  let acc := acc ++ [b]
  if acc.length = f.header ∧ f.maxLength < f.length acc then (.hunt, some (.bad acc))
  else if f.header < acc.length ∧ f.total acc < acc.length then (.hunt, some (.bad acc))
  else (.frame acc, none)

/-- An END is judged by where it comes and by the check (09 R167). -/
def Form.judge (f : Form) (acc : List Byte) : FrameEnd :=
  if f.header ≤ acc.length ∧ acc.length = f.total acc then
    let body := acc.take (acc.length - 2)
    if bytesNum (acc.drop (acc.length - 2)) = frameCheck body then .whole body else .bad acc
  else .bad acc

/-- The byte an escaped byte stands for (09 R167). -/
def unescape (b : Byte) : Option Byte := if isSpecial (~~~b) then some (~~~b) else none

/-- One byte at a receiver (the table of 09 R167). The END of a complete good frame takes the receiver to HUNT, as every
other END in FRAME does: for a good frame the rule names no state (DEDUCED, log entry 45). -/
def Form.step (f : Form) (rx : Rx) (b : Byte) : Rx × Option FrameEnd :=
  match rx with
  | .hunt => if b = Config.startByte then (.frame [], none) else (.hunt, none)
  | .frame acc =>
    if b = Config.startByte then (.frame [], some (.bad acc))
    else if b = Config.abortByte then (.hunt, some .aborted)
    else if b = Config.escByte then (.escaped acc, none)
    else if b = Config.endByte then (.hunt, some (f.judge acc))
    else f.take acc b
  | .escaped acc =>
    if b = Config.startByte then (.frame [], some (.bad acc))
    else if b = Config.abortByte then (.hunt, some .aborted)
    else match unescape b with
      | some c => f.take acc c
      | none => (.hunt, some (.bad acc))

/-! ### Values numbered from 00h -/

end Sys2Proof.Machine

namespace Sys2Proof

open Machine

/-- The number of a choice value: its place in the list of its rule (11 R201). -/
def OrderKind.index : OrderKind → Nat
  | .draw => 0 | .fill => 1 | .float => 2 | .stand => 3

def EndAction.index : EndAction → Nat
  | .stand => 0 | .cont => 1

def EntryKind.index : EntryKind → Nat
  | .crown => 0 | .meter => 1 | .governor => 2 | .telltale => 3 | .barometer => 4

def AccountKind.index : AccountKind → Nat
  | .receipt => 0 | .sendOut => 1 | .worksUse => 2 | .suspense => 3

def BarLevel.index : BarLevel → Nat
  | .root => 0 | .main => 1 | .point => 2

def PriorityOrder.index : PriorityOrder → Nat
  | .a => 0 | .b => 1

def OutstationAction.index : OutstationAction → Nat
  | .set => 0 | .delete => 1

/-- The result byte of a response (11, "Link response frame"). -/
def Result.index : Result → Nat
  | .done => 0 | .doneClamped => 1 | .busy => 2 | .badFrame => 3 | .illegalMode => 4 | .noRecord => 5 | .range => 6
  | .wrongState => 7 | .inUse => 8 | .full => 9 | .aborted => 10 | .storeFault => 11

/-! ### The request catalogue -/

/-- The request's code (11 R201). -/
def Request.code : Request → Byte
  | .setYard _ => 0x01
  | .setHolder _ _ => 0x02
  | .setDistrictStations _ _ _ => 0x03
  | .setOutstation _ _ _ _ => 0x04
  | .setChannel _ _ _ _ _ _ => 0x05
  | .order _ _ _ _ _ => 0x10
  | .repeatOrder _ => 0x11
  | .returnHolder _ => 0x12
  | .stop _ => 0x13
  | .isolate _ => 0x14
  | .setDistrict _ _ => 0x20
  | .districtIn _ => 0x21
  | .districtOut _ => 0x22
  | .districtRestore _ => 0x23
  | .setClock _ _ => 0x24
  | .mapPoint _ _ _ _ => 0x30
  | .linkPoint _ _ => 0x31
  | .unmapPoint _ => 0x32
  | .bar _ _ => 0x33
  | .unbar _ _ => 0x34
  | .setRoute _ _ => 0x35
  | .lookPoint _ _ => 0x36
  | .openAccount _ _ _ => 0x40
  | .closeAccount _ => 0x41
  | .reopenAccount _ => 0x42
  | .retireAccount _ => 0x43
  | .restoreAccount _ _ => 0x44
  | .adjust _ _ _ _ => 0x45
  | .closePeriod => 0x46
  | .lookHolder _ => 0x50
  | .lookDistrict _ => 0x50
  | .lookAccount _ => 0x50
  | .lookBalance => 0x50
  | .lookBookingEngine => 0x50
  | .lookStore => 0x50
  | .lookLine _ => 0x50
  | .lookYard => 0x50
  | .lookLink => 0x50
  | .readAttention => 0x51
  | .ack _ => 0x52
  | .work => 0x60
  | .setup => 0x61
  | .resume => 0x62
  | .yardReset => 0x70
  | .lineReset => 0x71
  | .yardHold => 0x72
  | .outOfRange code => code

end Sys2Proof

namespace Sys2Proof.Machine

/-- Numbers of one, two, four and five bytes. -/
def n1 (v : Nat) : List Field := [.num 1 v]
def n2 (v : Nat) : List Field := [.num 2 v]
def n4 (v : Nat) : List Field := [.num 4 v]
def n5 (v : Nat) : List Field := [.num 5 v]

/-- A lift of SET-HOLDER (02 R19). -/
def liftFields (l : Lift) : List Field := n2 l.area ++ n2 l.stroke ++ n2 l.pressure

/-- A schedule step of SET-DISTRICT (04 R62). -/
def stepFields (t : ScheduleStep) : List Field := n2 t.start ++ n1 t.setPoint

/-- The configuration in the order of 02 R19; the lift count is the count byte of the list of lifts. -/
def holderFields (f : HolderSettings) : List Field :=
  .flag f.fitted :: listField liftFields f.lifts ++ n4 f.landed ++ n2 f.lowStop ++ n2 f.topStop ++ n2 f.maxStep
    ++ optField n2 f.travel ++ optField n1 f.crownEntry

/-- The settings of the yard record in the order of 10 R182. -/
def yardFields (f : YardSettings) : List Field :=
  optField n2 f.declaredCv ++ optField n2 f.fallback ++ optField n1 f.bookingShare ++ optField n1 f.fastShare
    ++ optField n2 f.replyWait ++ optField n1 f.scrubInterval ++ optField (fun p => [.choice p.index]) f.priority

/-- The working fields of a district in the order of 04 R62. -/
def districtFields (f : DistrictSettings) : List Field :=
  optField (listField stepFields) f.schedule ++ optField n1 f.floor ++ optField n1 f.ceiling ++ optField n1 f.drop
    ++ optField n1 f.ttMin ++ optField n1 f.ttBand ++ optField n1 f.ttStep ++ optField n1 f.compMax
    ++ optField (fun b => [.flag b]) f.autoJoin ++ optField (listField n1) f.standby

/-- The fields of a direct route in the order of 05 R100. -/
def routeFields (f : RouteSettings) : List Field :=
  .flag f.enabled :: n2 f.low ++ n2 f.high ++ optField n1 f.slot ++ [.flag f.barred]

/-- The contents of RESTORE-ACCOUNT in the order of 07 R141. -/
def contentsFields (c : AccountContents) : List Field :=
  .choice c.kind.index :: optField n2 c.cv ++ n2 c.period ++ n5 c.volume ++ n2 c.volumeRes ++ n4 c.heat ++ n5 c.heatRes
    ++ n4 c.bookings ++ n4 c.clampedBookings ++ .flag c.limitReached :: n5 c.prevVolume ++ n4 c.prevHeat
    ++ n4 c.prevBookings

end Sys2Proof.Machine

namespace Sys2Proof

open Machine

/-- The fields of a request frame, in catalogue order (11 R201; LOOK's target in log entry 10). -/
def Request.fields : Request → List Field
  | .setYard f => yardFields f
  | .setHolder h f => n1 h ++ holderFields f
  | .setDistrictStations d g t => n1 d ++ optField n1 g ++ optField n1 t
  | .setOutstation a act k r =>
    n1 a ++ .choice act.index :: optField (fun k => [.choice k.index]) k ++ optField n1 r
  | .setChannel a c e p k l => n1 a ++ n1 c ++ .flag e :: n2 p ++ n2 k ++ n2 l
  | .order h k d q e =>
    n1 h ++ .choice k.index :: optField n1 d ++ optField n4 q ++ optField (fun e => [.choice e.index]) e
  | .repeatOrder h => n1 h
  | .returnHolder h => n1 h
  | .stop h => n1 h
  | .isolate h => n1 h
  | .setDistrict d f => n1 d ++ districtFields f
  | .districtIn d => n1 d
  | .districtOut d => n1 d
  | .districtRestore d => n1 d
  | .setClock d m => n2 d ++ n2 m
  | .mapPoint p s b g => n2 p ++ n1 s ++ [.flag b, .flag g]
  | .linkPoint p t => n2 p ++ n2 t
  | .unmapPoint p => n2 p
  | .bar l p => .choice l.index :: n2 p
  | .unbar l p => .choice l.index :: n2 p
  | .setRoute r f => n1 r ++ routeFields f
  | .lookPoint p c => n2 p ++ [.flag c]
  | .openAccount s k cv => n1 s ++ .choice k.index :: optField n2 cv
  | .closeAccount s => n1 s
  | .reopenAccount s => n1 s
  | .retireAccount s => n1 s
  | .restoreAccount s c => n1 s ++ contentsFields c
  | .adjust a b v t => n1 a ++ n1 b ++ n5 v ++ n4 t
  | .closePeriod => []
  | .lookHolder h => .choice 0 :: n1 h
  | .lookDistrict d => .choice 1 :: n1 d
  | .lookAccount s => .choice 2 :: n1 s
  | .lookBalance => [.choice 3]
  | .lookBookingEngine => [.choice 4]
  | .lookStore => [.choice 5]
  | .lookLine a => .choice 6 :: optField n1 a
  | .lookYard => [.choice 7]
  | .lookLink => [.choice 8]
  | .readAttention => []
  | .ack s => n1 s
  | .work => []
  | .setup => []
  | .resume => []
  | .yardReset => []
  | .lineReset => []
  | .yardHold => []
  | .outOfRange _ => []

end Sys2Proof

namespace Sys2Proof.Machine

/-- The bytes of a link request frame before its check (11, "Link request frame"). -/
def requestBody (tag : Byte) (r : Request) : List Byte :=
  let fields := fieldBytes r.fields
  tag :: r.code :: numBytes 2 fields.length ++ fields

/-- A request frame as the control room sends it. -/
def requestFrame (tag : Byte) (r : Request) : List Byte := wireFrame (requestBody tag r)

/-! ### Reading a request's fields -/

/-- The bytes yet to be read, and whether a presence, flag or choice byte named no value (log entry 11). -/
structure Buf where
  bytes : List Byte
  bad : Bool
  deriving DecidableEq, Repr

/-- A number of so many bytes; none where the bytes run out. -/
def getNum (w : Nat) (b : Buf) : Option (Nat × Buf) :=
  if w ≤ b.bytes.length then some (bytesNum (b.bytes.take w), { b with bytes := b.bytes.drop w }) else none

/-- A flag byte. -/
def getFlag (b : Buf) : Option (Bool × Buf) :=
  match getNum 1 b with
  | none => none
  | some (n, b) => some (decide (n ≠ 0), { b with bad := b.bad || decide (1 < n) })

/-- A choice among the listed values; a byte that numbers none of them marks the buffer. -/
def getChoice {α : Type} (first : α) (rest : List α) (b : Buf) : Option (α × Buf) :=
  match getNum 1 b with
  | none => none
  | some (n, b) => some (((first :: rest)[n]?).getD first, { b with bad := b.bad || decide (rest.length < n) })

/-- A field that may be absent, behind its presence byte. -/
def getOpt {α : Type} (get : Buf → Option (α × Buf)) (b : Buf) : Option (Option α × Buf) :=
  match getFlag b with
  | none => none
  | some (false, b) => some (none, b)
  | some (true, b) =>
    match get b with
    | none => none
    | some (a, b) => some (some a, b)

/-- So many items. -/
def getMany {α : Type} (get : Buf → Option (α × Buf)) : Nat → Buf → Option (List α × Buf)
  | 0, b => some ([], b)
  | n + 1, b =>
    match get b with
    | none => none
    | some (a, b) =>
      match getMany get n b with
      | none => none
      | some (l, b) => some (a :: l, b)

/-- A list behind its count byte. -/
def getList {α : Type} (get : Buf → Option (α × Buf)) (b : Buf) : Option (List α × Buf) :=
  match getNum 1 b with
  | none => none
  | some (n, b) => getMany get n b

/-- The choices of each kind, the first and the rest. -/
def getOrderKind := getChoice OrderKind.draw [.fill, .float, .stand]
def getEndAction := getChoice EndAction.stand [.cont]
def getEntryKind := getChoice EntryKind.crown [.meter, .governor, .telltale, .barometer]
def getAccountKind := getChoice AccountKind.receipt [.sendOut, .worksUse, .suspense]
def getBarLevel := getChoice BarLevel.root [.main, .point]
def getPriority := getChoice PriorityOrder.a [.b]
def getAction := getChoice OutstationAction.set [.delete]

/-- A lift. -/
def getLift (b : Buf) : Option (Lift × Buf) := do
  let (area, b) ← getNum 2 b
  let (stroke, b) ← getNum 2 b
  let (pressure, b) ← getNum 2 b
  some (⟨area, stroke, pressure⟩, b)

/-- A schedule step. -/
def getStep (b : Buf) : Option (ScheduleStep × Buf) := do
  let (start, b) ← getNum 2 b
  let (setPoint, b) ← getNum 1 b
  some (⟨start, setPoint⟩, b)

/-- The fields of SET-YARD. -/
def getYard (b : Buf) : Option (YardSettings × Buf) := do
  let (cv, b) ← getOpt (getNum 2) b
  let (fallback, b) ← getOpt (getNum 2) b
  let (booking, b) ← getOpt (getNum 1) b
  let (fast, b) ← getOpt (getNum 1) b
  let (wait, b) ← getOpt (getNum 2) b
  let (scrub, b) ← getOpt (getNum 1) b
  let (priority, b) ← getOpt getPriority b
  some (⟨cv, fallback, booking, fast, wait, scrub, priority⟩, b)

/-- The configuration of SET-HOLDER. -/
def getHolder (b : Buf) : Option (HolderSettings × Buf) := do
  let (fitted, b) ← getFlag b
  let (lifts, b) ← getList getLift b
  let (landed, b) ← getNum 4 b
  let (lowStop, b) ← getNum 2 b
  let (topStop, b) ← getNum 2 b
  let (maxStep, b) ← getNum 2 b
  let (travel, b) ← getOpt (getNum 2) b
  let (crownEntry, b) ← getOpt (getNum 1) b
  some (⟨fitted, lifts, landed, lowStop, topStop, maxStep, travel, crownEntry⟩, b)

/-- The working fields of SET-DISTRICT. -/
def getDistrict (b : Buf) : Option (DistrictSettings × Buf) := do
  let (schedule, b) ← getOpt (getList getStep) b
  let (floor, b) ← getOpt (getNum 1) b
  let (ceiling, b) ← getOpt (getNum 1) b
  let (drop, b) ← getOpt (getNum 1) b
  let (ttMin, b) ← getOpt (getNum 1) b
  let (ttBand, b) ← getOpt (getNum 1) b
  let (ttStep, b) ← getOpt (getNum 1) b
  let (compMax, b) ← getOpt (getNum 1) b
  let (autoJoin, b) ← getOpt getFlag b
  let (standby, b) ← getOpt (getList (getNum 1)) b
  some (⟨schedule, floor, ceiling, drop, ttMin, ttBand, ttStep, compMax, autoJoin, standby⟩, b)

/-- The fields of SET-ROUTE. -/
def getRoute (b : Buf) : Option (RouteSettings × Buf) := do
  let (enabled, b) ← getFlag b
  let (low, b) ← getNum 2 b
  let (high, b) ← getNum 2 b
  let (slot, b) ← getOpt (getNum 1) b
  let (barred, b) ← getFlag b
  some (⟨enabled, low, high, slot, barred⟩, b)

/-- The contents of RESTORE-ACCOUNT. -/
def getContents (b : Buf) : Option (AccountContents × Buf) := do
  let (kind, b) ← getAccountKind b
  let (cv, b) ← getOpt (getNum 2) b
  let (period, b) ← getNum 2 b
  let (volume, b) ← getNum 5 b
  let (volumeRes, b) ← getNum 2 b
  let (heat, b) ← getNum 4 b
  let (heatRes, b) ← getNum 5 b
  let (bookings, b) ← getNum 4 b
  let (clamped, b) ← getNum 4 b
  let (limit, b) ← getFlag b
  let (prevVolume, b) ← getNum 5 b
  let (prevHeat, b) ← getNum 4 b
  let (prevBookings, b) ← getNum 4 b
  some (⟨kind, cv, period, volume, volumeRes, heat, heatRes, bookings, clamped, limit, prevVolume, prevHeat,
    prevBookings⟩, b)

/-- The target of LOOK (log entry 10). -/
def getLook (b : Buf) : Option (Request × Buf) := do
  let (target, b) ← getNum 1 b
  match target with
  | 0 => do let (h, b) ← getNum 1 b; some (.lookHolder h, b)
  | 1 => do let (d, b) ← getNum 1 b; some (.lookDistrict d, b)
  | 2 => do let (s, b) ← getNum 1 b; some (.lookAccount s, b)
  | 3 => some (.lookBalance, b)
  | 4 => some (.lookBookingEngine, b)
  | 5 => some (.lookStore, b)
  | 6 => do let (a, b) ← getOpt (getNum 1) b; some (.lookLine a, b)
  | 7 => some (.lookYard, b)
  | 8 => some (.lookLink, b)
  | _ => some (.lookYard, { b with bad := true })

/-- The request that a code and the bytes behind it spell, with the bytes not read; none for an unknown code or bytes that
run out (11 R192, R201). -/
def getRequest (code : Byte) (b : Buf) : Option (Request × Buf) :=
  match code.toNat with
  | 0x01 => do let (f, b) ← getYard b; some (.setYard f, b)
  | 0x02 => do let (h, b) ← getNum 1 b; let (f, b) ← getHolder b; some (.setHolder h f, b)
  | 0x03 => do
    let (d, b) ← getNum 1 b
    let (g, b) ← getOpt (getNum 1) b
    let (t, b) ← getOpt (getNum 1) b
    some (.setDistrictStations d g t, b)
  | 0x04 => do
    let (a, b) ← getNum 1 b
    let (act, b) ← getAction b
    let (k, b) ← getOpt getEntryKind b
    let (r, b) ← getOpt (getNum 1) b
    some (.setOutstation a act k r, b)
  | 0x05 => do
    let (a, b) ← getNum 1 b
    let (c, b) ← getNum 1 b
    let (e, b) ← getFlag b
    let (p, b) ← getNum 2 b
    let (k, b) ← getNum 2 b
    let (l, b) ← getNum 2 b
    some (.setChannel a c e p k l, b)
  | 0x10 => do
    let (h, b) ← getNum 1 b
    let (k, b) ← getOrderKind b
    let (d, b) ← getOpt (getNum 1) b
    let (q, b) ← getOpt (getNum 4) b
    let (e, b) ← getOpt getEndAction b
    some (.order h k d q e, b)
  | 0x11 => do let (h, b) ← getNum 1 b; some (.repeatOrder h, b)
  | 0x12 => do let (h, b) ← getNum 1 b; some (.returnHolder h, b)
  | 0x13 => do let (h, b) ← getNum 1 b; some (.stop h, b)
  | 0x14 => do let (h, b) ← getNum 1 b; some (.isolate h, b)
  | 0x20 => do let (d, b) ← getNum 1 b; let (f, b) ← getDistrict b; some (.setDistrict d f, b)
  | 0x21 => do let (d, b) ← getNum 1 b; some (.districtIn d, b)
  | 0x22 => do let (d, b) ← getNum 1 b; some (.districtOut d, b)
  | 0x23 => do let (d, b) ← getNum 1 b; some (.districtRestore d, b)
  | 0x24 => do let (d, b) ← getNum 2 b; let (m, b) ← getNum 2 b; some (.setClock d m, b)
  | 0x30 => do
    let (p, b) ← getNum 2 b
    let (s, b) ← getNum 1 b
    let (br, b) ← getFlag b
    let (g, b) ← getFlag b
    some (.mapPoint p s br g, b)
  | 0x31 => do let (p, b) ← getNum 2 b; let (t, b) ← getNum 2 b; some (.linkPoint p t, b)
  | 0x32 => do let (p, b) ← getNum 2 b; some (.unmapPoint p, b)
  | 0x33 => do let (l, b) ← getBarLevel b; let (p, b) ← getNum 2 b; some (.bar l p, b)
  | 0x34 => do let (l, b) ← getBarLevel b; let (p, b) ← getNum 2 b; some (.unbar l p, b)
  | 0x35 => do let (r, b) ← getNum 1 b; let (f, b) ← getRoute b; some (.setRoute r f, b)
  | 0x36 => do let (p, b) ← getNum 2 b; let (c, b) ← getFlag b; some (.lookPoint p c, b)
  | 0x40 => do
    let (s, b) ← getNum 1 b
    let (k, b) ← getAccountKind b
    let (cv, b) ← getOpt (getNum 2) b
    some (.openAccount s k cv, b)
  | 0x41 => do let (s, b) ← getNum 1 b; some (.closeAccount s, b)
  | 0x42 => do let (s, b) ← getNum 1 b; some (.reopenAccount s, b)
  | 0x43 => do let (s, b) ← getNum 1 b; some (.retireAccount s, b)
  | 0x44 => do let (s, b) ← getNum 1 b; let (c, b) ← getContents b; some (.restoreAccount s c, b)
  | 0x45 => do
    let (f, b) ← getNum 1 b
    let (t, b) ← getNum 1 b
    let (v, b) ← getNum 5 b
    let (h, b) ← getNum 4 b
    some (.adjust f t v h, b)
  | 0x46 => some (.closePeriod, b)
  | 0x50 => getLook b
  | 0x51 => some (.readAttention, b)
  | 0x52 => do let (s, b) ← getNum 1 b; some (.ack s, b)
  | 0x60 => some (.work, b)
  | 0x61 => some (.setup, b)
  | 0x62 => some (.resume, b)
  | 0x70 => some (.yardReset, b)
  | 0x71 => some (.lineReset, b)
  | 0x72 => some (.yardHold, b)
  | _ => none

/-! ### Allowed lengths -/

/-- What the length of a part of a request's fields may be (11 R201): so many bytes, a field that may be absent behind its
presence byte, a list behind its count byte, or a list that may be absent. -/
inductive Shape where
  | fixed (bytes : Nat) | opt (bytes : Nat) | list (item : Nat) | optList (item : Nat)
  deriving DecidableEq, Repr

/-- Some choice of presence bytes and list counts gives the length (11 R201). -/
def fits : List Shape → Nat → Bool
  | [], n => n == 0
  | .fixed k :: fs, n => decide (k ≤ n) && fits fs (n - k)
  | .opt k :: fs, n => (decide (1 ≤ n) && fits fs (n - 1)) || (decide (1 + k ≤ n) && fits fs (n - (1 + k)))
  | .list k :: fs, n => (List.range n).any fun m => decide (1 + m * k ≤ n) && fits fs (n - (1 + m * k))
  | .optList k :: fs, n =>
    (decide (1 ≤ n) && fits fs (n - 1))
      || (List.range n).any fun m => decide (2 + m * k ≤ n) && fits fs (n - (2 + m * k))

/-- The forms of each code's fields, the targets of LOOK as alternatives; none for an unknown code (11 R201). -/
def formsOf (code : Byte) : List (List Shape) :=
  match code.toNat with
  | 0x01 => [[.opt 2, .opt 2, .opt 1, .opt 1, .opt 2, .opt 1, .opt 1]]
  | 0x02 => [[.fixed 2, .list 6, .fixed 10, .opt 2, .opt 1]]
  | 0x03 => [[.fixed 1, .opt 1, .opt 1]]
  | 0x04 => [[.fixed 2, .opt 1, .opt 1]]
  | 0x05 => [[.fixed 9]]
  | 0x10 => [[.fixed 2, .opt 1, .opt 4, .opt 1]]
  | 0x11 => [[.fixed 1]]
  | 0x12 => [[.fixed 1]]
  | 0x13 => [[.fixed 1]]
  | 0x14 => [[.fixed 1]]
  | 0x20 => [[.fixed 1, .optList 3, .opt 1, .opt 1, .opt 1, .opt 1, .opt 1, .opt 1, .opt 1, .opt 1, .optList 1]]
  | 0x21 => [[.fixed 1]]
  | 0x22 => [[.fixed 1]]
  | 0x23 => [[.fixed 1]]
  | 0x24 => [[.fixed 4]]
  | 0x30 => [[.fixed 5]]
  | 0x31 => [[.fixed 4]]
  | 0x32 => [[.fixed 2]]
  | 0x33 => [[.fixed 3]]
  | 0x34 => [[.fixed 3]]
  | 0x35 => [[.fixed 6, .opt 1, .fixed 1]]
  | 0x36 => [[.fixed 3]]
  | 0x40 => [[.fixed 2, .opt 2]]
  | 0x41 => [[.fixed 1]]
  | 0x42 => [[.fixed 1]]
  | 0x43 => [[.fixed 1]]
  | 0x44 => [[.fixed 2, .opt 2, .fixed 40]]
  | 0x45 => [[.fixed 11]]
  | 0x46 => [[]]
  | 0x50 => [[.fixed 1], [.fixed 2], [.fixed 1, .opt 1]]
  | 0x51 => [[]]
  | 0x52 => [[.fixed 1]]
  | 0x60 => [[]]
  | 0x61 => [[]]
  | 0x62 => [[]]
  | 0x70 => [[]]
  | 0x71 => [[]]
  | 0x72 => [[]]
  | _ => []

/-- A length is allowed for a code (11 R201). -/
def lengthAllowed (code : Byte) (n : Nat) : Bool := (formsOf code).any fun f => fits f n

/-- The request that a whole frame's code and fields spell: none for an unknown code or a wrong length (11 R192), and
`outOfRange` where a byte names no value of its flag, choice or presence, or where the frame's own presence and count bytes
call for another of the lengths its code allows (log entry 11). -/
def decodeRequest (code : Byte) (fields : List Byte) : Option Request :=
  match getRequest code ⟨fields, false⟩ with
  | some (r, ⟨[], bad⟩) => some (if bad then .outOfRange code else r)
  | _ => if lengthAllowed code fields.length then some (.outOfRange code) else none

/-! ### Polls and replies -/

end Sys2Proof.Machine

namespace Sys2Proof

open Machine

/-- The poll kind byte of an outstation kind; its reply kind is 80h more (11, "Outstation frames"). -/
def EntryKind.pollByte : EntryKind → Byte
  | .crown => 0x21 | .meter => 0x22 | .governor => 0x23 | .telltale => 0x24 | .barometer => 0x25

/-- The reply kind byte. -/
def EntryKind.replyByte : EntryKind → Byte
  | .crown => 0xA1 | .meter => 0xA2 | .governor => 0xA3 | .telltale => 0xA4 | .barometer => 0xA5

end Sys2Proof

namespace Sys2Proof.Machine

/-- The drive byte of a crown poll (11, "Outstation frames"). -/
def Drive.byte : Drive → Byte
  | .inletOpen => 1 | .inletClosed => 2 | .outletOpen => 3 | .outletClosed => 4

/-- The payload of a poll: a crown's drive, a governor's loading, 00h for none; the other kinds carry none. -/
def pollPayload (kind : EntryKind) (command : Option Command) : List Byte :=
  match kind, command with
  | .crown, some (.drive d) => [d.byte]
  | .crown, _ => [0]
  | .governor, some (.loading l) => [BitVec.ofNat 8 l]
  | .governor, _ => [0]
  | _, _ => []

/-- The poll frame of an entry with its pending command (09 R165, R174). -/
def pollFrame (address : Nat) (kind : EntryKind) (command : Option Command) : List Byte :=
  let payload := pollPayload kind command
  wireFrame (BitVec.ofNat 8 address :: kind.pollByte :: BitVec.ofNat 8 payload.length :: payload)

/-- The crown reading of a reply's payload; bits 0 to 5 of the switch byte in their order, bits 6 and 7 not read. -/
def crownOf (height temp : Nat) (switches : Byte) : CrownReading :=
  ⟨height, signed16 temp, switches.getLsbD 0, switches.getLsbD 1, switches.getLsbD 2, switches.getLsbD 3,
    switches.getLsbD 4, switches.getLsbD 5⟩

/-- The reading of a reply of the given kind; none where the kind or length is not that of the kind's reply (09 R171; 11,
"Outstation frames"). -/
def readReply (kind : EntryKind) (kindByte : Byte) (payload : List Byte) : Option Reading :=
  if kindByte ≠ kind.replyByte then none
  else match kind, payload with
    | .crown, [h1, h0, t1, t0, sw] => some (.crown (crownOf (bytesNum [h1, h0]) (bytesNum [t1, t0]) sw))
    | .meter, [p1, p0, t1, t0, a1, a0, b1, b0, c1, c0, d1, d0] =>
      some (.meter ⟨bytesNum [p1, p0], signed16 (bytesNum [t1, t0]),
        #v[bytesNum [a1, a0], bytesNum [b1, b0], bytesNum [c1, c0], bytesNum [d1, d0]]⟩)
    | .governor, [o1, o0, e, t] =>
      some (.governor ⟨bytesNum [o1, o0], if e = 0 then none else some e.toNat, decide (t ≠ 0)⟩)
    | .telltale, [p1, p0] => some (.telltale (bytesNum [p1, p0]))
    | .barometer, [b1, b0] => some (.barometer (bytesNum [b1, b0]))
    | _, _ => none

/-- The payload an outstation's reply carries for a reading (11, "Outstation frames"). -/
def Reading.payload : Reading → List Byte
  | .crown r =>
    numBytes 2 r.height ++ intBytes 2 r.temp
      ++ [BitVec.ofNat 8 ((if r.inletOpen then 1 else 0) + (if r.inletClosed then 2 else 0)
        + (if r.outletOpen then 4 else 0) + (if r.outletClosed then 8 else 0) + (if r.topStop then 16 else 0)
        + (if r.landing then 32 else 0))]
  | .meter r => numBytes 2 r.pressure ++ intBytes 2 r.temp ++ r.counts.toList.flatMap (numBytes 2)
  | .governor r => numBytes 2 r.outlet ++ [BitVec.ofNat 8 (r.echo.getD 0), if r.trip then 1 else 0]
  | .telltale p => numBytes 2 p
  | .barometer b => numBytes 2 b

/-- The kind of outstation that gives a reading. -/
def Reading.kind : Reading → EntryKind
  | .crown _ => .crown | .meter _ => .meter | .governor _ => .governor | .telltale _ => .telltale
  | .barometer _ => .barometer

/-- A reply frame as an outstation sends it. -/
def replyFrame (address : Nat) (r : Reading) : List Byte :=
  wireFrame (BitVec.ofNat 8 address :: r.kind.replyByte :: BitVec.ofNat 8 r.payload.length :: r.payload)

end Sys2Proof.Machine
end

