-- ==== Sys2Proof/Machine/Flags.lean ====
section
/-! DEFINITION. Attention: the latches of the eighteen sources, their conditions with detail in rank order, the attention
output, and the clearing of a source (02 R36, 04 R88, 06 R130, 08 R160, 09 R177, 10 R190, 11 R198, R199). -/

namespace Sys2Proof.Machine

/-- One set condition of a source: its rank, from 0 for the highest, and the detail it carries. -/
abbrev Condition := Nat × List Field

/-- A condition without detail, listed while its latch is set. -/
def condIf (set : Bool) (rank : Nat) : List Condition := if set then [(rank, [])] else []

/-- A condition with detail, listed while its latch is set. -/
def condOf {α : Type} (latch : Option α) (rank : Nat) (detail : α → List Field) : List Condition :=
  match latch with
  | none => []
  | some a => [(rank, detail a)]

/-- The numbers of the diversion reasons, in the order of 06 R125 and 07 R132 (DESIGN CHOICE, log entry 37). -/
def Divert.index : Divert → Nat
  | .implausible => 0 | .noRoute => 1 | .barred => 2 | .closed => 3 | .damaged => 4 | .full => 5

/-- The causes of RESTARTED, in the order of 10 R190. -/
def RestartCause.index : RestartCause → Nat
  | .powerOn => 0 | .freshStart => 1 | .yardReset => 2

/-- The causes of HOLD-ENTERED, in the order of 10 R190. -/
def HoldCause.index : HoldCause → Nat
  | .yardHold => 0 | .lineDead => 1

/-- The set conditions of the yard (10 R190). -/
def yardConditions (y : Yard) : List Condition :=
  condOf y.restarted 0 (fun c => [.choice c.index]) ++ condOf y.holdEntered 1 (fun c => [.choice c.index])
    ++ condOf y.periodClosed 2 n2

/-- The set conditions of a district (04 R88). -/
def districtConditions (l : DistrictLatches) : List Condition :=
  condIf l.tripped 0 ++ condIf l.starved 1 ++ condIf l.short 2 ++ condIf l.autoJoinFailed 3 ++ condIf l.governorSilent 4
    ++ condIf l.telltaleLow 5 ++ condIf l.autoJoinStarted 6

/-- The set conditions of a holder (02 R36). -/
def holderConditions (l : HolderLatches) : List Condition :=
  condIf l.fault 0 ++ condIf l.orderShort 1 ++ condIf l.forcedContinue 2 ++ condIf l.lowStopWithdrawn 3
    ++ condIf l.crownSilent 4 ++ condIf l.crownJump 5 ++ condIf l.orderStopped 6 ++ condIf l.orderDone 7
    ++ condIf l.crownReturned 8 ++ condIf l.recovered 9

/-- The number a latch carries, in two bytes (log entry 12). -/
def carried (n : Nat) : List Field := n2 (min n Config.maxCount)

/-- The set conditions of the store (08 R160). -/
def storeConditions (r : Rst) : List Condition :=
  condOf r.damagedLatch 0 (fun d => n2 d.slot ++ carried d.reads) ++ condOf r.correctedLatch 1 n2

/-- The set conditions of the line (09 R177). -/
def lineConditions (l : LineLatches) : List Condition :=
  condIf l.lineDead 0 ++ condOf l.silent 1 (listField n1) ++ condOf l.returned 2 (listField n1)
    ++ condOf l.checkError 3 carried ++ condOf l.abort 4 carried
    ++ condOf l.unexpected 5 (fun u => n1 u.1 ++ carried u.2)

/-- The set conditions of booking (06 R130); the reasons of DIVERTED are listed in the order seen (DESIGN CHOICE, log entry 37). -/
def bookingConditions (b : Bke) : List Condition :=
  condOf b.diverted 0 (fun d => listField (fun r => [.choice r.index]) d.reasons ++ n1 d.address ++ n1 d.channel ++ n2 d.point)
    ++ condOf b.implausible 1 (fun i => n1 i.address ++ n1 i.channel ++ n2 i.pulses)

/-- An attention source (11, "Attention"). -/
inductive Source where
  | yard | district (d : DistrictId) | holder (h : HolderId) | store | line | booking
  deriving DecidableEq, Repr

/-- The source a number names, in attention priority order A (11 R201). -/
def sourceOf (n : Nat) : Option Source :=
  if n = 0 then some .yard
  else if n ≤ 8 then (districtOf (n - 1)).map Source.district
  else if n ≤ 14 then (holderOf (n - 9)).map Source.holder
  else if n = 15 then some .store
  else if n = 16 then some .line
  else if n = 17 then some .booking
  else none

/-- A source's number (11 R201). -/
def Source.number : Source → Nat
  | .yard => 0 | .district d => d + 1 | .holder h => h + 9 | .store => 15 | .line => 16 | .booking => 17

/-- The set conditions of a source, in rank order. -/
def State.conditions (s : State) : Source → List Condition
  | .yard => yardConditions s.yard
  | .district d => districtConditions (s.district d).latches
  | .holder h => holderConditions (s.holder h).latches
  | .store => storeConditions s.rst
  | .line => lineConditions s.line.latches
  | .booking => bookingConditions s.bke

/-- The sources in a priority order (11 R198). -/
def sourcesIn : PriorityOrder → List Source
  | .a => .yard :: districtIds.map .district ++ holderIds.map .holder ++ [.store, .line, .booking]
  | .b => .yard :: holderIds.map .holder ++ districtIds.map .district ++ [.store, .line, .booking]

/-- Whether a source has a set latch. -/
def State.attends (s : State) (x : Source) : Bool := !(s.conditions x).isEmpty

/-- The attention output is driven low (11 R198). -/
def State.attnLow (s : State) : Bool := (sourcesIn .a).any s.attends

/-- Every latch of a source cleared with its detail (11 R199). -/
def State.clearSource (s : State) : Source → State
  | .yard => s.modYard fun y => { y with restarted := none, holdEntered := none, periodClosed := none }
  | .district d => s.modDistrict d fun r => { r with latches := DistrictLatches.clear }
  | .holder h => s.modHolder h fun r => { r with latches := HolderLatches.clear }
  | .store => s.modRst fun r => { r with damagedLatch := none, correctedLatch := none }
  | .line => s.modLine fun l => { l with latches := LineLatches.clear }
  | .booking => s.modBke fun b => { b with diverted := none, implausible := none }

/-- OLDIR is high while the part transmits on the outstation line (09 R165). -/
def State.oldirHigh (s : State) : Bool := !s.line.tx.isEmpty

/-- What an event puts on the outstation line: ABORT where the poll before was given up, after which OLDIR falls, and then the
poll being sent (09 R165). -/
def Line.out (l : Line) : List Byte := (if l.gaveUp then [Config.abortByte] else []) ++ l.tx

/-- LKDE is high while the part transmits a response (11 R193). -/
def State.lkdeHigh (s : State) : Bool := !s.rex.responses.isEmpty

/-- One condition in a response: its rank number and its detail. -/
def conditionFields (c : Condition) : List Field := .choice c.1 :: c.2

/-- A response as sent: the frame of its tag, code, result, length and fields (11, "Link response frame"). An answer longer than
2048 bytes goes out whole with its own length (DESIGN CHOICE, log entry 38). -/
def Response.frame (r : Response) : List Byte :=
  let fields := fieldBytes r.fields
  wireFrame (r.tag :: r.code :: BitVec.ofNat 8 r.result.index :: numBytes 2 fields.length ++ fields)

end Sys2Proof.Machine
end

