-- ==== Sys2Proof/Machine/Line.lean ====
section
/-! DEFINITION. The Outstation Line Controller (09): the poll list and its links, turns and attempts, misses and silence,
replies handed to their owners, frames judged, LINE-RESET and the line's part of a reset. -/

namespace Sys2Proof.Machine

/-! ### The poll list and its links -/

/-- The entry that polls an address (09 R168). -/
def Line.entry (l : Line) (address : Nat) : Option PollEntry := l.entries.find? (·.address == address)

/-- Change the entry that polls an address. -/
def Line.modEntry (l : Line) (address : Nat) (f : PollEntry → PollEntry) : Line :=
  { l with entries := l.entries.map fun e => if e.address = address then f e else e }

/-- Change the entries of a kind linked to a record. -/
def Line.modLinked (l : Line) (kind : EntryKind) (link : Link) (f : PollEntry → PollEntry) : Line :=
  { l with entries := l.entries.map fun e => if e.kind = kind ∧ e.link = link then f e else e }

/-- The entry of a kind linked to a record (02 R19, 04 R63). -/
def Line.linked (l : Line) (kind : EntryKind) (link : Link) : Option PollEntry :=
  l.entries.find? fun e => decide (e.kind = kind) && decide (e.link = link)

/-- A holder's crown station entry (02 R19). -/
def State.crownEntry (s : State) (h : HolderId) : Option PollEntry := s.line.linked .crown (.holder h)

/-- A district's governor station (04 R62). -/
def State.governorEntry (s : State) (d : DistrictId) : Option PollEntry := s.line.linked .governor (.district d)

/-- A district's tell-tale station (04 R62). -/
def State.telltaleEntry (s : State) (d : DistrictId) : Option PollEntry := s.line.linked .telltale (.district d)

/-- An owner places or withdraws the pending command of its entry (09 R174). -/
def State.setCommand (s : State) (kind : EntryKind) (link : Link) (c : Option Command) : State :=
  s.modLine fun l => l.modLinked kind link fun e => { e with command := c }

/-- HOC places a drive on a holder's crown entry, or withdraws it (03 R46). -/
def State.setDrive (s : State) (h : HolderId) (d : Option Drive) : State :=
  s.setCommand .crown (.holder h) (d.map Command.drive)

/-- DIC places a loading on a district's governor entry, or withdraws it (04 R72). -/
def State.setLoadingCommand (s : State) (d : DistrictId) (l : Option Nat) : State :=
  s.setCommand .governor (.district d) (l.map Command.loading)

/-- A link is released, and any pending command with it (09 R168). -/
def Line.release (l : Line) (kind : EntryKind) (link : Link) : Line :=
  l.modLinked kind link fun e => { e with link := .none, command := none, handed := false }

/-- The address an owner names becomes its entry, and the entry linked before is released unless it is the one named
(02 R19, 04 R63). -/
def Line.relink (l : Line) (kind : EntryKind) (link : Link) (address : Option Nat) : Line :=
  if (l.linked kind link).map (·.address) = address then l
  else
    let l := l.release kind link
    match address with
    | none => l
    | some a => l.modEntry a fun e => { e with link := link, handed := false }

/-! ### Poll order and attempts -/

/-- GOVERNOR and TELLTALE entries are fast (09, "poll order"). -/
def PollEntry.fast (e : PollEntry) : Bool := decide (e.kind = .governor) || decide (e.kind = .telltale)

/-- The place of the next entry of a class that follows a position in list order, wrapping at the end (09 R170). -/
def nextPlace (p : PollEntry → Bool) (pos : Nat) (es : List PollEntry) : Option Nat :=
  match (es.drop pos).findIdx? p with
  | some i => some (pos + i)
  | none => (es.take pos).findIdx? p

/-- Whether the next turn is a fast one, and the ordinary-turn count after the choice (the table of 09 R170). -/
def chooseClass (share count : Nat) (es : List PollEntry) : Option (Bool × Nat) :=
  match es.any (fun e => !e.fast), es.any (·.fast) with
  | false, false => none
  | true, false => some (false, count)
  | false, true => some (true, count)
  | true, true => if count < share then some (false, count + 1) else some (true, 0)

/-- An attempt on an entry starts: the poll is built with the pending command as it stands and begins to be sent, and the
reply wait in force is the attempt's (09 R171, R174). `gaveUp` tells that the poll before it has been given up. -/
def startAttempt (gaveUp : Bool) (e : PollEntry) (single : Bool) (s : State) : State :=
  s.modLine fun l =>
    { l with
      exchange := some ⟨e.address, true, e.command, s.yard.replyWait, single⟩
      tx := pollFrame e.address e.kind e.command
      gaveUp := gaveUp
      lateFrame := false }

/-- A turn is over: the next entry is chosen and its first attempt starts, or the line is idle (09 R170, R172). -/
def nextTurn (gaveUp : Bool) (s : State) : State :=
  let l := s.line
  let idle := s.modLine fun l => { l with exchange := none, tx := [], gaveUp := gaveUp, lateFrame := false }
  match chooseClass s.yard.fastShare l.turnCount l.entries with
  | none => idle
  | some (fast, count) =>
    match nextPlace (fun e => e.fast == fast) (if fast then l.fastPos else l.ordPos) l.entries with
    | none => idle
    | some i =>
      match l.entries[i]? with
      | none => idle
      | some e =>
        startAttempt gaveUp e (decide (e.state = .silent)) <| s.modLine fun l =>
          if fast then { l with fastPos := i + 1, turnCount := count } else { l with ordPos := i + 1, turnCount := count }

/-- A poll being sent is given up where the exchange in flight ends: ABORT goes out in place of the rest of the frame, and OLDIR
is lowered (09 R165). -/
def givesUp (s : State) : Bool :=
  match s.line.exchange with
  | some x => x.sending
  | none => false

/-- The exchange waits for its reply: the poll has gone out. -/
def waiting (s : State) : Bool :=
  match s.line.exchange with
  | some x => !x.sending
  | none => false

/-- A wait has ended without its frame: a frame that the receiver has begun is received to its end, though the next poll goes out
at once; with the receiver in HUNT none has begun (09 R167, R169, R171; log entry 30). -/
def leaveLate (late : Bool) (s : State) : State :=
  s.modLine fun l => { l with lateFrame := late && !l.tx.isEmpty && decide (l.rx ≠ .hunt) }

/-! ### Line status -/

/-- The line judges itself dead or not, latches LINE-DEAD and tells REX of a change (09 R178). -/
def judgeDead (s : State) : State :=
  let dead := !s.line.entries.isEmpty && s.line.entries.all (fun e => decide (e.state = .silent))
  if dead = s.line.dead then s
  else if dead then
    (s.modLine fun l => { l with dead := true, latches := { l.latches with lineDead := true } }).send .lineDeadNotice
  else (s.modLine fun l => { l with dead := false }).send .lineAliveNotice

/-- A check error is counted and latched (09 R167, R176, R177). -/
def countCheckError (l : Line) : Line :=
  { l with
    checkErrors := bump Config.maxCount l.checkErrors
    latches := { l.latches with checkError := some (l.latches.checkError.getD 0 + 1) } }

/-- An abort is counted and latched (09 R167, R176, R177). -/
def countAbort (l : Line) : Line :=
  { l with
    aborts := bump Config.maxCount l.aborts
    latches := { l.latches with abort := some (l.latches.abort.getD 0 + 1) } }

/-- An unexpected frame is counted and latched with its address (09 R167, R171, R177). -/
def countUnexpected (address : Nat) (l : Line) : Line :=
  { l with
    unexpected := bump Config.maxCount l.unexpected
    latches := { l.latches with unexpected := some (address, (l.latches.unexpected.map (·.2)).getD 0 + 1) } }

/-! ### Misses and silence -/

/-- The message by which OLC tells an owner that its entry went SILENT (the table of 09 R175). -/
def silentMessage (e : PollEntry) : Option Instr :=
  match e.kind, e.link with
  | .crown, .holder h => some (.crownSilentNotice h)
  | .governor, .district d => some (.governorSilentNotice d)
  | .telltale, .district d => some (.telltaleSilentNotice d)
  | _, _ => none

/-- An entry goes SILENT: SILENT is latched with its address, the owner is told, and the line judges itself (09 R175). The latch lists
each address once, in the order of its first event (DESIGN CHOICE, log entry 37). -/
def goSilent (e : PollEntry) (misses : Nat) (s : State) : State :=
  let s := s.modLine fun l =>
    let l := l.modEntry e.address fun e => { e with state := .silent, misses := misses }
    { l with latches := { l.latches with silent := some (addNew (l.latches.silent.getD []) e.address) } }
  judgeDead (match silentMessage e with
    | some m => s.send m
    | none => s)

/-- The attempt in flight ends as a miss (09 R172). -/
def missAttempt (s : State) : State :=
  match s.line.exchange with
  | none => s
  | some x =>
    match s.line.entry x.address with
    | none => nextTurn false s
    | some e =>
      let misses := bump 255 e.misses
      let counted := s.modLine fun l => l.modEntry e.address fun e => { e with misses := misses }
      if x.single then nextTurn false counted
      else if e.retry < misses then nextTurn false (goSilent e misses s)
      else startAttempt false e false counted

/-! ### Replies -/

/-- The message by which OLC hands a good reply to its owner (the table of 09 R173). -/
def replyMessage (e : PollEntry) (r : Reading) : Option Instr :=
  match r, e.link with
  | .crown r, .holder h => some (.crownReply h r)
  | .meter r, _ => some (.meterReply e.address r)
  | .governor r, .district d => some (.governorReply d r)
  | .telltale p, .district d => some (.telltaleReply d p)
  | .barometer b, .yard => some (.barometerReply b)
  | _, _ => none

/-- A good reply ends the attempt and the turn: the misses become 0, the entry ANSWERING, its last values are replaced, a
return from SILENT is latched, and the reply is handed on (09 R172, R173). RETURNED lists its addresses as SILENT does (log entry
37). -/
def goodReply (e : PollEntry) (r : Reading) (s : State) : State :=
  let s := s.modLine fun l =>
    let l := l.modEntry e.address fun e => { e with state := .answering, misses := 0, last := some r, handed := (replyMessage e r).isSome }
    if e.state = .silent then
      { l with latches := { l.latches with returned := some (addNew (l.latches.returned.getD []) e.address) } }
    else l
  let s := judgeDead s
  nextTurn false (match replyMessage e r with
    | some m => s.send m
    | none => s)

/-- The address a frame's bytes carry. -/
def frameAddress (body : List Byte) : Nat := ((body[0]?).map (·.toNat)).getD 0

/-- A good frame is judged against the exchange in progress (the table of 09 R171). -/
def judgeGood (body : List Byte) (s : State) : State :=
  let unexpected := s.modLine (countUnexpected (frameAddress body))
  match s.line.exchange with
  | none => unexpected
  | some x =>
    if x.sending then unexpected
    else if frameAddress body ≠ x.address then unexpected
    else match s.line.entry x.address with
      | none => missAttempt unexpected
      | some e =>
        match readReply e.kind ((body[1]?).getD 0) (body.drop 3) with
        | some r => goodReply e r s
        | none => missAttempt unexpected

/-- A frame the line receiver ended is judged (09 R167, R171). -/
def judgeFrame (f : FrameEnd) (s : State) : State :=
  match f with
  | .whole body => judgeGood body s
  | .bad _ => let t := s.modLine countCheckError; if waiting s then missAttempt t else t
  | .aborted => let t := s.modLine countAbort; if waiting s then missAttempt t else t

/-- One byte arrives at OLRXD. It is taken while OLDIR is low (09 R167), and where it belongs to a frame begun before the wait
that has ended (09 R171); such a frame ends once. -/
def lineByte (s : State) (b : Byte) : State :=
  if s.oldirHigh && !s.line.lateFrame then s
  else
    let (rx, ended) := lineForm.step s.line.rx b
    let s := s.modLine fun l => { l with rx := rx, lateFrame := l.lateFrame && ended.isNone }
    match ended with
    | some f => judgeFrame f s
    | none => s

/-- The END of a poll has been sent: OLDIR falls and the reply wait starts (09 R165, R171). A frame begun before an earlier wait ended
that has not ended by now is judged as any that ends while the new wait runs (DESIGN CHOICE, log entry 30). -/
def pollGone (s : State) : State :=
  s.modLine fun l => { l with tx := [], gaveUp := false, lateFrame := false, exchange := l.exchange.map fun x => { x with sending := false } }

/-- The reply wait expires: the attempt ends as a miss; a frame begun before is received to its end (09 R171). -/
def waitExpires (s : State) : State := if waiting s then leaveLate true (missAttempt s) else s

/-! ### LINE-RESET and reset -/

/-- LINE-RESET (09 R179). -/
def lineReset (s : State) : State :=
  nextTurn (givesUp s) <| judgeDead <| s.modLine fun l =>
    { l with
      rx := .hunt
      ordPos := 0
      fastPos := 0
      turnCount := 0
      entries := l.entries.map fun e => { e with state := .untried, misses := 0 } }

/-- A channel's volatile fields at a reset (06 R110, R129). -/
def Channel.afterReset (c : Channel) : Channel := { c with latest := none, waiting := false }

/-- An entry at a reset: UNTRIED, no misses, no command, no last values (09 R180). -/
def PollEntry.afterReset (e : PollEntry) : PollEntry :=
  { e with
    state := .untried
    misses := 0
    command := none
    last := none
    handed := false
    channels := mapFour Channel.afterReset e.channels }

/-- The line at power-on and YARD-RESET, before its first turn is chosen (09 R180). -/
def Line.afterReset (l : Line) : Line := { Line.empty with entries := l.entries.map PollEntry.afterReset }

/-! ### SET-OUTSTATION -/

/-- The kinds' limits in the poll list (09 R168). -/
def kindLimit : EntryKind → Nat
  | .crown => 6 | .meter => 24 | .governor => 8 | .telltale => 8 | .barometer => 1

/-- The poll list has no room for one more entry of a kind. -/
def Line.kindFull (l : Line) (kind : EntryKind) : Bool :=
  decide (kindLimit kind ≤ (l.entries.filter fun e => decide (e.kind = kind)).length)

/-- A new entry (09 R169). -/
def newEntry (address : Nat) (kind : EntryKind) (retry : Nat) : PollEntry :=
  ⟨address, kind, if kind = .barometer then .yard else .none, retry, Vector.replicate 4 Channel.starting, .untried, 0,
    none, none, false⟩

/-- An entry linked to a holder or district (09 R169). -/
def PollEntry.owned (e : PollEntry) : Bool :=
  match e.link with
  | .holder _ => true
  | .district _ => true
  | _ => false

/-- An entry leaves the list: the entries behind it keep their order, and a position on or behind it moves up (09 R169,
R170). -/
def Line.delete (l : Line) (address : Nat) : Line :=
  match l.entries.findIdx? (·.address == address) with
  | none => l
  | some i =>
    { l with
      entries := l.entries.eraseIdx i
      ordPos := if i < l.ordPos then l.ordPos - 1 else l.ordPos
      fastPos := if i < l.fastPos then l.fastPos - 1 else l.fastPos }

/-- After the poll list has changed: an exchange with an entry that left its class ends with no judgement, and an idle line
chooses (09 R169, R170). A poll still being sent to that entry is given up with ABORT (DESIGN CHOICE, log entry 31). -/
def afterListChange (left : Option Nat) (s : State) : State :=
  let s := judgeDead s
  match s.line.exchange with
  | none => nextTurn s.line.gaveUp s
  | some x => if some x.address = left then leaveLate (waiting s || s.line.lateFrame) (nextTurn (givesUp s) s) else s

/-- What SET-OUTSTATION does with the poll list, once its own fields are in range (the table of 09 R169): its result, the
list after it, and the address that left its class's polling. A METER entry's channels are removed by BKE beforehand. -/
def outstationResult (l : Line) (address : Nat) (action : OutstationAction) (kind : EntryKind) : Result :=
  match action, l.entry address with
  | .set, none => if Config.maxEntries ≤ l.entries.length ∨ l.kindFull kind then .full else .done
  | .set, some e => if e.kind = kind then .done else if e.owned then .inUse else if l.kindFull kind then .full else .done
  | .delete, none => .noRecord
  | .delete, some e => if e.owned then .inUse else .done

/-- The poll list after a SET-OUTSTATION that is taken (09 R169). -/
def applyOutstation (address : Nat) (action : OutstationAction) (kind : EntryKind) (retry : Nat) (s : State) : State :=
  match action, s.line.entry address with
  | .set, none => afterListChange none (s.modLine fun l => { l with entries := l.entries ++ [newEntry address kind retry] })
  | .set, some e =>
    if e.kind = kind then s.modLine fun l => l.modEntry address fun e => { e with retry := retry }
    else
      let new := newEntry address kind retry
      afterListChange (if new.fast = e.fast then none else some address) (s.modLine fun l => l.modEntry address fun _ => new)
  | .delete, _ => afterListChange (some address) (s.modLine fun l => l.delete address)

end Sys2Proof.Machine
end

