-- ==== Sys2Proof/Machine/Gas.lean ====
section
/-! DEFINITION. Gas quantities and the correction arithmetic (01): clamps, the correction factor, booked volume and heat,
the account accumulators, pricing, and a holder's volume, stage and stock. -/

namespace Sys2Proof.Machine

/-! ### Inputs and the factor -/

/-- The barometer as used (01 R1). -/
def clampBarometer (b : Nat) : Nat := clampTo 2600 3200 b

/-- The gauge pressure as used (01 R1). -/
def clampGauge (g : Nat) : Nat := clampTo 0 600 g

/-- The gas temperature as used (01 R1). -/
def clampTemp (t : Int) : Int := clampInt (-200) 1200 t

/-- Tenths of an inch w.g. to hundredths of an inch of mercury (01 R4). -/
def gaugeToMercury (g : Nat) : Nat := (g * 50 + 34) / 68

/-- Absolute pressure from clamped barometer and gauge (01 R5). -/
def absPressure (b g : Nat) : Nat := b + gaugeToMercury g

/-- Absolute temperature from a clamped gas temperature (01 R5). -/
def absTemp (t : Int) : Nat := (t + 4597).toNat

/-- The correction factor from Pa and TR (01 R6). -/
def factorOf (pa tr : Nat) : Nat := (2 * pa * 5197 * 65536 + 3000 * tr) / (2 * 3000 * tr)

/-- The correction factor of measured inputs, each clamped as R1 gives (01 R1, R4 to R6). -/
def correction (barometer gauge : Nat) (temp : Int) : Nat :=
  factorOf (absPressure (clampBarometer barometer) (clampGauge gauge)) (absTemp (clampTemp temp))

/-- Whether a clamp acted on a booking's barometer, pressure or temperature (01 R8). -/
def bookingClamped (barometer pressure : Nat) (temp : Int) : Bool :=
  decide (clampBarometer barometer ≠ barometer) || decide (clampGauge pressure ≠ pressure)
    || decide (clampTemp temp ≠ temp)

/-! ### Bookings and accounts -/

/-- The pulses from base to target, modulo 65536 (06 R113). -/
def pulsesBetween (base target : Nat) : Nat := (target % 65536 + 65536 - base % 65536) % 65536

/-- The corrected volume of a booking, in 1/65536 cu ft (01 R7). -/
def bookedVolume (pulses constant factor : Nat) : Nat := pulses * constant * factor

/-- The heat of a booking, in 1/65536 Btu (01 R8). -/
def bookedHeat (volume cv : Nat) : Nat := volume * cv

/-- An account with a booking's volume and heat added, or none where an upper end would be passed (01 R9 to R11). -/
def Account.add (a : Account) (dv dh : Nat) (clamped : Bool) : Option Account :=
  let total := a.volume * 65536 + a.volumeRes + dv
  let sum := a.heatRes + dh
  let volume := total / 65536
  let heat := a.heat + sum / Config.therm
  if volume ≤ Config.maxVolume ∧ heat ≤ Config.maxWord then
    some { a with
      volume := volume
      volumeRes := total % 65536
      heat := heat
      heatRes := sum % Config.therm
      bookings := bump Config.maxWord a.bookings
      clampedBookings := if clamped then bump Config.maxWord a.clampedBookings else a.clampedBookings }
  else none

/-- A roll to the given period (01 R13, 07 R145). -/
def Account.roll (a : Account) (period : Nat) : Account :=
  { a with
    prevVolume := a.volume
    prevHeat := a.heat
    prevBookings := a.bookings
    volume := 0
    heat := 0
    bookings := 0
    clampedBookings := 0
    diverts := DivertCounts.zero
    limitReached := false
    period := period }

/-- An OPEN or CLOSED account whose period differs is rolled; any other stands (07 R144). -/
def Account.rolled (a : Account) (period : Nat) : Account :=
  if a.state ≠ .free ∧ a.period ≠ period then a.roll period else a

/-- The CV that prices a booking added to an account (01 R8): the override, else the declared CV. -/
def Account.pricingCv (a : Account) (declared : Nat) : Nat := a.cv.getD declared

/-- Whole cubic feet priced in whole therms (01 R14). -/
def price (cuft : Int) (cv : Nat) : Int := (cuft * cv + 50000) / 100000

/-! ### Holders -/

/-- The total stroke of a holder (01 R2). -/
def totalStroke (lifts : List Lift) : Nat := (lifts.map (·.stroke)).sum

/-- The sum of area times raised height over the lifts from the one that starts at `base` (01 R15). -/
def raisedSum (h : Nat) : Nat → List Lift → Nat
  | _, [] => 0
  | base, l :: ls => l.area * min (h - base) l.stroke + raisedSum h (base + l.stroke) ls

/-- The geometric volume at a clamped height (01 R15). -/
def geometricVolume (landed : Nat) (lifts : List Lift) (h : Nat) : Nat := landed + raisedSum h 0 lifts / 100

/-- The stage among the lifts from number `n + 1`, which starts at `base` (01 R16). -/
def stageFrom (h : Nat) : Nat → Nat → List Lift → Nat
  | n, _, [] => n
  | n, base, l :: ls => if h ≤ base then n else stageFrom h (n + 1) (base + l.stroke) ls

/-- The stage at a clamped height: the number of the outermost raised lift (01 R16). -/
def stageOf (lifts : List Lift) (h : Nat) : Nat := stageFrom h 0 0 lifts

/-- The stage pressure of a stage, 0 at stage 0 (01 R16). -/
def stagePressureOf (lifts : List Lift) : Nat → Nat
  | 0 => 0
  | n + 1 => ((lifts[n]?).map (·.pressure)).getD 0

/-- The corrected stock (01 R17). -/
def stockOf (gv factor : Nat) : Nat := (gv * factor + 32768) / 65536

/-- The recomputation of Gv, stage, stage pressure, stock and stock-clamped mark from the height in use, the gas
temperature, the barometer in use and the configuration in force (01 R15 to R18, 02 R28). -/
def Holder.recompute (r : Holder) (barometer : Nat) : Holder :=
  let h := clampTo 0 (totalStroke r.lifts) r.height
  let gv := geometricVolume r.landed r.lifts h
  let stage := stageOf r.lifts h
  let pressure := stagePressureOf r.lifts stage
  { r with
    gv := gv
    stage := stage
    stagePressure := pressure
    stock := stockOf gv (correction barometer pressure r.temp)
    stockClamped := decide (clampBarometer barometer ≠ barometer) || decide (clampTemp r.temp ≠ r.temp)
      || decide (h ≠ r.height) }

end Sys2Proof.Machine
end

