-- ==== Sys2Proof/Machine/Store.lean ====
section
/-! DEFINITION. The Record Store (08): slots and their judging, damage, the tables and their pools (05 R90 to R92), the
arbiter, and the scrubber. -/

namespace Sys2Proof.Machine

/-! ### Slots -/

/-- The store slot of a main table (05 R91). -/
def mainSlot (t : Nat) : Nat := 256 + t

/-- The store slot of a point table (05 R91). -/
def pointSlot (t : Nat) : Nat := 280 + t

/-- The account record in a slot (07 R132). -/
def Rst.account (r : Rst) (n : Nat) : Account := readAt Account.free r.accounts n

/-- The descriptors of a main table. -/
def Rst.mainTable (r : Rst) (t : Nat) : Sparse Desc := readAt [] r.mains t

/-- The leaves of a point table. -/
def Rst.pointTable (r : Rst) (t : Nat) : Sparse Leaf := readAt [] r.points t

/-- One descriptor of a main table. -/
def Rst.desc (r : Rst) (t i : Nat) : Desc := readAt Desc.invalid (r.mainTable t) i

/-- One leaf of a point table. -/
def Rst.leaf (r : Rst) (t i : Nat) : Leaf := readAt Leaf.invalid (r.pointTable t) i

/-- The flawed words of a slot. -/
def Rst.flawsOf (r : Rst) (n : Nat) : Nat := readAt 0 r.flaws n

/-- A slot's status is damaged (08 R154). -/
def Rst.isDamaged (r : Rst) (n : Nat) : Bool := readAt false r.damaged n

/-- The allocation record of a main table; none for a free one (05 R91). -/
def Rst.mainAllocOf (r : Rst) (t : Nat) : Option MainAlloc := readAt none r.mainAlloc t

/-- The allocation record of a point table; none for a free one (05 R91). -/
def Rst.pointAllocOf (r : Rst) (t : Nat) : Option PointAlloc := readAt none r.pointAlloc t

/-- Set the number of flawed words of a slot. -/
def Rst.setFlaws (r : Rst) (n v : Nat) : Rst := { r with flaws := writeAt 0 r.flaws n v }

/-- Set a slot's status. -/
def Rst.setDamaged (r : Rst) (n : Nat) (v : Bool) : Rst := { r with damaged := writeAt false r.damaged n v }

/-- A whole write of an account slot with a fresh check code: no flaw is left (08 R154, R155). -/
def Rst.putAccount (r : Rst) (n : Nat) (a : Account) : Rst :=
  { r.setFlaws n 0 with accounts := writeAt Account.free r.accounts n a }

/-- A write of one descriptor of a main table, with the others as they stand (05 R92). -/
def Rst.putDesc (r : Rst) (t i : Nat) (v : Desc) : Rst :=
  { r.setFlaws (mainSlot t) 0 with mains := writeAt [] r.mains t (writeAt Desc.invalid (r.mainTable t) i v) }

/-- A write of one leaf of a point table, with the others as they stand (05 R92). -/
def Rst.putLeaf (r : Rst) (t i : Nat) (v : Leaf) : Rst :=
  { r.setFlaws (pointSlot t) 0 with points := writeAt [] r.points t (writeAt Leaf.invalid (r.pointTable t) i v) }

/-- A main table is written all INVALID; its status is clean (05 R92, 08 R155, R159). -/
def Rst.initMain (r : Rst) (t : Nat) : Rst :=
  { (r.setFlaws (mainSlot t) 0).setDamaged (mainSlot t) false with mains := writeAt [] r.mains t [] }

/-- A point table is written all INVALID; its status is clean (05 R92, 08 R155, R159). -/
def Rst.initPoint (r : Rst) (t : Nat) : Rst :=
  { (r.setFlaws (pointSlot t) 0).setDamaged (pointSlot t) false with points := writeAt [] r.points t [] }

/-- Flaws arise in the world: so many more words of each slot named are flawed (08 R154). -/
def Rst.addFlaws (r : Rst) (fs : List Flaw) : Rst :=
  fs.foldl (fun r f => if f.slot < Config.slots then r.setFlaws f.slot (r.flawsOf f.slot + f.words) else r) r

/-! ### Pools -/

/-- A main table leaves its free list as a provisional child of a district (05 R91). -/
def Rst.allocMain (r : Rst) (t : Nat) (d : DistrictId) : Rst :=
  { r.initMain t with
    freeMains := without r.freeMains t
    mainAlloc := writeAt none r.mainAlloc t (some ⟨d, true⟩) }

/-- A point table leaves its free list as a provisional child of a main table (05 R91). -/
def Rst.allocPoint (r : Rst) (t main index : Nat) : Rst :=
  { r.initPoint t with
    freePoints := without r.freePoints t
    pointAlloc := writeAt none r.pointAlloc t (some ⟨main, index, true⟩) }

/-- A main table joins the tail of its free list; its contents are left (05 R91). -/
def Rst.freeMain (r : Rst) (t : Nat) : Rst :=
  { r with freeMains := addNew r.freeMains t, mainAlloc := writeAt none r.mainAlloc t none }

/-- A point table joins the tail of its free list; its contents are left (05 R91). -/
def Rst.freePoint (r : Rst) (t : Nat) : Rst :=
  { r with freePoints := addNew r.freePoints t, pointAlloc := writeAt none r.pointAlloc t none }

/-- The parent descriptor of a main table has been written: the table is provisional no longer (05 R91). -/
def Rst.settleMain (r : Rst) (t : Nat) : Rst :=
  { r with mainAlloc := writeAt none r.mainAlloc t ((r.mainAllocOf t).map fun a => { a with provisional := false }) }

/-- The parent descriptor of a point table has been written: the table is provisional no longer (05 R91). -/
def Rst.settlePoint (r : Rst) (t : Nat) : Rst :=
  { r with pointAlloc := writeAt none r.pointAlloc t ((r.pointAllocOf t).map fun a => { a with provisional := false }) }

/-- The point tables whose allocation record names a main table (05 R109), in ascending number, in which order they are freed
(DESIGN CHOICE, log entry 34). -/
def Rst.children (r : Rst) (main : Nat) : List Nat :=
  r.pointAlloc.filterMap fun p => if p.2.map (·.main) = some main then some p.1 else none

/-- Each provisional table is freed to the tail of its list (05 R91), in ascending number (log entry 34). -/
def Rst.freeProvisional (r : Rst) : Rst :=
  let points := r.pointAlloc.filterMap fun p => if p.2.map (·.provisional) = some true then some p.1 else none
  let mains := r.mainAlloc.filterMap fun p => if p.2.map (·.provisional) = some true then some p.1 else none
  mains.foldl Rst.freeMain (points.foldl Rst.freePoint r)

/-- The point tables that are allocated, in ascending order (07 R140, R148). -/
def Rst.allocatedPoints (r : Rst) : List Nat := r.pointAlloc.filterMap fun p => p.2.map fun _ => p.1

/-! ### Counts and latches -/

/-- A correctable read is counted and latched (08 R155, R160). -/
def Rst.noteCorrected (r : Rst) (n : Nat) : Rst :=
  { r with corrected := bump Config.maxCount r.corrected, lastCorrected := some n, correctedLatch := some n }

/-- An uncorrectable read is counted and latched (08 R156 to R158, R160). -/
def Rst.noteDamaged (r : Rst) (n : Nat) : Rst :=
  { r with
    damagedReads := bump Config.maxCount r.damagedReads
    lastDamaged := some n
    damagedLatch := some ⟨n, (r.damagedLatch.map (·.reads)).getD 0 + 1⟩ }

/-! ### Stale marks and the cache -/

/-- The whole booking cache is flushed (06 R121). -/
def flushCache (b : Bke) : Bke := { b with cache := [] }

/-- The cache entries a test names are flushed (06 R121). -/
def flushWhere (p : CacheEntry → Bool) (b : Bke) : Bke := { b with cache := b.cache.filter fun e => !p e }

/-- The walk in flight, or the resolution held, is marked stale (05 R99, 06 R122). -/
def Phase.markStale : Phase → Phase
  | .resolving w => .resolving { w with stale := true }
  | .committing (some r) _ => .committing (some r) true
  | .committing none st => .committing none st
  | .marking slot barred own => .marking slot barred own

/-- The booking in hand is made stale (06 R122). -/
def markStale (b : Bke) : Bke := { b with inHand := b.inHand.map fun h => { h with phase := h.phase.markStale } }

/-! ### The judging of a read -/

/-- What a read finds (08 R155): contents, a damaged status that stood before, or a flaw it cannot correct. -/
inductive Found where
  | contents | damaged | uncorrectable
  deriving DecidableEq, Repr

/-- The effects of an uncorrectable read (08 R156 to R158). `own` tells that the walk's own access made it; `period` is the
yard period as it stands at the access. -/
def takeDamage (own : Bool) (period n : Nat) (s : State) : State :=
  let s := s.modRst fun r => r.noteDamaged n
  if n = 0 then s.modRst fun r => r.putAccount 0 (Account.suspense period)
  else if n < Config.accounts then s.modRst fun r => r.setDamaged n true
  else (s.modRst fun r => r.setDamaged n true).modBke fun b => if own then flushCache b else markStale (flushCache b)

/-- A read of a slot is judged (08 R155). -/
def judge (own : Bool) (period n : Nat) (s : State) : Found × State :=
  if s.rst.isDamaged n then (.damaged, s)
  else match s.rst.flawsOf n with
    | 0 => (.contents, s)
    | 1 => (.contents, s.modRst fun r => (r.setFlaws n 0).noteCorrected n)
    | _ => (.uncorrectable, takeDamage own period n s)

/-! ### The arbiter -/

/-- BKE's resolution is stale (06 R122). -/
def Bke.staleCommit (b : Bke) : Bool :=
  match b.inHand with
  | some h => match h.phase with
    | .committing (some _) stale => stale
    | _ => false
  | none => false

/-- An access is granted; it takes what it reads from outside the store as it stands now (06 R122, R125, 08 R163). -/
def grant (q : Requester) (count : Nat) (s : State) : State :=
  s.modRst fun r => { r with arbiter := { r.arbiter with
    serving := some ⟨q, s.yard.period, s.yard.barometer, s.yard.declaredCv, s.bke.staleCommit⟩
    bkeWaits := r.arbiter.bkeWaits && decide (q ≠ .bke)
    rexWaits := r.arbiter.rexWaits && decide (q ≠ .rex)
    scrubWaits := r.arbiter.scrubWaits && decide (q ≠ .scrub)
    count := count } }

/-- The arbiter grants the next access among those waiting, unless it is serving one (the table of 08 R163). -/
def arbitrate (s : State) : State :=
  let a := s.rst.arbiter
  if a.serving.isSome then s
  else if a.bkeWaits && (!a.rexWaits || decide (a.count < s.yard.bookingShare)) then
    grant .bke (bump s.yard.bookingShare a.count) s
  else if a.rexWaits then grant .rex 0 s
  else if a.scrubWaits then grant .scrub a.count s
  else s

/-- A requester asks for an access; an idle arbiter grants it at once (08 R163). -/
def request (q : Requester) (s : State) : State :=
  arbitrate <| s.modRst fun r => { r with arbiter := match q with
    | .bke => { r.arbiter with bkeWaits := true }
    | .rex => { r.arbiter with rexWaits := true }
    | .scrub => { r.arbiter with scrubWaits := true } }

/-- A waiting access of BKE is withdrawn (08 R164). -/
def withdrawBke (s : State) : State := s.modRst fun r => { r with arbiter := { r.arbiter with bkeWaits := false } }

/-- The access being served ends, and the next is granted (08 R163). -/
def release (s : State) : State :=
  arbitrate <| s.modRst fun r => { r with arbiter := { r.arbiter with serving := none } }

/-- The access of a requester that is being served. -/
def State.served (s : State) (q : Requester) : Option Grant := s.rst.arbiter.serving.filter fun g => decide (g.requester = q)

/-! ### The scrubber -/

/-- The scrub timer expires (08 R161); with no timer running nothing expires. -/
def scrubTimerExpires (s : State) : State :=
  if s.rst.scrubTimer.isNone then s
  else
    let s := s.modRst fun r => { r with scrubTimer := some s.yard.scrubInterval }
    if s.rst.scrubPending then s else request .scrub (s.modRst fun r => { r with scrubPending := true })

/-- A granted scrub check: the slot at the pointer is judged and the pointer goes on (08 R161). -/
def scrubEffect (g : Grant) (s : State) : State :=
  let s := (judge false g.period s.rst.scrubPointer s).2
  s.modRst fun r => { r with
    scrubPointer := if r.scrubPointer + 1 < Config.slots then r.scrubPointer + 1 else 0
    scrubPending := false }

/-- The scrub interval is written (08 R162). An interval of 0 withdraws a waiting check and clears the pending mark, also while a
check already granted runs to its end (log entry 35). -/
def setScrubInterval (v : Nat) (s : State) : State :=
  let s := s.modYard fun y => { y with scrubInterval := v }
  if v = 0 then
    s.modRst fun r => { r with
      scrubTimer := none
      scrubPending := false
      arbiter := { r.arbiter with scrubWaits := false } }
  else s.modRst fun r => { r with scrubTimer := some v }

/-- The booking share is written; a greater count comes down to it (08 R163). -/
def setBookingShare (v : Nat) (s : State) : State :=
  (s.modYard fun y => { y with bookingShare := v }).modRst fun r =>
    { r with arbiter := { r.arbiter with count := min r.arbiter.count v } }

/-! ### Reset -/

/-- The store at power-on and YARD-RESET: contents, status and pools kept, tables left provisional freed, the rest at reset
values (05 R91, 08 R160, R162, R164). -/
def Rst.afterReset (scrubInterval : Nat) (r : Rst) : Rst :=
  { r.freeProvisional with
    corrected := 0
    lastCorrected := none
    damagedReads := 0
    lastDamaged := none
    damagedLatch := none
    correctedLatch := none
    scrubPointer := 0
    scrubPending := false
    scrubTimer := if scrubInterval = 0 then none else some scrubInterval
    arbiter := Arbiter.idle }

end Sys2Proof.Machine
end

