-- ==== Sys2Proof/Machine/Booking.lean ====
section
/-! DEFINITION. The Booking Engine (06) and its walk of the meter directory (05 R93 to R99): channels, the queue, the booking
cycle, commit and suspense, and SET-CHANNEL. -/

namespace Sys2Proof.Machine

/-! ### Meter points and channels -/

/-- The district of a meter point (05 R89). -/
def pointDistrict (p : Nat) : DistrictId := ⟨p / 512 % 8, Nat.mod_lt _ (by decide)⟩

/-- The main index of a meter point (05 R89). -/
def mainIndex (p : Nat) : Nat := p % 512 / 32

/-- The point index of a meter point (05 R89). -/
def pointIndex (p : Nat) : Nat := p % 32

/-- A channel of a meter entry. -/
def State.channel (s : State) (address : Nat) (ch : Fin 4) : Option Channel := (s.line.entry address).map (·.channels[ch])

/-- Change a channel of a poll entry. -/
def State.modChannel (s : State) (address : Nat) (ch : Fin 4) (f : Channel → Channel) : State :=
  s.modLine fun l => l.modEntry address fun e => { e with channels := e.channels.set ch (f e.channels[ch]) }

/-- The queue entry is the channel's. -/
def QueueEntry.isFor (q : QueueEntry) (address : Nat) (ch : Fin 4) : Bool :=
  decide (q.address = address) && decide (q.channel = ch)

/-- The booking in hand is the channel's. -/
def InHand.isFor (h : InHand) (address : Nat) (ch : Fin 4) : Bool := decide (h.address = address) && decide (h.channel = ch)

/-- The queue holds an entry for the channel (06 R114). -/
def Bke.queued (b : Bke) (address : Nat) (ch : Fin 4) : Bool := b.queue.any (·.isFor address ch)

/-! ### Resolution -/

/-- Set the booking in hand's phase. -/
def setPhase (h : InHand) (p : Phase) (s : State) : State := s.modBke fun b => { b with inHand := some { h with phase := p } }

/-- The booking goes to COMMITTING with a resolution, or with the IMPLAUSIBLE finding, and its commit access is requested (06
R118, R119). -/
def conclude (h : InHand) (r : Option Resolution) (s : State) : State := request .bke (setPhase h (.committing r false) s)

/-- A route that resolves a point (05 R100). -/
def routeHit (r : RouteSettings) (p : Nat) : Option Resolution :=
  if r.enabled ∧ r.low ≤ p ∧ p ≤ r.high then r.slot.map fun n => .account n r.barred false .route else none

/-- The direct routes, tried in order (05 R100). -/
def Bke.routed (b : Bke) (p : Nat) : Option Resolution := (routeHit b.routes[0] p).orElse fun _ => routeHit b.routes[1] p

/-- The cache entry of a point (06 R120). -/
def Bke.cached (b : Bke) (p : Nat) : Option CacheEntry := b.cache.find? fun e => decide (e.point = p)

/-- An entry becomes the most recent: one for its point is replaced, and a full cache drops its least recent (06 R120). -/
def Bke.remember (b : Bke) (e : CacheEntry) : Bke :=
  let others := b.cache.filter fun c => decide (c.point ≠ e.point)
  { b with cache := e :: others.take (Config.maxCache - 1) }

/-- A root is passed: USED is set in the district record (05 R96). -/
def useRoot (d : DistrictId) (s : State) : State :=
  s.modDistrict d fun r => { r with root := { r.root with used := true } }

/-- The walk waits for the access of a level. -/
def awaitLevel (h : InHand) (w : Walk) (level : WalkLevel) (s : State) : State :=
  request .bke (setPhase h (.resolving { w with level := level }) s)

/-- BKE resolves the booking in hand: by a route, by the cache, or by a walk, whose root it reads at once (06 R119, 05 R94). -/
def resolve (h : InHand) (s : State) : State :=
  match s.bke.routed h.point with
  | some r => conclude h (some r) s
  | none => match s.bke.cached h.point with
    | some e => conclude h (some (.account e.slot e.barred e.global .cache)) (s.modBke (·.remember e))
    | none =>
      let d := pointDistrict h.point
      let root := (s.district d).root
      match root.table with
      | none => conclude h (some (.noRoute .invalidRoot)) s
      | some t => awaitLevel h ⟨h.point, .mainRead t, root.barred, none, none, false⟩ (.mainRead t) (useRoot d s)

/-- A walk ends: a stale outcome is discarded and the booking resolved again; a fresh ACCOUNT outcome is cached (05 R98, 06
R119, R120, R122). -/
def walkEnds (h : InHand) (w : Walk) (r : Resolution) (s : State) : State :=
  if w.stale then resolve h s
  else conclude h (some r) (match r with
    | .account slot barred global _ => s.modBke (·.remember ⟨w.point, slot, barred, global⟩)
    | .noRoute _ => s)

/-- The point whose path the walk is on (05 R95). -/
def Walk.here (w : Walk) : Nat := w.target.getD w.point

/-- The reason of a walk that stops at an INVALID descriptor: BAD-INDIRECT on a target's path (05 R94, R95). -/
def Walk.fails (w : Walk) (own : NoRoute) : Resolution := .noRoute (if w.target.isSome then .badIndirect else own)

/-- An INDIRECT leaf passes the walk to the root of its target's path (05 R95). -/
def followIndirect (h : InHand) (w : Walk) (own : LeafRef) (target : Nat) (s : State) : State :=
  let d := pointDistrict target
  let root := (s.district d).root
  let w := { w with target := some target, own := some own }
  match root.table with
  | none => walkEnds h w (.noRoute .badIndirect) s
  | some t => awaitLevel h { w with barred := w.barred || root.barred } (.mainRead t) (useRoot d s)

/-- A leaf has been passed: an ACCOUNT leaf ends the walk, an INDIRECT one passes it on (05 R94, R95, R98). -/
def passLeaf (h : InHand) (w : Walk) (t : Nat) (leaf : Leaf) (s : State) : State :=
  let here : LeafRef := ⟨t, pointIndex w.here, leaf.kind⟩
  match leaf.kind with
  | .account slot => walkEnds h w (.account slot w.barred leaf.global (.walk (w.own.getD here))) s
  | .indirect target => followIndirect h w here target s
  | .invalid => walkEnds h w (w.fails .invalidLeaf) s

/-! ### Flag accesses -/

/-- A flag access on a main descriptor: USED is set where it still names the table it named (05 R92, R96). -/
def flagMain (t i next : Nat) (r : Rst) : Rst :=
  let d := r.desc t i
  if d.table = some next then r.putDesc t i { d with used := true } else r

/-- A flag access on a leaf: the flags are changed where the leaf still has its kind and target (05 R92). -/
def flagLeaf (own : LeafRef) (f : Leaf → Leaf) (r : Rst) : Rst :=
  let l := r.leaf own.table own.index
  if l.kind = own.kind then r.putLeaf own.table own.index (f l) else r

/-- A flag access to a table: its read is judged, and the flag is changed only where the read gives contents (05 R92, R97, 08
R158). -/
def flagAccess (own : Bool) (period slot : Nat) (f : Rst → Rst) (s : State) : Found × State :=
  match judge own period slot s with
  | (.contents, s) => (.contents, s.modRst f)
  | (found, s) => (found, s)

/-! ### The walk's accesses -/

/-- What a walk's access reads and writes in the store (05 R92, R97). -/
def walkAccess (g : Grant) (w : Walk) (s : State) : Found × State :=
  match w.level with
  | .mainRead t => judge true g.period (mainSlot t) s
  | .pointRead t => judge true g.period (pointSlot t) s
  | .mainFlag t next => flagAccess true g.period (mainSlot t) (flagMain t (mainIndex w.here) next) s
  | .leafFlag t leaf =>
    flagAccess true g.period (pointSlot t)
      (flagLeaf ⟨t, pointIndex w.here, leaf.kind⟩ fun l => { l with used := true }) s

/-- A walk's access ends and the walk goes on: to its next read, to a USED flag access, or to its outcome (05 R94 to R97). A
flag access to a table marked damaged before changes nothing and the walk goes on. An INDIRECT leaf on a target's path, at which the
walk ends BAD-INDIRECT, is not passed, and its USED is not set (DEDUCED, log entry 41). -/
def walkGoesOn (h : InHand) (w : Walk) (found : Found) (s : State) : State :=
  let damaged := walkEnds h w (.noRoute .damaged) s
  match w.level with
  | .mainRead t =>
    if found ≠ .contents then damaged
    else
      let d := s.rst.desc t (mainIndex w.here)
      let w := { w with barred := w.barred || d.barred }
      match d.table with
      | none => walkEnds h w (w.fails .invalidMain) s
      | some next => awaitLevel h w (if d.used then .pointRead next else .mainFlag t next) s
  | .mainFlag _ next => if found = .uncorrectable then damaged else awaitLevel h w (.pointRead next) s
  | .pointRead t =>
    if found ≠ .contents then damaged
    else
      let leaf := s.rst.leaf t (pointIndex w.here)
      let passes := match leaf.kind with
        | .account _ => true
        | .indirect _ => w.target.isNone
        | .invalid => false
      if !passes then walkEnds h w (w.fails .invalidLeaf) s
      else
        let w := { w with barred := w.barred || leaf.barred }
        if leaf.used then passLeaf h w t leaf s else awaitLevel h w (.leafFlag t leaf) s
  | .leafFlag t leaf => if found = .uncorrectable then damaged else passLeaf h w t leaf s

/-- The access of a walk in flight ends. -/
def walkAccessEnds (g : Grant) (h : InHand) (w : Walk) (s : State) : State :=
  let (found, s) := walkAccess g w s
  -- the walk as the access has left it: its own finding does not make it stale
  walkGoesOn h w found s

/-! ### The cycle -/

/-- The booking that BKE takes from a queue entry; none where no pulses stand to be booked (06 R118). -/
def takeEntry (q : QueueEntry) (s : State) : Option InHand :=
  match s.channel q.address q.channel with
  | none => none
  | some c =>
    let n := pulsesBetween c.base q.target
    if n = 0 then none
    else some ⟨q.address, q.channel, q.target, q.pressure, q.temp, c.point, c.constant, c.limit, n, .committing none false⟩

/-- BKE takes the queue's head; an entry with nothing to book ends its cycle at once; on an empty queue BKE goes IDLE (06
R118). -/
def takeHeads : List QueueEntry → State → State
  | [], s => s.modBke fun b => { b with queue := [], inHand := none }
  | q :: qs, s =>
    match takeEntry q s with
    | none => takeHeads qs s
    | some h =>
      let s := s.modBke fun b => { b with queue := qs }
      if h.limit < h.pulses then conclude h none s else resolve h s

/-- A cycle ends (06 R118). -/
def endCycle (s : State) : State := takeHeads s.bke.queue s

/-! ### Commit -/

/-- The diverted count of a reason rises by one (06 R125, 07 R132). -/
def DivertCounts.raise (c : DivertCounts) : Divert → DivertCounts
  | .implausible => { c with implausible := bump Config.maxWord c.implausible }
  | .noRoute => { c with noRoute := bump Config.maxWord c.noRoute }
  | .barred => { c with barred := bump Config.maxWord c.barred }
  | .closed => { c with closed := bump Config.maxWord c.closed }
  | .damaged => { c with damaged := bump Config.maxWord c.damaged }
  | .full => { c with full := bump Config.maxWord c.full }

/-- A booking's quantities at the grant: its volume in 1/65536 cu ft, and whether a clamp acted (06 R125, 01 R1, R7). -/
structure Quantity where
  volume : Nat
  clamped : Bool
  deriving DecidableEq, Repr

/-- The quantities of the booking in hand (06 R125). -/
def quantityOf (g : Grant) (h : InHand) : Quantity :=
  ⟨bookedVolume h.pulses h.constant (correction g.barometer h.pressure h.temp),
    bookingClamped g.barometer h.pressure h.temp⟩

/-- What became of a booking at its commit: added to its account, added to suspense with a reason, or not committed, with the
reason its DIVERTED latch takes (06 R124 to R126). -/
inductive Committed where
  | account | suspense (r : Divert) | refused (r : Divert)
  deriving DecidableEq, Repr

/-- A diverted booking is added to suspense, or suspense cannot take it (06 R125, R126, 08 R157). -/
def toSuspense (g : Grant) (q : Quantity) (reason : Divert) (s : State) : Committed × State :=
  match judge false g.period 0 s with
  | (.contents, s) =>
    let a := (s.rst.account 0).rolled g.period
    match a.add q.volume (bookedHeat q.volume g.declaredCv) q.clamped with
    | some b => (.suspense reason, s.modRst fun r => r.putAccount 0 { b with diverts := b.diverts.raise reason })
    | none => (.refused .full, s.modRst fun r => r.putAccount 0 { a with limitReached := true })
  | (_, s) => (.refused .damaged, s)

/-- A booking with an ACCOUNT resolution that is not barred: checks 5 to 7 on the account as it is read (06 R124, R125). A slot
that is not OPEN takes no booking. -/
def toAccount (g : Grant) (q : Quantity) (slot : Nat) (s : State) : Committed × State :=
  match judge false g.period slot s with
  | (.contents, s) =>
    let a := (s.rst.account slot).rolled g.period
    if a.state ≠ .opened then toSuspense g q .closed (s.modRst fun r => r.putAccount slot a)
    else match a.add q.volume (bookedHeat q.volume (a.pricingCv g.declaredCv)) q.clamped with
      | some b => (.account, s.modRst fun r => r.putAccount slot b)
      | none => toSuspense g q .full (s.modRst fun r => r.putAccount slot { a with limitReached := true })
  | (_, s) => toSuspense g q .damaged s

/-- Where a booking goes: the checks of 06 R124 in their order. -/
def commitTo (g : Grant) (q : Quantity) (r : Option Resolution) (s : State) : Committed × State :=
  match r with
  | none => toSuspense g q .implausible s
  | some (.noRoute .damaged) => toSuspense g q .damaged s
  | some (.noRoute _) => toSuspense g q .noRoute s
  | some (.account slot barred _ _) => if barred then toSuspense g q .barred s else toAccount g q slot s

/-- DIVERTED is latched with a reason, the channel and the point (06 R130). -/
def latchDiverted (h : InHand) (reason : Divert) (b : Bke) : Bke :=
  { b with diverted := some ⟨addNew ((b.diverted.map (·.reasons)).getD []) reason, h.address, h.channel, h.point⟩ }

/-- The booking source's latch for what became of a booking (06 R130). -/
def latchBooking (h : InHand) (c : Committed) (b : Bke) : Bke :=
  match c with
  | .account => b
  | .suspense .implausible => { b with implausible := some ⟨h.address, h.channel, h.pulses⟩ }
  | .suspense r => latchDiverted h r b
  | .refused r => latchDiverted h r b

/-- The channel after the commit: the base advances, or the pulses stay outstanding (06 R116, R123, R126). -/
def settleChannel (h : InHand) (c : Committed) (s : State) : State :=
  match c with
  | .refused _ =>
    if s.bke.queued h.address h.channel then s
    else s.modChannel h.address h.channel fun ch => { ch with waiting := true }
  | _ => s.modChannel h.address h.channel fun ch => { ch with base := h.target }

/-- A commit access as it works on the store, the channel and the latches (06 R123 to R126, R130). -/
def commitEffect (g : Grant) (h : InHand) (r : Option Resolution) (s : State) : Committed × State :=
  let (c, s) := commitTo g (quantityOf g h) r s
  (c, (settleChannel h c s).modBke (latchBooking h c))

/-- The MARKING phase of a committed booking whose own leaf is to be set BOOKED, if any (06 R127). -/
def booksLeaf (c : Committed) (r : Option Resolution) : Option Phase :=
  match c, r with
  | .refused _, _ => none
  | _, some (.account slot barred false (.walk own)) => some (.marking slot barred own)
  | _, _ => none

/-- A commit access ends: a resolution stale at the grant is worked again; else the booking is committed or refused, and
BOOKED is marked or the cycle ends (06 R122, R123, R127). -/
def commitEnds (g : Grant) (h : InHand) (r : Option Resolution) (s : State) : State :=
  if g.stale then resolve h s
  else
    let (c, s) := commitEffect g h r s
    match booksLeaf c r with
    | some p => request .bke (setPhase h p s)
    | none => endCycle s

/-- The flag access that sets BOOKED on a leaf (06 R127). -/
def markBooked (g : Grant) (own : LeafRef) (s : State) : State :=
  (flagAccess false g.period (pointSlot own.table) (flagLeaf own fun l => { l with booked := true }) s).2

/-! ### Meter replies -/

/-- The queue entry of a channel takes a reply's count, pressure and temperature, and keeps its place (step 2 of 06 R115). -/
def mergeEntry (address : Nat) (ch : Fin 4) (n : Nat) (r : MeterReading) (b : Bke) : Bke :=
  let merged (q : QueueEntry) : QueueEntry :=
    if q.isFor address ch then { q with target := n, pressure := r.pressure, temp := r.temp } else q
  { b with queue := b.queue.map merged }

/-- One channel of a good meter reply (06 R112, R115). -/
def takeCount (address : Nat) (r : MeterReading) (s : State) (ch : Fin 4) : State :=
  match s.channel address ch with
  | none => s
  | some c =>
    let count := r.counts[ch]
    if !c.enabled then s
    else if !c.baseTaken then
      s.modChannel address ch fun c => { c with latest := some count, base := count, baseTaken := true }
    else
      let s := s.modChannel address ch fun c => { c with latest := some count }
      if s.bke.queued address ch then
        s.modBke (mergeEntry address ch count r)
      else if count = c.base then s
      else if s.bke.queue.length < Config.maxQueue then
        let s := s.modChannel address ch fun c => { c with waiting := false }
        let s := s.modBke fun b => { b with queue := b.queue ++ [⟨address, ch, count, r.pressure, r.temp⟩] }
        if s.bke.inHand.isNone then endCycle s else s
      else s.modChannel address ch fun c => { c with waiting := true }

/-- The channels 0..3 in order. -/
def channelIds : List (Fin 4) := [0, 1, 2, 3]

/-- BKE takes a good meter reply (06 R115). -/
def meterReply (address : Nat) (r : MeterReading) (s : State) : State :=
  match s.line.entry address with
  | some e => if e.kind = .meter then channelIds.foldl (takeCount address r) s else s
  | none => s

/-! ### Removal -/

/-- The booking in hand is dropped and its waiting access withdrawn; BKE takes the head or goes IDLE (06 R128). -/
def dropInHand (s : State) : State := endCycle (withdrawBke s)

/-- The booking in hand is the removed channel's: it is discarded, with an access already granted completed first (06 R128). -/
def discardInHand (h : InHand) (s : State) : State :=
  match h.phase, s.served .bke with
  | .resolving w, some g => release (dropInHand (walkAccess g w s).2)
  | .committing r _, some g => if g.stale then release (dropInHand s) else release (commitEnds g h r s)
  | .resolving _, none => dropInHand s
  | .committing _ _, none => dropInHand s
  | .marking _ _ _, _ => s

/-- A channel's fields when it is removed (06 R111). -/
def Channel.removed (c : Channel) : Channel := { c with baseTaken := false, latest := none, waiting := false }

/-- The channels of a meter entry that a test names are removed, at one moment: their queue entries are discarded, a booking of
one of them in hand is discarded, and their fields are set aside (06 R111, R117, R128). The queue is cleared of all of them
first, so that BKE turns to no removed channel. -/
def removeWhere (address : Nat) (p : Fin 4 → Bool) (s : State) : State :=
  let s := s.modBke fun b => { b with queue := b.queue.filter fun q => !(decide (q.address = address) && p q.channel) }
  let s := match s.bke.inHand with
    | some h => if decide (h.address = address) && p h.channel then discardInHand h s else s
    | none => s
  channelIds.foldl (fun s ch => if p ch then s.modChannel address ch Channel.removed else s) s

/-- A channel is removed (06 R111). -/
def removeChannel (address : Nat) (s : State) (ch : Fin 4) : State := removeWhere address (fun c => decide (c = ch)) s

/-- Each enabled channel of a meter entry is removed before the entry goes (06 R111). -/
def removeChannels (address : Nat) (s : State) : State :=
  removeWhere address (fun ch => ((s.channel address ch).map (·.enabled)).getD false) s

/-! ### SET-CHANNEL -/

/-- The four fields of SET-CHANNEL written. -/
def Channel.configure (c : Channel) (enabled : Bool) (point constant limit : Nat) : Channel :=
  { c with enabled := enabled, point := point, constant := constant, limit := limit }

/-- SET-CHANNEL (06 R111). -/
def setChannel (address channel : Nat) (enabled : Bool) (point constant limit : Nat) (s : State) : Result × State :=
  match s.line.entry address with
  | none => (.noRecord, s)
  | some e =>
    if e.kind ≠ .meter then (.noRecord, s)
    else if hc : channel < 4 then
      if Config.maxPoint < point then (.range, s)
      else if !(within 1 10000 constant && within 1 4095 limit) then (.range, s)
      else
        let ch : Fin 4 := ⟨channel, hc⟩
        let c := e.channels[ch]
        let changed := decide (c.enabled ≠ enabled)
          || (c.enabled && (decide (c.point ≠ point) || decide (c.constant ≠ constant)))
        let s := if changed then removeChannel address s ch else s
        (.done, s.modChannel address ch fun c => c.configure enabled point constant limit)
    else (.range, s)

/-! ### Completed for a reset, and reset -/

/-- An access of BKE already granted is completed in the store (08 R164). -/
def completeBke (g : Grant) (s : State) : State :=
  match s.bke.inHand with
  | none => s
  | some h => match h.phase with
    | .resolving w => (walkAccess g w s).2
    | .committing r _ => if g.stale then s else (commitEffect g h r s).2
    | .marking _ _ own => markBooked g own s

/-- BKE at power-on and YARD-RESET (06 R129). -/
def Bke.afterReset (b : Bke) : Bke := { Bke.fresh with routes := b.routes }

end Sys2Proof.Machine
end

