-- ==== Sys2Proof/Machine/Directory.lean ====
section
/-! DEFINITION. The directory change requests and LOOK-POINT (05 R101 to R109): checks, plans of writes, and what each store
access of a request does. -/

namespace Sys2Proof.Machine

/-- How far a request has come at the end of a piece of its work: answered, or waiting for its next store access (11 R195). -/
inductive Progress where
  | answered (result : Result) (fields : List Field)
  | awaits (w : HeadWork)
  deriving DecidableEq, Repr

/-- A request answered with a result and no fields. -/
def refuse (r : Result) (s : State) : Progress × State := (.answered r [], s)

/-- A request goes on to its next store access. -/
def await (w : HeadWork) (s : State) : Progress × State := (.awaits w, s)

/-! ### Completion and the plan -/

/-- A directory change request completes: the whole cache is flushed and the booking in hand made stale (05 R102, 06 R122). -/
def completeChange (s : State) : State := s.modBke fun b => markStale (flushCache b)

/-- Set a district's root descriptor in the record (05 R92). -/
def setRoot (d : DistrictId) (root : Desc) (s : State) : State := s.modDistrict d fun r => { r with root := root }

/-- The main table a root names has its parent descriptor (05 R91). -/
def Rst.settleRoot (r : Rst) (root : Desc) : Rst :=
  match root.table with
  | some t => r.settleMain t
  | none => r

/-- An action that takes no store access is made at once; none for one that takes an access (05 R92, R103 to R109). -/
def actAtOnce (a : DirAction) (s : State) : Option State :=
  match a with
  | .setRoot d root => some ((setRoot d root s).modRst fun r => r.settleRoot root)
  | .barRoot d barred => some (s.modDistrict d fun r => { r with root := { r.root with barred := barred } })
  | .freeChildren main => some (s.modRst fun r => (r.children main).foldl Rst.freePoint r)
  | .freeMain t => some (s.modRst fun r => r.freeMain t)
  | .freePoint t => some (s.modRst fun r => r.freePoint t)
  | .setRoute n f => some (s.modBke fun b => { b with routes := b.routes.set n f })
  | .allocMain _ _ => none
  | .allocPoint _ _ _ => none
  | .reinitMain _ => none
  | .reinitPoint _ => none
  | .writeMain _ _ _ => none
  | .writeLeaf _ _ _ => none
  | .barMain _ _ _ => none
  | .barLeaf _ _ _ => none
  | .recheckPoint _ _ _ _ => none
  | .recheckMain _ => none

/-- The plan goes on to its next store access; at its end the request completes as a change and is answered DONE (05 R102). -/
def runPlan : List DirAction → State → Progress × State
  | [], s => (.answered .done [], completeChange s)
  | a :: plan, s =>
    match actAtOnce a s with
    | some s => runPlan plan s
    | none => await (.directory (.actions (a :: plan))) s

/-- A request stopped at a damaged write: tables left provisional are freed, and it completes as a change (08 R158). -/
def stopAtDamage (s : State) : Progress × State :=
  (.answered .storeFault [], completeChange (s.modRst Rst.freeProvisional))

/-- A descriptor write: the table is read and judged, and written where the read gives contents (05 R92, 08 R158). A table
marked damaged by another read since the request's check stops the request as the write's own finding does (DESIGN CHOICE, log
entry 33). -/
def writeAccess (g : Grant) (slot : Nat) (f : Rst → Rst) (s : State) : Option (List DirAction) × State :=
  match judge false g.period slot s with
  | (.contents, s) => (some [], s.modRst f)
  | (_, s) => (none, s)

/-- A main descriptor is written, and a point table it names is provisional no longer (05 R91). -/
def writeDesc (t i : Nat) (d : Desc) (r : Rst) : Rst :=
  match d.table with
  | some p => (r.putDesc t i d).settlePoint p
  | none => r.putDesc t i d

/-- Every descriptor of a main table is INVALID (step 3 of 05 R105). -/
def allInvalid (t : Sparse Desc) : Bool := t.all fun p => p.2.table.isNone

/-- The actions that follow UNMAP-POINT's read of the point table: the main descriptor goes INVALID where every leaf is, and a
damaged table reads as all INVALID (step 2 of 05 R105, R108). -/
def afterRecheckPoint (found : Found) (main index point : Nat) (barred : Bool) (s : State) : List DirAction :=
  if found ≠ .contents ∨ (s.rst.pointTable point).all (fun p => decide (p.2.kind = .invalid)) then
    [.writeMain main index ⟨none, barred, false⟩, .freePoint point, .recheckMain main]
  else []

/-- The actions that follow UNMAP-POINT's read of the main table: where every descriptor is INVALID the root goes INVALID and
the main table is freed (step 3 of 05 R105); a damaged one is freed with every point table whose allocation record names it
(R109). -/
def afterRecheckMain (found : Found) (d : DistrictId) (main : Nat) (s : State) : List DirAction :=
  let root := DirAction.setRoot d ⟨none, (s.district d).root.barred, false⟩
  if found ≠ .contents then [root, .freeChildren main, .freeMain main]
  else if allInvalid (s.rst.mainTable main) then [root, .freeMain main]
  else []

/-- A store access of a plan: the actions to be made before the rest of the plan, or none where a write met damage (05 R91,
R92, R105; 08 R158). -/
def actAccess (g : Grant) (p : Nat) (a : DirAction) (s : State) : Option (List DirAction) × State :=
  match a with
  | .allocMain t d => (some [], s.modRst fun r => r.allocMain t d)
  | .allocPoint t main index => (some [], s.modRst fun r => r.allocPoint t main index)
  | .reinitMain t => (some [], s.modRst fun r => r.initMain t)
  | .reinitPoint t => (some [], s.modRst fun r => r.initPoint t)
  | .writeMain t i d => writeAccess g (mainSlot t) (writeDesc t i d) s
  | .writeLeaf t i l => writeAccess g (pointSlot t) (fun r => r.putLeaf t i l) s
  | .barMain t i barred =>
    writeAccess g (mainSlot t) (fun r => r.putDesc t i { r.desc t i with barred := barred }) s
  | .barLeaf t i barred =>
    writeAccess g (pointSlot t) (fun r => r.putLeaf t i { r.leaf t i with barred := barred }) s
  | .recheckPoint main index point barred =>
    let (found, s) := judge false g.period (pointSlot point) s
    (some (afterRecheckPoint found main index point barred s), s)
  | .recheckMain main =>
    let (found, s) := judge false g.period (mainSlot main) s
    (some (afterRecheckMain found (pointDistrict p) main s), s)
  | .setRoot _ _ => (some [], s)
  | .barRoot _ _ => (some [], s)
  | .freeChildren _ => (some [], s)
  | .freeMain _ => (some [], s)
  | .freePoint _ => (some [], s)
  | .setRoute _ _ => (some [], s)

/-- An action that frees tables. -/
def DirAction.frees : DirAction → Bool
  | .freeChildren _ => true
  | .freeMain _ => true
  | .freePoint _ => true
  | _ => false

/-- The tables that the actions at the front of a plan free: they are freed at the moment the write before them sets their parent
descriptor INVALID (05 R91). -/
def actFrees (plan : List DirAction) (s : State) : State :=
  (plan.takeWhile DirAction.frees).foldl (fun s a => (actAtOnce a s).getD s) s

/-- The first access of a plan whose request has been abandoned is completed: its write stands, and the tables that it leaves
without a parent are freed with it; a read goes no further, and no write of the request follows, its root's among them (05 R91;
08 R164; 11 R196). -/
def abandonedAction (g : Grant) (p : Nat) (plan : List DirAction) (s : State) : State :=
  match plan with
  | [] => s
  | a :: rest => match actAccess g p a s with
    | (some [], s) => actFrees rest s
    | (_, s) => s

/-- The first access of a plan ends, and the plan goes on (05 R102). -/
def planAccess (g : Grant) (p : Nat) (plan : List DirAction) (s : State) : Progress × State :=
  match plan with
  | [] => runPlan [] s
  | a :: rest => match actAccess g p a s with
    | (some more, s) => runPlan (more ++ rest) s
    | (none, s) => stopAtDamage s

/-! ### Binding a point: MAP-POINT and LINK-POINT -/

/-- The leaf a binding request writes (05 R103, R104). -/
def boundLeaf : Request → Leaf
  | .mapPoint _ slot barred global => ⟨.account slot, barred, false, false, global⟩
  | .linkPoint _ target => ⟨.indirect target, false, false, false, false⟩
  | _ => Leaf.invalid

/-- The point a directory request names. -/
def requestPoint : Request → Nat
  | .mapPoint p _ _ _ => p
  | .linkPoint p _ => p
  | .unmapPoint p => p
  | .bar _ p => p
  | .unbar _ p => p
  | .lookPoint p _ => p
  | _ => 0

/-- The writes of a binding whose path has no main table (05 R103); FULL where a pool is empty. -/
def planWholePath (p : Nat) (leaf : Leaf) (s : State) : Progress × State :=
  let d := pointDistrict p
  match s.rst.freeMains, s.rst.freePoints with
  | mt :: _, pt :: _ =>
    runPlan [.allocPoint pt mt (mainIndex p), .writeLeaf pt (pointIndex p) leaf, .allocMain mt d,
      .writeMain mt (mainIndex p) ⟨some pt, false, false⟩, .setRoot d ⟨some mt, (s.district d).root.barred, false⟩] s
  | _, _ => refuse .full s

/-- The writes of a binding whose main descriptor is INVALID (05 R103). -/
def planPointTable (p : Nat) (leaf : Leaf) (main : Nat) (barred : Bool) (s : State) : Progress × State :=
  match s.rst.freePoints with
  | pt :: _ =>
    runPlan [.allocPoint pt main (mainIndex p), .writeLeaf pt (pointIndex p) leaf,
      .writeMain main (mainIndex p) ⟨some pt, barred, false⟩] s
  | [] => refuse .full s

/-- The writes of a binding through a damaged main table: it is initialised, the tables beneath it are freed, and a point
table is allocated (05 R103, R109). -/
def planDamagedMain (p : Nat) (leaf : Leaf) (main : Nat) (s : State) : Progress × State :=
  match s.rst.freePoints ++ s.rst.children main with
  | pt :: _ =>
    runPlan [.reinitMain main, .freeChildren main, .allocPoint pt main (mainIndex p), .writeLeaf pt (pointIndex p) leaf,
      .writeMain main (mainIndex p) ⟨some pt, false, false⟩] s
  | [] => refuse .full s

/-- The own path of a directory request is entered: its main table is read where the root names one (05 R103 to R106). -/
def enterPath (p : Nat) (noTable : State → Progress × State) (s : State) : Progress × State :=
  match (s.district (pointDistrict p)).root.table with
  | some t => await (.directory (.ownMain t)) s
  | none => noTable s

/-- A binding request has passed its checks on account or target and turns to its own path (05 R103, R104). -/
def enterBinding (q : Request) (s : State) : Progress × State :=
  enterPath (requestPoint q) (planWholePath (requestPoint q) (boundLeaf q)) s

/-! ### The starts of the requests -/

/-- MAP-POINT starts: its fields are checked and its slot is read (05 R103). -/
def startMap (p slot : Nat) (s : State) : Progress × State :=
  if Config.maxPoint < p ∨ 255 < slot then refuse .range s
  else if slot = 0 then refuse .wrongState s
  else await (.directory .account) s

/-- LINK-POINT starts: its fields are checked and its target's path is entered (05 R104). -/
def startLink (p target : Nat) (s : State) : Progress × State :=
  if Config.maxPoint < p ∨ Config.maxPoint < target ∨ target = p then refuse .range s
  else match (s.district (pointDistrict target)).root.table with
    | some t => await (.directory (.targetMain t)) s
    | none => refuse .noRecord s

/-- UNMAP-POINT starts (05 R105). -/
def startUnmap (p : Nat) (s : State) : Progress × State :=
  if Config.maxPoint < p then refuse .range s else enterPath p (refuse .noRecord) s

/-- BAR and UNBAR start: the root's flag takes no access (05 R106). -/
def startBar (barred : Bool) (level : BarLevel) (p : Nat) (s : State) : Progress × State :=
  if Config.maxPoint < p then refuse .range s
  else match level with
    | .root => runPlan [.barRoot (pointDistrict p) barred] s
    | .main => enterPath p (refuse .noRecord) s
    | .point => enterPath p (refuse .noRecord) s

/-- The route number of SET-ROUTE. -/
def routeOf (n : Nat) : Option (Fin 2) := if h : n < 2 then some ⟨n, h⟩ else none

/-- SET-ROUTE starts: its fields are checked, and a slot it names is read (05 R101). -/
def startRoute (n : Nat) (f : RouteSettings) (s : State) : Progress × State :=
  match routeOf n with
  | none => refuse .range s
  | some k =>
    if Config.maxPoint < f.low ∨ Config.maxPoint < f.high ∨ f.high < f.low then refuse .range s
    else match f.slot with
      | none => if f.enabled then refuse .range s else runPlan [.setRoute k f] s
      | some slot =>
        if 255 < slot then refuse .range s
        else if slot = 0 then refuse .wrongState s
        else await (.directory .account) s

/-! ### The check reads -/

/-- The slot whose account a request reads for its check (05 R101, R103). -/
def checkedSlot : Request → Nat
  | .mapPoint _ slot _ _ => slot
  | .setRoute _ f => f.slot.getD 0
  | _ => 0

/-- The read of an account for a check ends (05 R101, R103). -/
def accountRead (g : Grant) (q : Request) (s : State) : Progress × State :=
  match judge false g.period (checkedSlot q) s with
  | (.contents, s) =>
    if (s.rst.account (checkedSlot q)).state = .free then refuse .noRecord s
    else match q with
      | .setRoute n f => match routeOf n with
        | some k => runPlan [.setRoute k f] s
        | none => refuse .range s
      | _ => enterBinding q s
  | (_, s) => refuse .wrongState s

/-- LINK-POINT's read of its target's main table ends (05 R104). -/
def targetMainRead (g : Grant) (target t : Nat) (s : State) : Progress × State :=
  match judge false g.period (mainSlot t) s with
  | (.contents, s) => match (s.rst.desc t (mainIndex target)).table with
    | some pt => await (.directory (.targetPoint pt)) s
    | none => refuse .noRecord s
  | (_, s) => refuse .noRecord s

/-- LINK-POINT's read of its target's point table ends (05 R104). -/
def targetPointRead (g : Grant) (q : Request) (target t : Nat) (s : State) : Progress × State :=
  match judge false g.period (pointSlot t) s with
  | (.contents, s) => match (s.rst.leaf t (pointIndex target)).kind with
    | .account _ => enterBinding q s
    | _ => refuse .noRecord s
  | (_, s) => refuse .noRecord s

/-- A request's read of its own path's main table gives contents (05 R103 to R106). -/
def ownMainSound (q : Request) (t : Nat) (s : State) : Progress × State :=
  let p := requestPoint q
  let d := s.rst.desc t (mainIndex p)
  let deeper (noTable : Progress × State) : Progress × State :=
    match d.table with
    | some pt => await (.directory (.ownPoint t d pt)) s
    | none => noTable
  match q with
  | .unmapPoint _ => deeper (refuse .noRecord s)
  | .bar .main _ => runPlan [.barMain t (mainIndex p) true] s
  | .unbar .main _ => runPlan [.barMain t (mainIndex p) false] s
  | .bar _ _ => deeper (refuse .noRecord s)
  | .unbar _ _ => deeper (refuse .noRecord s)
  | _ => deeper (planPointTable p (boundLeaf q) t d.barred s)

/-- A request's read of its own path's main table meets damage (05 R109). -/
def ownMainDamaged (q : Request) (t : Nat) (s : State) : Progress × State :=
  let p := requestPoint q
  let d := pointDistrict p
  match q with
  | .unmapPoint _ => runPlan [.setRoot d ⟨none, (s.district d).root.barred, false⟩, .freeChildren t, .freeMain t] s
  | .bar _ _ => refuse .storeFault s
  | .unbar _ _ => refuse .storeFault s
  | _ => planDamagedMain p (boundLeaf q) t s

/-- A request's read of its own path's main table ends. -/
def ownMainRead (g : Grant) (q : Request) (t : Nat) (s : State) : Progress × State :=
  match judge false g.period (mainSlot t) s with
  | (.contents, s) => ownMainSound q t s
  | (_, s) => ownMainDamaged q t s

/-- A request's read of its own path's point table gives contents (05 R103 to R106). -/
def ownPointSound (q : Request) (main : Nat) (d : Desc) (t : Nat) (s : State) : Progress × State :=
  let p := requestPoint q
  let bound := decide ((s.rst.leaf t (pointIndex p)).kind ≠ .invalid)
  match q with
  | .unmapPoint _ =>
    if bound then
      runPlan [.writeLeaf t (pointIndex p) Leaf.invalid, .recheckPoint main (mainIndex p) t d.barred] s
    else refuse .noRecord s
  | .bar _ _ => if bound then runPlan [.barLeaf t (pointIndex p) true] s else refuse .noRecord s
  | .unbar _ _ => if bound then runPlan [.barLeaf t (pointIndex p) false] s else refuse .noRecord s
  | _ => runPlan [.writeLeaf t (pointIndex p) (boundLeaf q)] s

/-- A request's read of its own path's point table meets damage (05 R109). -/
def ownPointDamaged (q : Request) (main : Nat) (d : Desc) (t : Nat) (s : State) : Progress × State :=
  let p := requestPoint q
  match q with
  | .unmapPoint _ => runPlan [.writeMain main (mainIndex p) ⟨none, d.barred, false⟩, .freePoint t, .recheckMain main] s
  | .bar _ _ => refuse .storeFault s
  | .unbar _ _ => refuse .storeFault s
  | _ => runPlan [.reinitPoint t, .writeLeaf t (pointIndex p) (boundLeaf q)] s

/-- A request's read of its own path's point table ends. -/
def ownPointRead (g : Grant) (q : Request) (main : Nat) (d : Desc) (t : Nat) (s : State) : Progress × State :=
  match judge false g.period (pointSlot t) s with
  | (.contents, s) => ownPointSound q main d t s
  | (_, s) => ownPointDamaged q main d t s

/-- The target of LINK-POINT. -/
def linkTarget : Request → Nat
  | .linkPoint _ target => target
  | _ => 0

/-- A store access of a directory change request ends (05 R102). -/
def directoryAccess (g : Grant) (q : Request) (w : DirWork) (s : State) : Progress × State :=
  match w with
  | .account => accountRead g q s
  | .targetMain t => targetMainRead g (linkTarget q) t s
  | .targetPoint t => targetPointRead g q (linkTarget q) t s
  | .ownMain t => ownMainRead g q t s
  | .ownPoint main d t => ownPointRead g q main d t s
  | .actions plan => planAccess g (requestPoint q) plan s

/-! ### LOOK-POINT -/

/-- LOOK-POINT's report of one descriptor: its kind, its target where it names a table, its flags (05 R90, R107). -/
def descFields (d : Desc) : List Field :=
  .choice (if d.table.isSome then 1 else 0) :: optField n1 d.table ++ [.flag d.barred, .flag d.used]

/-- A leaf's kind and target, which an INVALID one has not (05 R90). -/
def leafKindFields : LeafKind → List Field
  | .invalid => [.choice 0, .presence false]
  | .account slot => .choice 1 :: .presence true :: n1 slot
  | .indirect p => .choice 2 :: .presence true :: n2 p

/-- LOOK-POINT's report of one leaf (05 R90, R107). -/
def leafFields (l : Leaf) : List Field :=
  leafKindFields l.kind ++ [.flag l.barred, .flag l.used, .flag l.booked, .flag l.global]

/-- LOOK-POINT's report of one path (05 R107). -/
def pathFields (r : PathReport) : List Field :=
  descFields r.root
    ++ optField (fun m : MainRead => n1 m.table ++ descFields m.desc ++ [.flag m.damaged]) r.main
    ++ optField (fun l : LeafRead => n1 l.table ++ leafFields l.leaf ++ [.flag l.damaged]) r.leaf

/-- The bars passed on a path. -/
def PathReport.barred (r : PathReport) : Bool :=
  r.root.barred || ((r.main.map (·.desc.barred)).getD false) || ((r.leaf.map (·.leaf.barred)).getD false)

/-- Where a path leads: to a leaf that is not INVALID, or to a reason (05 R94, R97). -/
def PathReport.reaches (r : PathReport) : NoRoute ⊕ Leaf :=
  match r.root.table, r.main with
  | some _, some m =>
    if m.damaged then .inl .damaged
    else match m.desc.table, r.leaf with
      | some _, some l =>
        if l.damaged then .inl .damaged else if l.leaf.kind = .invalid then .inl .invalidLeaf else .inr l.leaf
      | _, _ => .inl .invalidMain
  | _, _ => .inl .invalidRoot

/-- The outcome a walk would give (05 R94 to R98): a slot with its bar and GLOBAL, or a reason. -/
def lookOutcome (own : PathReport) (target : Option PathReport) : NoRoute ⊕ (Nat × Bool × Bool) :=
  match own.reaches with
  | .inl reason => .inl reason
  | .inr l => match l.kind, target with
    | .account slot, _ => .inr (slot, own.barred, l.global)
    | .indirect _, some t => match t.reaches with
      | .inl .damaged => .inl .damaged
      | .inl _ => .inl .badIndirect
      | .inr tl => match tl.kind with
        | .account slot => .inr (slot, own.barred || t.barred, tl.global)
        | _ => .inl .badIndirect
    | _, _ => .inl .badIndirect

/-- The numbers of the NO-ROUTE reasons, in the order of 05 R98. -/
def NoRoute.index : NoRoute → Nat
  | .invalidRoot => 0 | .invalidMain => 1 | .invalidLeaf => 2 | .badIndirect => 3 | .damaged => 4

/-- The outcome's fields (05 R98). -/
def outcomeFields : NoRoute ⊕ (Nat × Bool × Bool) → List Field
  | .inr (slot, barred, global) => .choice 0 :: n1 slot ++ [.flag barred, .flag global]
  | .inl reason => [.choice 1, .choice reason.index]

/-- The first route, if any, that is enabled and whose range holds the point (05 R107). -/
def Bke.firstRoute (b : Bke) (p : Nat) : Option Nat :=
  if (routeHit b.routes[0] p).isSome then some 0 else if (routeHit b.routes[1] p).isSome then some 1 else none

/-- The report of LOOK-POINT (05 R107). The first direct route is shown by its number alone, without its range, slot and barred (DESIGN
CHOICE, log entry 38). -/
def lookReport (p : Nat) (w : LookWork) (s : State) : List Field :=
  pathFields w.own ++ optField pathFields w.target ++ outcomeFields (lookOutcome w.own w.target)
    ++ optField n1 (s.bke.firstRoute p)

/-- The own leaf whose BOOKED the clear-booked option clears (05 R107). -/
def clearable (p : Nat) (w : LookWork) : Option LeafRef :=
  match w.own.leaf with
  | some l => if l.damaged ∨ l.leaf.kind = .invalid then none else some ⟨l.table, pointIndex p, l.leaf.kind⟩
  | none => none

/-- LOOK-POINT's reads are done: it goes on to clear BOOKED where asked, and is answered (05 R107). With the option it
completes as a change. -/
def lookDone (p : Nat) (clear : Bool) (w : LookWork) (s : State) : Progress × State :=
  if clear then
    match clearable p w with
    | some own => await (.lookPoint { w with stage := .clearBooked own }) s
    | none => (.answered .done (lookReport p w s), completeChange s)
  else (.answered .done (lookReport p w s), s)

/-- LOOK-POINT turns to the target's path of an INDIRECT leaf, or is done (05 R107). -/
def lookTarget (p : Nat) (clear : Bool) (w : LookWork) (s : State) : Progress × State :=
  match w.own.leaf with
  | some l => match l.leaf.kind with
    | .indirect target =>
      let root := (s.district (pointDistrict target)).root
      let w := { w with target := some ⟨root, none, none⟩ }
      match root.table with
      | some t => await (.lookPoint { w with stage := .targetMain t }) s
      | none => lookDone p clear w s
    | _ => lookDone p clear w s
  | none => lookDone p clear w s

/-- LOOK-POINT starts (05 R107). -/
def startLookPoint (p : Nat) (clear : Bool) (s : State) : Progress × State :=
  if Config.maxPoint < p then refuse .range s
  else
    let root := (s.district (pointDistrict p)).root
    match root.table with
    | some t => await (.lookPoint ⟨.ownMain t, ⟨root, none, none⟩, none⟩) s
    | none => lookDone p clear ⟨.ownMain 0, ⟨root, none, none⟩, none⟩ s

/-- What a read of a main table shows of one descriptor: INVALID with the damaged indication where it meets damage (05 R97). -/
def seeMain (g : Grant) (t i : Nat) (s : State) : MainRead × State :=
  match judge false g.period (mainSlot t) s with
  | (.contents, s) => (⟨t, s.rst.desc t i, false⟩, s)
  | (_, s) => (⟨t, Desc.invalid, true⟩, s)

/-- What a read of a point table shows of one leaf (05 R97). -/
def seeLeaf (g : Grant) (t i : Nat) (s : State) : LeafRead × State :=
  match judge false g.period (pointSlot t) s with
  | (.contents, s) => (⟨t, s.rst.leaf t i, false⟩, s)
  | (_, s) => (⟨t, Leaf.invalid, true⟩, s)

/-- The point whose path LOOK-POINT's target is on. -/
def LookWork.targetPoint (w : LookWork) : Nat :=
  match w.own.leaf with
  | some l => match l.leaf.kind with
    | .indirect p => p
    | _ => 0
  | none => 0

/-- A read of LOOK-POINT, or its flag access, ends (05 R107). -/
def lookPointAccess (g : Grant) (p : Nat) (clear : Bool) (w : LookWork) (s : State) : Progress × State :=
  match w.stage with
  | .ownMain t =>
    let (m, s) := seeMain g t (mainIndex p) s
    let w := { w with own := { w.own with main := some m } }
    match m.desc.table with
    | some pt => await (.lookPoint { w with stage := .ownPoint pt }) s
    | none => lookDone p clear w s
  | .ownPoint t =>
    let (l, s) := seeLeaf g t (pointIndex p) s
    lookTarget p clear { w with own := { w.own with leaf := some l } } s
  | .targetMain t =>
    let (m, s) := seeMain g t (mainIndex w.targetPoint) s
    let w := { w with target := w.target.map fun r => { r with main := some m } }
    match m.desc.table with
    | some pt => await (.lookPoint { w with stage := .targetPoint pt }) s
    | none => lookDone p clear w s
  | .targetPoint t =>
    let (l, s) := seeLeaf g t (pointIndex w.targetPoint) s
    lookDone p clear { w with target := w.target.map fun r => { r with leaf := some l } } s
  | .clearBooked own =>
    let (_, s) := flagAccess false g.period (pointSlot own.table) (flagLeaf own fun l => { l with booked := false }) s
    (.answered .done (lookReport p w s), completeChange s)

end Sys2Proof.Machine
end

