-- ==== Sys2Proof/Machine/Accounts.lean ====
section
/-! DEFINITION. Accounts and the yard balance (07): the account requests, RETIRE-ACCOUNT, CLOSE-PERIOD, the balance record and
LOOK BALANCE. -/

namespace Sys2Proof.Machine

/-! ### Starts of the account requests -/

/-- A CV override in range, or absent (01 R2, 07 R136). -/
def cvOk (cv : Option Nat) : Bool := optWithin 250 1100 cv

/-- The contents of RESTORE-ACCOUNT lie in the ranges of 07 R132. -/
def contentsOk (c : AccountContents) : Bool :=
  decide (c.kind ≠ .suspense) && cvOk c.cv && decide (c.period ≤ 65535) && decide (c.volume ≤ Config.maxVolume)
    && decide (c.volumeRes ≤ 65535) && decide (c.heat ≤ Config.maxWord) && decide (c.heatRes < Config.therm)
    && decide (c.bookings ≤ Config.maxWord) && decide (c.clampedBookings ≤ Config.maxWord)
    && decide (c.prevVolume ≤ Config.maxVolume) && decide (c.prevHeat ≤ Config.maxWord)
    && decide (c.prevBookings ≤ Config.maxWord)

/-- A request on one slot starts: a slot above 255, or a field out of range, is RANGE; slot 0 is refused where the request
refuses it (07 R134, R135). -/
def startOnSlot (slot : Nat) (fieldsOk : Bool) (next : HeadWork) (s : State) : Progress × State :=
  if 255 < slot ∨ !fieldsOk then refuse .range s
  else if slot = 0 then refuse .wrongState s
  else await next s

/-- OPEN-ACCOUNT starts (07 R136). -/
def startOpen (slot : Nat) (kind : AccountKind) (cv : Option Nat) (s : State) : Progress × State :=
  startOnSlot slot (decide (kind ≠ .suspense) && cvOk cv) .account s

/-- REOPEN-ACCOUNT starts; slot 0 is answered DONE (07 R134, R138). -/
def startReopen (slot : Nat) (s : State) : Progress × State :=
  if 255 < slot then refuse .range s else if slot = 0 then refuse .done s else await .account s

/-- ADJUST starts (07 R142). -/
def startAdjust (source target cuft therms : Nat) (s : State) : Progress × State :=
  if 255 < source ∨ 255 < target ∨ Config.maxVolume < cuft ∨ Config.maxWord < therms ∨ source = target then
    refuse .range s
  else await .account s

/-- LOOK of an account starts (07 R143). -/
def startLookAccount (slot : Nat) (s : State) : Progress × State :=
  if 255 < slot then refuse .range s else await .account s

/-! ### The one access of an account request -/

/-- The record OPEN-ACCOUNT writes (07 R136). -/
def openedAccount (kind : AccountKind) (cv : Option Nat) (period : Nat) : Account :=
  { Account.free with state := .opened, kind := some kind, cv := cv, period := period }

/-- The record RESTORE-ACCOUNT writes (07 R141). -/
def restoredAccount (c : AccountContents) : Account where
  state := .closed
  kind := some c.kind
  cv := c.cv
  period := c.period
  volume := c.volume
  volumeRes := c.volumeRes
  heat := c.heat
  heatRes := c.heatRes
  bookings := c.bookings
  clampedBookings := c.clampedBookings
  limitReached := c.limitReached
  prevVolume := c.prevVolume
  prevHeat := c.prevHeat
  prevBookings := c.prevBookings
  diverts := DivertCounts.zero

/-- Write a slot and answer DONE. -/
def writeSlot (slot : Nat) (a : Account) (s : State) : Progress × State := refuse .done (s.modRst fun r => r.putAccount slot a)

/-- A slot read for a request that needs its contents: DAMAGED is answered with the given result, an uncorrectable read
STORE-FAULT (07 R135). -/
def onContents (g : Grant) (slot : Nat) (damaged : Result) (f : Account → State → Progress × State) (s : State) :
    Progress × State :=
  match judge false g.period slot s with
  | (.contents, s) => f (s.rst.account slot) s
  | (.damaged, s) => refuse damaged s
  | (.uncorrectable, s) => refuse .storeFault s

/-- OPEN-ACCOUNT's access (07 R136). -/
def openAccess (g : Grant) (slot : Nat) (kind : AccountKind) (cv : Option Nat) (s : State) : Progress × State :=
  onContents g slot .full (fun a s =>
    if a.state = .free then writeSlot slot (openedAccount kind cv g.period) s else refuse .full s) s

/-- CLOSE-ACCOUNT's access (07 R137). -/
def closeAccess (g : Grant) (slot : Nat) (s : State) : Progress × State :=
  onContents g slot .wrongState (fun a s => match a.state with
    | .free => refuse .noRecord s
    | .opened => writeSlot slot { a with state := .closed } s
    | .closed => refuse .done s) s

/-- REOPEN-ACCOUNT's access (07 R138). -/
def reopenAccess (g : Grant) (slot : Nat) (s : State) : Progress × State :=
  onContents g slot .wrongState (fun a s => match a.state with
    | .free => refuse .noRecord s
    | .opened => refuse .done s
    | .closed => writeSlot slot { a with state := .opened } s) s

/-- RESTORE-ACCOUNT's access: damage does not stop it, and its write clears the status (07 R141, 08 R159). -/
def restoreAccess (g : Grant) (slot : Nat) (c : AccountContents) (s : State) : Progress × State :=
  match judge false g.period slot s with
  | (.contents, s) =>
    if (s.rst.account slot).state = .opened then refuse .wrongState s else writeSlot slot (restoredAccount c) s
  | (_, s) => writeSlot slot (restoredAccount c) (s.modRst fun r => r.setDamaged slot false)

/-- The two accounts after an ADJUST on rolled figures, or none where a figure would leave its range (07 R142). -/
def adjusted (a b : Account) (cuft therms : Nat) : Option (Account × Account) :=
  if a.volume < cuft ∨ a.heat < therms ∨ Config.maxVolume < b.volume + cuft ∨ Config.maxWord < b.heat + therms then none
  else some ({ a with volume := a.volume - cuft, heat := a.heat - therms },
    { b with volume := b.volume + cuft, heat := b.heat + therms })

/-- ADJUST's access: both slots are read and judged (07 R135, R142), the from-slot first, so that of two flawed reads the to-slot's
is the latest (DESIGN CHOICE, log entry 21). -/
def adjustAccess (g : Grant) (source target cuft therms : Nat) (s : State) : Progress × State :=
  let (fa, s) := judge false g.period source s
  let (fb, s) := judge false g.period target s
  if fa = .uncorrectable ∨ fb = .uncorrectable then refuse .storeFault s
  else
    let a := s.rst.account source
    let b := s.rst.account target
    if (fa = .contents ∧ a.state = .free) ∨ (fb = .contents ∧ b.state = .free) then refuse .noRecord s
    else if fa = .damaged ∨ fb = .damaged then refuse .wrongState s
    else match adjusted (a.rolled g.period) (b.rolled g.period) cuft therms with
      | none => refuse .range s
      | some (a, b) => writeSlot target b (s.modRst fun r => r.putAccount source a)

/-- The number of an account's state, in the order of 07 R132. -/
def AccountState.index : AccountState → Nat
  | .free => 0 | .opened => 1 | .closed => 2

/-- The six diverted counts of slot 0 (07 R132). -/
def divertFields (d : DivertCounts) : List Field :=
  n4 d.implausible ++ n4 d.noRoute ++ n4 d.barred ++ n4 d.closed ++ n4 d.damaged ++ n4 d.full

/-- LOOK's answer for a slot: the state alone for a FREE one, the diverted counts for slot 0 (07 R143), with no presence byte before
them (DESIGN CHOICE, log entry 38). -/
def accountFields (slot : Nat) (a : Account) : List Field :=
  if a.state = .free then [.choice a.state.index]
  else
    [.choice a.state.index, .choice ((a.kind.map (·.index)).getD 0)] ++ optField n2 a.cv ++ n2 a.period ++ n5 a.volume
      ++ n2 a.volumeRes ++ n4 a.heat ++ n5 a.heatRes ++ n4 a.bookings ++ n4 a.clampedBookings ++ [.flag a.limitReached]
      ++ n5 a.prevVolume ++ n4 a.prevHeat ++ n4 a.prevBookings ++ (if slot = 0 then divertFields a.diverts else [])

/-- LOOK of an account's access (07 R143). -/
def lookAccess (g : Grant) (slot : Nat) (s : State) : Progress × State :=
  onContents g slot .storeFault (fun a s => (.answered .done (accountFields slot a), s)) s

/-- The one access of an account request ends (07 R135). -/
def accountAccess (g : Grant) (q : Request) (s : State) : Progress × State :=
  match q with
  | .openAccount slot kind cv => openAccess g slot kind cv s
  | .closeAccount slot => closeAccess g slot s
  | .reopenAccount slot => reopenAccess g slot s
  | .restoreAccount slot c => restoreAccess g slot c s
  | .adjust source target cuft therms => adjustAccess g source target cuft therms s
  | .lookAccount slot => lookAccess g slot s
  | _ => refuse .storeFault s

/-! ### RETIRE-ACCOUNT -/

/-- An account with nothing in its current totals (07 R139). -/
def Account.isEmpty (a : Account) : Bool :=
  decide (a.volume = 0) && decide (a.volumeRes = 0) && decide (a.heat = 0) && decide (a.heatRes = 0)

/-- The scan goes on to the tables left, or to the final access (07 R140). -/
def retireNext (left : List Nat) (s : State) : Progress × State :=
  if left.isEmpty then await .retireFinal s else await (.retireScan left) s

/-- The check of RETIRE-ACCOUNT (07 R139). A check read that cannot be corrected is answered STORE-FAULT, as the requests of one
access and the final read are (07 R135, R140), and the slot is DAMAGED (08 R156): R139 names no answer of its own for that read
(DESIGN CHOICE, log entry 44). -/
def retireCheck (g : Grant) (slot : Nat) (s : State) : Progress × State :=
  onContents g slot .wrongState (fun a s => match a.state with
    | .free => refuse .noRecord s
    | .opened => refuse .wrongState s
    | .closed =>
      if !a.isEmpty then refuse .wrongState s
      else if s.bke.routes[0].slot = some slot ∨ s.bke.routes[1].slot = some slot then refuse .inUse s
      else retireNext s.rst.allocatedPoints s) s

/-- A point table holds an ACCOUNT leaf that names the slot (07 R140). -/
def namesSlot (slot : Nat) (t : Sparse Leaf) : Bool := t.any fun p => decide (p.2.kind = .account slot)

/-- A read of the reference scan ends; a damaged table holds no reference (07 R140). -/
def retireScan (g : Grant) (slot : Nat) (left : List Nat) (s : State) : Progress × State :=
  match left with
  | [] => retireNext [] s
  | t :: left => match judge false g.period (pointSlot t) s with
    | (.contents, s) => if namesSlot slot (s.rst.pointTable t) then refuse .inUse s else retireNext left s
    | (_, s) => retireNext left s

/-- The final access of RETIRE-ACCOUNT (07 R140). -/
def retireFinal (g : Grant) (slot : Nat) (s : State) : Progress × State :=
  onContents g slot .wrongState (fun a s =>
    if a.state = .closed ∧ a.isEmpty then
      writeSlot slot Account.free (s.modBke (flushWhere fun e => decide (e.slot = slot)))
    else refuse .wrongState s) s

/-! ### The balance figures -/

/-- A holder's stock for the balance: the backed stock, 0 where none is fitted (07 R146). -/
def balanceStock (r : Holder) : Nat := if r.fitted then r.stock else 0

/-- The present stocks of H0..H5 (07 R146). -/
def State.stocks (s : State) : Vector Nat 6 := mapSix balanceStock s.holders

/-- Six stocks added up. -/
def sumStocks (v : Vector Nat 6) : Nat := v.toList.sum

/-- A volume and heat added to one figure. -/
def Figure.plus (f : Figure) (volume heat : Nat) : Figure := ⟨f.cuft + volume, f.therms + heat⟩

/-- An account's volume and heat added to the figure of its kind, and counted (07 R147, R153). -/
def Sums.add (m : Sums) (kind : Option AccountKind) (volume heat : Nat) : Sums :=
  let m := { m with counted := m.counted + 1 }
  match kind with
  | some .receipt => { m with receipts := m.receipts.plus volume heat }
  | some .sendOut => { m with sendOut := m.sendOut.plus volume heat }
  | some .worksUse => { m with worksUse := m.worksUse.plus volume heat }
  | some .suspense => { m with suspense := m.suspense.plus volume heat }
  | none => m

/-- A damaged slot is skipped (07 R147, R153). -/
def Sums.skip (m : Sums) : Sums := { m with skipped := m.skipped + 1 }

/-- The stock change between two sets of stocks, priced at a CV (07 R152). -/
def stockChangeOf (start stop cv : Nat) : SignedFigure :=
  let change : Int := (stop : Int) - (start : Int)
  ⟨change, price change cv⟩

/-- The unaccounted figures (07 R152). -/
def unaccountedOf (m : Sums) (c : SignedFigure) : SignedFigure :=
  ⟨(m.receipts.cuft : Int) - m.sendOut.cuft - m.worksUse.cuft - c.cuft,
    (m.receipts.therms : Int) - m.sendOut.therms - m.worksUse.therms - c.therms⟩

/-! ### CLOSE-PERIOD -/

/-- The yard clock's time. -/
def Yard.time (y : Yard) : Time := ⟨y.day, y.minute⟩

/-- The balance record at the start of a close (07 R146). -/
def Balance.begin (b : Balance) (now : Time) (stocks : Vector Nat 6) : Balance where
  start := now
  startStocks := stocks
  prevStart := b.start
  prevStocks := b.startStocks
  previous := Sums.zero
  stockChange := ⟨0, 0⟩
  unaccounted := ⟨0, 0⟩
  unfinished := true

/-- The next yard period (07 R144). -/
def nextPeriod (p : Nat) : Nat := if p < 65535 then p + 1 else 0

/-- CLOSE-PERIOD starts a close, or resumes one that is unfinished (07 R146, R150). -/
def startClose (s : State) : Progress × State :=
  let s := if s.yard.closeUnfinished then s
    else
      (s.modBalance fun b => b.begin s.yard.time s.stocks).modYard fun y =>
        { y with period := nextPeriod y.period, closeUnfinished := true }
  await (.closeScan 0 Sums.zero) (s.modBke (flushWhere fun e => !e.global))

/-- The figures are worked and written, the marks cleared, and PERIOD-CLOSED latched (07 R149, R152). -/
def endClose (m : Sums) (s : State) : Progress × State :=
  let change := stockChangeOf (sumStocks s.balance.prevStocks) (sumStocks s.balance.startStocks) s.yard.declaredCv
  let s := s.modBalance fun b =>
    { b with previous := m, stockChange := change, unaccounted := unaccountedOf m change, unfinished := false }
  let s := s.modYard fun y => { y with closeUnfinished := false, periodClosed := some y.period }
  (.answered .done (n2 s.yard.period), s)

/-- The BOOKED pass goes on to the leaves of the table it has read, to the next table, or to the close's end (07 R148). -/
def passNext (tables : List Nat) (leaves : List PassLeaf) (m : Sums) (s : State) : Progress × State :=
  if tables.isEmpty && leaves.isEmpty then endClose m s else await (.closePass tables leaves m) s

/-- An access of the close scan as it works on the store: the sums after the slot (the table of 07 R147). -/
def closeScanAccess (g : Grant) (slot : Nat) (m : Sums) (s : State) : Sums × State :=
  match judge false g.period slot s with
  | (.contents, s) =>
    let a := (s.rst.account slot).rolled g.period
    if a.state = .free then (m, s)
    else (m.add a.kind a.prevVolume a.prevHeat, s.modRst fun r => r.putAccount slot a)
  | (_, s) => (m.skip, s)

/-- An access of the close scan ends: the scan goes on to the next slot, or to the BOOKED pass (07 R147, R148). -/
def closeScan (g : Grant) (slot : Nat) (m : Sums) (s : State) : Progress × State :=
  let (m, s) := closeScanAccess g slot m s
  if slot + 1 < Config.accounts then await (.closeScan (slot + 1) m) s
  else passNext s.rst.allocatedPoints [] m s

/-- The leaves of a point table that the BOOKED pass clears (07 R148), by rising point index (DESIGN CHOICE, log entry 36). -/
def bookedLeaves (t : Nat) (leaves : Sparse Leaf) : List PassLeaf :=
  leaves.filterMap fun p => if p.2.booked && !p.2.global then some ⟨⟨t, p.1, p.2.kind⟩, false⟩ else none

/-- What the BOOKED pass has yet to do: the tables to read, and the leaves of the table read whose flag is to be cleared. -/
structure PassLeft where
  tables : List Nat
  leaves : List PassLeaf
  deriving DecidableEq, Repr

/-- A leaf that BKE's BOOKED access names stands, where it is one the BOOKED pass has yet to clear (07 R148). -/
def PassLeaf.mark (own : LeafRef) (p : PassLeaf) : PassLeaf := { p with stands := p.stands || decide (p.own = own) }

/-- A BOOKED pass under way is told of a leaf that BKE's BOOKED access names (07 R148). -/
def HeadWork.mark (own : LeafRef) : HeadWork → HeadWork
  | .closePass tables leaves m => .closePass tables (leaves.map (·.mark own)) m
  | w => w

/-- A BOOKED access of BKE granted after the pass read the leaf's table stands (07 R148; log entry 36). -/
def standMark (own : LeafRef) (s : State) : State := s.modRex fun x => { x with work := x.work.map (·.mark own) }

/-- The pass's flag access clears BOOKED on a leaf; a mark that stands is left (07 R148). -/
def clearMark (p : PassLeaf) (r : Rst) : Rst := if p.stands then r else flagLeaf p.own (fun l => { l with booked := false }) r

/-- An access of the BOOKED pass as it works on the store: a leaf's flag is cleared, or a table is read (07 R148). The access is
made also for a leaf whose mark stands (DEDUCED, log entry 36). -/
def passAccess (g : Grant) (tables : List Nat) (leaves : List PassLeaf) (s : State) : PassLeft × State :=
  match leaves, tables with
  | p :: leaves, _ => (⟨tables, leaves⟩, (flagAccess false g.period (pointSlot p.own.table) (clearMark p) s).2)
  | [], t :: tables => match judge false g.period (pointSlot t) s with
    | (.contents, s) => (⟨tables, bookedLeaves t (s.rst.pointTable t)⟩, s)
    | (_, s) => (⟨tables, []⟩, s)
  | [], [] => (⟨[], []⟩, s)

/-- An access of the BOOKED pass ends (07 R148, R149). -/
def bookedPass (g : Grant) (tables : List Nat) (leaves : List PassLeaf) (m : Sums) (s : State) : Progress × State :=
  let (left, s) := passAccess g tables leaves s
  passNext left.tables left.leaves m s

/-! ### LOOK BALANCE -/

/-- A time in an answer. -/
def timeFields (t : Time) : List Field := n2 t.day ++ n2 t.minute

/-- A figure in an answer: cubic feet and therms in five bytes each, which hold the low 40 bits of a sum above them (DESIGN CHOICE,
log entry 12). -/
def figureFields (f : Figure) : List Field := n5 f.cuft ++ n5 f.therms

/-- A signed figure in an answer. -/
def signedFields (f : SignedFigure) : List Field := [.int 8 f.cuft, .int 8 f.therms]

/-- The figures of a period with the accounts counted and skipped (07 R151). -/
def sumsFields (m : Sums) (change unaccounted : SignedFigure) : List Field :=
  figureFields m.receipts ++ figureFields m.sendOut ++ figureFields m.worksUse ++ figureFields m.suspense
    ++ signedFields change ++ signedFields unaccounted ++ n2 m.counted ++ n2 m.skipped

/-- The answer of LOOK BALANCE (07 R153). Each set of start stocks, always six, stands without a count byte (DESIGN CHOICE, log
entry 12). -/
def balanceFields (m : Sums) (s : State) : List Field :=
  let b := s.balance
  let change := stockChangeOf (sumStocks b.startStocks) (sumStocks s.stocks) s.yard.declaredCv
  n2 s.yard.period ++ [.flag s.yard.closeUnfinished] ++ timeFields b.start ++ timeFields b.prevStart
    ++ b.startStocks.toList.flatMap n4 ++ b.prevStocks.toList.flatMap n4
    ++ sumsFields m change (unaccountedOf m change) ++ sumsFields b.previous b.stockChange b.unaccounted
    ++ [.flag b.unfinished]

/-- A read of LOOK BALANCE ends (07 R153). -/
def balanceRead (g : Grant) (slot : Nat) (m : Sums) (s : State) : Progress × State :=
  let next (m : Sums) (s : State) : Progress × State :=
    if slot + 1 < Config.accounts then await (.balance (slot + 1) m) s
    else (.answered .done (balanceFields m s), s)
  match judge false g.period slot s with
  | (.contents, s) =>
    let a := s.rst.account slot
    if a.state = .free then next m s
    else if a.period = g.period then next (m.add a.kind a.volume a.heat) s
    else next (m.add a.kind 0 0) s
  | (_, s) => next m.skip s

end Sys2Proof.Machine
end

