-- ==== Sys2Proof/Machine/Notices.lean ====
section
/-! DEFINITION. The notices of HOC to DIC (02 R34, 03 R48): how a piece of holder work gathers them, how they are given, and
what each changes in the lists of a district (04 R76). -/

namespace Sys2Proof.Machine

/-- One thing a piece of holder work has to tell DIC (02 R34, 03 R48). -/
inductive Part where
  | values | pend (d : DistrictId) | join (d : DistrictId) | leave | withdraw (d : DistrictId) | remove | standing
  deriving DecidableEq, Repr

/-- Holder work in progress: the state, and what DIC is to be told when the work is closed. -/
structure Draft where
  s : State
  parts : List Part
  deriving DecidableEq, Repr

/-- Holder work begins on a state. -/
def State.draft (s : State) : Draft := ⟨s, []⟩

/-- The holder's record as the work has left it. -/
def Draft.holder (d : Draft) (h : HolderId) : Holder := d.s.holder h

/-- Change the holder's record. -/
def Draft.mod (d : Draft) (h : HolderId) (f : Holder → Holder) : Draft := { d with s := d.s.modHolder h f }

/-- DIC is to be told of one more thing. -/
def Draft.tell (d : Draft) (p : Part) : Draft := { d with parts := d.parts ++ [p] }

/-- Place or withdraw the holder's valve drive. -/
def Draft.drive (d : Draft) (h : HolderId) (v : Option Drive) : Draft := { d with s := d.s.setDrive h v }

/-- A notice names the holder and carries its values as they stand when it is given (02 R34). -/
def plainNotice (s : State) (h : HolderId) : HolderNotice :=
  ⟨h, (s.holder h).answering, (s.holder h).stagePressure, none, false, false⟩

/-- The message of one part by itself. -/
def partMessage (n : HolderNotice) : Part → Instr
  | .values => .holderValuesNotice n
  | .pend d => .joinPendingNotice n d
  | .join d => .joinNotice n d
  | .leave => .leaveNotice n
  | .withdraw d => .withdrawPendingNotice n d
  | .remove => .removeNotice n
  | .standing => .standingNotice n

/-- Work that is no crown reply gives each thing at the event, as a notice of its own (03 R48; log entry 6). -/
def Draft.giveEach (d : Draft) (h : HolderId) : State :=
  d.parts.foldl (fun s p => s.send (partMessage (plainNotice s h) p)) d.s

/-- The pending join a reply's notice carries. -/
def pendOf : List Part → Option DistrictId
  | [] => none
  | .pend d :: _ => some d
  | _ :: ps => pendOf ps

/-- The join a reply's notice carries. -/
def joinOf : List Part → Option DistrictId
  | [] => none
  | .join d :: _ => some d
  | _ :: ps => joinOf ps

/-- The one notice of a crown reply: what it carries decides the command that is its arrival, a join or leave first, then a
removal, a standing notice, a pending join, the values alone; the rest rides with it (02 R34; log entry 6). -/
def replyNotice (n : HolderNotice) (ps : List Part) : Instr :=
  let removes := decide (Part.remove ∈ ps)
  let stands := decide (Part.standing ∈ ps)
  match joinOf ps with
  | some d => .joinNotice { n with pend := pendOf ps, remove := removes, standing := stands } d
  | none =>
    if Part.leave ∈ ps then .leaveNotice { n with pend := pendOf ps, remove := removes, standing := stands }
    else if removes then .removeNotice { n with pend := pendOf ps, standing := stands }
    else if stands then .standingNotice { n with pend := pendOf ps }
    else match pendOf ps with
      | some d => .joinPendingNotice n d
      | none => .holderValuesNotice n

/-- A crown reply gives at most one notice, after every other step of it (02 R34). -/
def Draft.giveReply (d : Draft) (h : HolderId) : State :=
  if d.parts.isEmpty then d.s else d.s.send (replyNotice (plainNotice d.s h) d.parts)

/-! ### What a notice changes in a district's lists -/

/-- The feed list and the pending joins of a district. -/
structure Lists where
  feeds : List HolderId
  pending : List HolderId
  deriving DecidableEq, Repr

/-- The holder is counted among the pending joins (04 R76). -/
def Lists.pend (l : Lists) (h : HolderId) : Lists := { l with pending := addNew l.pending h }

/-- The holder leaves the pending joins and goes to the tail of the feed list (04 R76). -/
def Lists.join (l : Lists) (h : HolderId) : Lists := ⟨addNew l.feeds h, without l.pending h⟩

/-- The holder is taken out of the feed list (04 R76). -/
def Lists.leave (l : Lists) (h : HolderId) : Lists := { l with feeds := without l.feeds h }

/-- The holder leaves the pending joins (04 R76). -/
def Lists.withdraw (l : Lists) (h : HolderId) : Lists := { l with pending := without l.pending h }

/-- The holder is taken out of both (04 R76). -/
def Lists.remove (l : Lists) (h : HolderId) : Lists := ⟨without l.feeds h, without l.pending h⟩

/-- What a notice and the things riding with it change in district `d`'s lists: a join or leave first, a removal last
(04 R76). -/
def Lists.take (d : DistrictId) (n : HolderNotice) (own : Lists → Lists) (l : Lists) : Lists :=
  let l := if n.pend = some d then l.pend n.holder else l
  let l := own l
  if n.remove then l.remove n.holder else l

/-- What a message changes in district `d`'s lists (04 R76); messages that are no notices of HOC change none. -/
def Lists.after (d : DistrictId) (l : Lists) (m : Instr) : Lists :=
  match m with
  | .holderValuesNotice n => l.take d n id
  | .joinPendingNotice n e => l.take d n fun l => if e = d then l.pend n.holder else l
  | .joinNotice n e => l.take d n fun l => if e = d then l.join n.holder else l
  | .leaveNotice n => l.take d n fun l => l.leave n.holder
  | .withdrawPendingNotice n e => l.take d n fun l => if e = d then l.withdraw n.holder else l
  | .removeNotice n => l.take d n fun l => l.remove n.holder
  | .standingNotice n => l.take d n id
  | _ => l

/-- The lists of a district record. -/
def District.lists (r : District) : Lists := ⟨r.feeds, r.pendingJoins⟩

/-- A district's lists with the notices already given to DIC taken as given (03 R57 step 2, R48; log entry 5). -/
def State.given (s : State) (d : DistrictId) : Lists := s.inTransit.foldl (Lists.after d) (s.district d).lists

/-- The district whose feed list holds the holder, with the notices already given taken as given. -/
def State.feedOf (s : State) (h : HolderId) : Option DistrictId := districtIds.find? fun d => decide (h ∈ (s.given d).feeds)

end Sys2Proof.Machine
end

