-- ==== Sys2Proof/Machine/Holder.lean ====
section
/-! DEFINITION. The Holder Controller (02, 03, 10 R189): configuration, order stacks, change-overs and their moves, crown
replies, faults, recovery, STOP, ISOLATE and RETURN. -/

namespace Sys2Proof.Machine

/-! ### Moves -/

/-- The two valves of a holder (02, "valve positions"). -/
inductive Which where
  | inlet | outlet
  deriving DecidableEq, Repr

/-- The valve a move drives and the intent it sets; none for a join or leave (03 R46). -/
def Move.valve : Move → Option (Which × Valve)
  | .openInlet => some (.inlet, .opened)
  | .closeInlet => some (.inlet, .closed)
  | .openOutlet => some (.outlet, .opened)
  | .closeOutlet => some (.outlet, .closed)
  | .join _ => none
  | .leave => none

/-- The drive of a valve move (03 R46). -/
def driveOf : Which → Valve → Drive
  | .inlet, .opened => .inletOpen
  | .inlet, .closed => .inletClosed
  | .outlet, .opened => .outletOpen
  | .outlet, .closed => .outletClosed

/-- The proved position that agrees with an intent (02 R29). -/
def Valve.proof : Valve → Proved
  | .opened => .opened
  | .closed => .closed

/-- A valve's intent. -/
def Holder.intent (r : Holder) : Which → Valve
  | .inlet => r.inletIntent
  | .outlet => r.outletIntent

/-- A valve's proved position. -/
def Holder.proved (r : Holder) : Which → Proved
  | .inlet => r.provedInlet
  | .outlet => r.provedOutlet

/-- A valve stands at its intent (02 R29). -/
def Holder.atIntent (r : Holder) (w : Which) : Bool := decide (r.proved w = (r.intent w).proof)

/-- Set a valve's intent. -/
def Holder.setIntent (r : Holder) (w : Which) (v : Valve) : Holder :=
  match w with
  | .inlet => { r with inletIntent := v }
  | .outlet => { r with outletIntent := v }

/-- The move at a change-over's step, once it has started. -/
def ChangeOver.current (c : ChangeOver) : Option Move := if c.started then c.moves[c.step]? else none

/-- The valve a started move drives, with the intent it set (02 R30). -/
def Holder.driven (r : Holder) : Option (Which × Valve) := r.changeOver.bind fun c => c.current.bind Move.valve

/-- The district whose feed list a target stands in (03 R37). -/
def Target.district : Target → Option DistrictId
  | .drawing d => some d
  | .floating d => some d
  | _ => none

/-- The inlet stands open in a target (03 R37). -/
def Target.inletOpen : Target → Bool
  | .filling => true
  | .floating _ => true
  | _ => false

/-- The outlet stands open in a target (03 R37). -/
def Target.outletOpen : Target → Bool
  | .drawing _ => true
  | .floating _ => true
  | _ => false

/-- The state a target names (03 R37). -/
def Target.state : Target → HolderState
  | .standing => .standing
  | .filling => .filling
  | .drawing _ => .drawing
  | .floating _ => .floating
  | .isolated => .isolated

/-- One move, made where it is wanted. -/
def moveIf (wanted : Bool) (m : Move) : List Move := if wanted then [m] else []

/-- The move list from the present intents and membership to a target, by the four rules of 03 R45. -/
def buildMoves (inlet outlet : Valve) (feed : Option DistrictId) (t : Target) : List Move :=
  moveIf (decide (feed ≠ none) && decide (feed ≠ t.district)) .leave
    ++ moveIf (decide (outlet = .opened) && !t.outletOpen) .closeOutlet
    ++ moveIf (decide (inlet = .opened) && !t.inletOpen) .closeInlet
    ++ moveIf (decide (outlet = .closed) && t.outletOpen) .openOutlet
    ++ moveIf (decide (inlet = .closed) && t.inletOpen) .openInlet
    ++ (match t.district with
        | some d => moveIf (decide (feed ≠ some d)) (.join d)
        | none => [])

/-- The district a move list aims at: the one it joins (03 R48). -/
def aimsAt : List Move → Option DistrictId
  | [] => none
  | .join d :: _ => some d
  | _ :: ms => aimsAt ms

/-! ### Orders -/

/-- The working state an order names (03 R37). -/
def Order.target (o : Order) : Target :=
  match o.kind, o.district with
  | .draw, some d => .drawing d
  | .float, some d => .floating d
  | .fill, _ => .filling
  | _, _ => .standing

/-- An open-ended order: a DRAW or FILL without a quantity, and every FLOAT (03 R39). -/
def Order.openEnded (o : Order) : Bool := decide (o.kind ≠ .stand) && o.quantity.isNone

/-- The holder has a change-over to ISOLATED in flight (03 R57). -/
def Holder.isolating (r : Holder) : Bool :=
  match r.changeOver with
  | some c => decide (c.target = .isolated)
  | none => false

/-- The holder's state takes orders (the ORDER column of 03 R38). -/
def Holder.takesOrders (r : Holder) : Bool :=
  match r.state with
  | .standing => true
  | .filling => true
  | .drawing => true
  | .floating => true
  | .changing => !r.isolating
  | _ => false

/-- The holder's change-over aims at a district: its move list holds the join (03 R48). -/
def Holder.aims (r : Holder) (d : DistrictId) : Bool := decide ((r.changeOver.bind fun c => aimsAt c.moves) = some d)

/-- The joins that hold a place in a district: its pending joins, and the change-overs aiming at it whose join-pending DIC has
yet to take, since DIC's count of pending joins is the number of change-overs aiming at the district (03 R48; log entry 5). -/
def State.reserved (s : State) (d : DistrictId) : List HolderId :=
  holderIds.filter fun g =>
    decide (g ∈ (s.district d).pendingJoins) || ((s.holder g).aims d && decide (g ∉ (s.district d).feeds))

/-- The holder stands in the feed list of a district other than `d` (03 R41). -/
def State.feedsElsewhere (s : State) (h : HolderId) (d : DistrictId) : Bool :=
  districtIds.any fun e => decide (e ≠ d) && decide (h ∈ (s.district e).feeds)

/-- The checks of 03 R41 on a district and the membership in it, as they stand in DIC's lists; none where the order passes. -/
def checkDistrict (s : State) (h : HolderId) (kind : OrderKind) (d : DistrictId) : Option Result :=
  let r := s.district d
  if r.state = .out ∨ r.state = .tripped then some .wrongState
  else if decide (kind = .float) && s.feedsElsewhere h d then some .wrongState
  else if h ∉ r.feeds ∧ Config.maxFeeds ≤ r.feeds.length + (s.reserved d).length then some .full
  else none

/-- The checks of 03 R41 on an order; FILL and STAND meet none. -/
def checkOrder (s : State) (h : HolderId) (o : Order) : Option Result :=
  match o.kind, o.district with
  | .draw, some d => checkDistrict s h .draw d
  | .float, some d => checkDistrict s h .float d
  | _, _ => none

/-- The reading of the last good crown reply, which the crown entry keeps (02 R27): values the entry took before it was linked
to the holder are not taken up (09 R173). -/
def State.lastCrown (s : State) (h : HolderId) : Option CrownReading :=
  match (s.crownEntry h).bind fun e => if e.handed then e.last else none with
  | some (.crown r) => some r
  | _ => none

/-- The landing switch was on in the last good crown reply. -/
def State.wasLanding (s : State) (h : HolderId) : Bool := ((s.lastCrown h).map (·.landing)).getD false

/-- The top-stop switch was on in the last good crown reply. -/
def State.wasTopStop (s : State) (h : HolderId) : Bool := ((s.lastCrown h).map (·.topStop)).getD false

/-- An order fails at its activation (step 1 of 03 R43). -/
def activationFails (s : State) (h : HolderId) (o : Order) : Bool :=
  let r := s.holder h
  match o.kind with
  | .draw => (checkOrder s h o).isSome || decide (r.height ≤ r.lowStop) || s.wasLanding h
  | .float => (checkOrder s h o).isSome || decide (r.height ≤ r.lowStop) || s.wasLanding h
  | .fill => decide (r.topStop ≤ r.height) || s.wasTopStop h
  | .stand => false

/-- The holder is already in a working state: the target's state, in its district (step 2 of 03 R43). -/
def inWorkingState (s : State) (h : HolderId) (t : Target) : Bool :=
  decide ((s.holder h).state = t.state) && (match t.district with
    | some d => decide (s.feedOf h = some d)
    | none => true)

/-! ### Latches -/

def Holder.latchShort (r : Holder) : Holder := { r with latches := { r.latches with orderShort := true } }

def Holder.latchDone (r : Holder) : Holder := { r with latches := { r.latches with orderDone := true } }

/-! ### Change-overs -/

/-- The move at the change-over's step starts, unless the change-over is an ordinary one and the yard is in HOLD: a valve move
sets the intent, places the drive and starts the timer; a join or leave is told to DIC (03 R46, R48, R60). -/
def startMove (h : HolderId) (d : Draft) : Draft :=
  match (d.holder h).changeOver with
  | none => d
  | some c =>
    if c.started ∨ (d.s.yard.mode = .hold ∧ c.target ≠ .isolated) then d
    else match c.moves[c.step]? with
      | none => d
      | some m =>
        match m.valve with
        | some (w, v) =>
          (d.mod h fun r => { r.setIntent w v with changeOver := some { c with started := true, timer := some r.travel } }).drive h
            (some (driveOf w v))
        | none =>
          (d.mod h fun r => { r with changeOver := some { c with started := true } }).tell
            (match m with
              | .join e => .join e
              | _ => .leave)

/-- A change-over reaches its target: the state becomes the target, ISOLATED sets the isolated flag, and STANDING is told to
DIC (03 R37, R58). -/
def reachTarget (h : HolderId) (t : Target) (d : Draft) : Draft :=
  let d := d.mod h fun r =>
    { r with changeOver := none, state := t.state, isolated := r.isolated || decide (t = .isolated) }
  if t = .standing then d.tell .standing else d

/-- A change-over to a target is built and its first move starts; one that aims at a district tells DIC of the pending join
(03 R43 step 3, R45, R48). -/
def build (h : HolderId) (t : Target) (d : Draft) : Draft :=
  let r := d.holder h
  let moves := buildMoves r.inletIntent r.outletIntent (d.s.feedOf h) t
  if moves.isEmpty then reachTarget h t d
  else
    let d := d.mod h fun r => { r with state := .changing, changeOver := some ⟨t, moves, 0, false, none⟩ }
    startMove h (match aimsAt moves with
      | some e => d.tell (.pend e)
      | none => d)

/-! ### The ends of orders -/

/-- An order takes the ACTIVE place and is to be activated. The start stock and remainder of an earlier, ended order stay
readable until the activation replaces them (03 R43, R50, R54); where there is no such remainder a quantity order's is its
quantity (03 R39; DESIGN CHOICE, log entry 27). -/
def Holder.becomeActive (r : Holder) (o : Order) : Holder :=
  { r with active := some o, activationWaits := true, remainder := r.remainder.orElse fun _ => o.quantity }

/-- The ACTIVE order is activated: an earlier order's start stock and remainder are replaced, and its own remainder equals its
quantity until tracking starts (03 R39, R43). -/
def Holder.activate (r : Holder) (o : Order) : Holder :=
  { r with activationWaits := false, startStock := none, remainder := o.quantity }

/-- The ACTIVE order leaves the stack; a NEXT order becomes ACTIVE (03 R40, R52). -/
def Holder.promote (r : Holder) : Holder :=
  match r.next with
  | some o => { r.becomeActive o with next := none }
  | none => { r with active := none, activationWaits := false }

/-- The holder is its district's only answering feed, and the district is in service (03 R53). -/
def onlyFeed (s : State) (h : HolderId) (d : DistrictId) : Bool :=
  let r := s.district d
  let inService := decide (r.state = .serving) || decide (r.state = .short) || decide (r.state = .starved)
  inService && r.feeds.all fun f => decide (f = h) || !(s.holder f).answering

/-- The end action of an order that has left the stack with none behind it (the table of 03 R52, and R53). -/
def endAction (h : HolderId) (o : Order) (d : Draft) : Draft :=
  match o.kind with
  | .draw =>
    match o.endAction, o.district with
    | .stand, some e =>
      if onlyFeed d.s h e then d.mod h fun r => { r with latches := { r.latches with forcedContinue := true } }
      else build h .standing d
    | _, _ => d
  | .fill => build h .standing d
  | .float => d
  | .stand => d

/-- HOC turns to the ACTIVE order when no change-over is in flight: an order that waits is activated (03 R43), and one whose
working state is reached starts its tracking, ends COMPLETE, gives way or works on (R49, R51). The first argument bounds
the orders that can end within one event; a stack holds two. -/
def settle : Nat → HolderId → Draft → Draft
  | 0, _, d => d
  | n + 1, h, d =>
    let r := d.holder h
    match r.active with
    | none => d
    | some o =>
      let waits := r.activationWaits
      let d := if waits then d.mod h (·.activate o) else d
      if waits ∧ activationFails d.s h o then settle n h (d.mod h fun r => r.latchShort.promote)
      else if waits ∧ !inWorkingState d.s h o.target then build h o.target d
      else if o.quantity.isSome then d.mod h fun r => { r with startStock := some r.stock, terminal := false }
      else if o.kind = .stand ∨ r.next.isSome then settle n h (d.mod h fun r => r.latchDone.promote)
      else d

/-- The ACTIVE and NEXT places bound the orders one event can end. -/
def orderFuel : Nat := 3

/-- The quantity order being tracked ends COMPLETE (03 R50, R52). -/
def completeOrder (h : HolderId) (o : Order) (d : Draft) : Draft :=
  let next := (d.holder h).next
  let d := d.mod h fun r => r.latchDone.promote
  if next.isSome then settle orderFuel h d else endAction h o d

/-- A limit end: an ACTIVE order ends SHORT with its remainder kept, a NEXT order becomes ACTIVE and waits, and the limit's
own change-over is made (03 R52, R54, R55). -/
def limitEnd (h : HolderId) (t : Target) (idle : Holder → Holder) (d : Draft) : Draft :=
  build h t (d.mod h fun r => if r.active.isSome then r.latchShort.promote else idle r)

/-- The change-over's move ends: the timer stops, the drive is withdrawn, the step rises, and the next move starts or the
change-over ends (03 R46, R48, R49). -/
def endMove (h : HolderId) (d : Draft) : Draft :=
  match (d.holder h).changeOver with
  | none => d
  | some c =>
    let d := d.drive h none
    if c.step + 1 < c.moves.length then
      startMove h (d.mod h fun r => { r with changeOver := some { c with step := c.step + 1, started := false, timer := none } })
    else settle orderFuel h (reachTarget h c.target d)

/-! ### Faults -/

/-- The holder enters FAULTED (02 R31). -/
def enterFaulted (h : HolderId) (reason : FaultReason) (d : Draft) : Draft :=
  ((d.drive h none).mod h fun r =>
    { r with
      changeOver := none
      faultStep := (r.changeOver.map (·.step)).getD 0
      active := none
      next := none
      activationWaits := false
      faulted := true
      faultReason := some reason
      state := .faulted
      latches := { r.latches with fault := true } }).tell .remove

/-- A valve found away from its intent with no move driving it, or in CONFLICT (02 R30). -/
def uncommanded (r : Holder) : Bool :=
  let judged (w : Which) : Bool :=
    decide (r.proved w = .conflict) || (decide (r.driven.map (·.1) ≠ some w) && !r.atIntent w)
  decide (r.state ≠ .recovering) && decide (r.state ≠ .faulted) && (judged .inlet || judged .outlet)

/-! ### The crown reply -/

/-- Two heights lie within a step of each other (02 R25). -/
def closeTo (step a b : Nat) : Bool := decide (a ≤ b + step) && decide (b ≤ a + step)

/-- A clamped reading with the landing switch off, in every state but RECOVERING (02 R25, R26). -/
def judgeHeight (reading : Nat) (r : Holder) : Holder :=
  if closeTo r.maxStep reading r.height then { r with height := reading, jump := none }
  else match r.jump with
    | none => { r with jump := some ⟨reading, 1⟩ }
    | some j =>
      if closeTo r.maxStep reading j.height then
        if 3 ≤ j.count + 1 then
          { r with height := reading, jump := none, latches := { r.latches with crownJump := true } }
        else { r with jump := some ⟨reading, j.count + 1⟩ }
      else { r with jump := some ⟨reading, 1⟩ }

/-- The height in use after a reply's height and landing switch (02 R25 to R27). -/
def takeHeight (c : CrownReading) (r : Holder) : Holder :=
  let reading := clampTo 0 (totalStroke r.lifts) c.height
  if c.landing then { r with height := 0, jump := none }
  else if r.state = .recovering then { r with height := reading, jump := none }
  else judgeHeight reading r

/-- A valve's proved position from its open and closed limit switches (02 R29). -/
def provedFrom (isOpen isClosed : Bool) : Proved :=
  match isOpen, isClosed with
  | true, false => .opened
  | false, true => .closed
  | false, false => .moving
  | true, true => .conflict

/-- The proved positions of a reply (02 R29). -/
def takeProved (c : CrownReading) (r : Holder) : Holder :=
  { r with
    provedInlet := provedFrom c.inletOpen c.inletClosed
    provedOutlet := provedFrom c.outletOpen c.outletClosed }

/-- The move being driven is judged: it ends where its valve is at the intent it set (03 R46). -/
def judgeMove (h : HolderId) (d : Draft) : Draft :=
  match (d.holder h).driven with
  | some (w, v) => if (d.holder h).proved w = v.proof then endMove h d else d
  | none => d

/-- The progress of a quantity order from its start stock to the present stock (the table of 03 R50). -/
def progress (kind : OrderKind) (start stock : Nat) : Nat := if kind = .fill then stock - start else start - stock

/-- Quantity tracking at a reply (03 R50). -/
def track (h : HolderId) (d : Draft) : Draft :=
  let r := d.holder h
  match r.active, r.startStock with
  | some o, some start =>
    match o.quantity with
    | none => d
    | some q =>
      let left := q - progress o.kind start r.stock
      let d := d.mod h fun r => { r with remainder := some left }
      if left = 0 then completeOrder h o (d.mod h fun r => { r with terminal := true }) else d
  | _, _ => d

/-- The low-stop and top-stop limits at a reply (03 R54, R55). -/
def judgeLimits (h : HolderId) (c : CrownReading) (d : Draft) : Draft :=
  let r := d.holder h
  let low := decide (r.height ≤ r.lowStop) || c.landing
  let top := decide (r.topStop ≤ r.height) || c.topStop
  let withdrawn (r : Holder) : Holder := { r with latches := { r.latches with lowStopWithdrawn := true } }
  match r.state with
  | .drawing => if low then limitEnd h .standing withdrawn d else d
  | .floating =>
    if low then limitEnd h .standing withdrawn d
    else if top then match d.s.feedOf h with
      | some e => limitEnd h (.drawing e) id d
      | none => d
    else d
  | .filling => if top then limitEnd h .standing id d else d
  | _ => d

/-- Recovery settles the state by the first case that applies (the table of 10 R189). -/
def recover (h : HolderId) (d : Draft) : Draft :=
  let d := d.mod h fun r => { r with latches := { r.latches with recovered := true } }
  let r := d.holder h
  let become (st : HolderState) : Draft := d.mod h fun r => { r with state := st }
  if r.faulted then become .faulted
  else if !r.atIntent .inlet || !r.atIntent .outlet then enterFaulted h .recoveryMismatch d
  else if r.outletIntent = .opened ∧ d.s.feedOf h = none then enterFaulted h .orphan d
  else match r.inletIntent, r.outletIntent with
    | .closed, .closed => if r.isolated then become .isolated else (become .standing).tell .standing
    | .opened, .closed => become .filling
    | .closed, .opened => become .drawing
    | .opened, .opened => become .floating

/-- Steps 1, 3, 4, 5 and the first part of step 6 of 02 R23: the answering flag, temperature, height, recomputation and
proved positions. -/
def takeReading (c : CrownReading) (barometer : Nat) (r : Holder) : Holder :=
  let returned := !r.answering && decide (r.state ≠ .recovering)
  let r := { r with answering := true, latches := { r.latches with crownReturned := r.latches.crownReturned || returned } }
  takeProved c ((takeHeight c { r with temp := c.temp }).recompute barometer)

/-- The work of a crown reply before its notice (steps 1 to 7 of 02 R23). -/
def replyWork (h : HolderId) (c : CrownReading) (s : State) : Draft :=
  let before := s.holder h
  let d := s.draft.mod h (takeReading c s.yard.barometer)
  let d := if before.answering ∧ (d.holder h).stagePressure = before.stagePressure then d else d.tell .values
  if before.state = .recovering then recover h (d.tell .values)
  else
    let d := judgeMove h d
    let d := if uncommanded (d.holder h) then enterFaulted h .uncommanded d else d
    if (d.holder h).state = .faulted then d
    else judgeLimits h c (if before.startStock.isSome ∧ !before.activationWaits then track h d else d)

/-- HOC takes a crown reply (02 R23). A holder not fitted, or with no crown entry, takes none (02 R19, R20). A reply in transit while
SET-HOLDER names another crown entry is taken for the holder all the same (DESIGN CHOICE, log entry 42). -/
def crownReply (h : HolderId) (c : CrownReading) (s : State) : State :=
  if (s.holder h).fitted ∧ (s.crownEntry h).isSome then (replyWork h c s).giveReply h else s

/-- The crown entry has gone SILENT (02 R32); an unfitted holder too may have one (R19). A word of silence in transit while SET-HOLDER
names another crown entry is taken for the holder all the same, though that entry has not gone SILENT: the answering flag is cleared
and CROWN-SILENT latched (DESIGN CHOICE, log entry 42). -/
def crownSilent (h : HolderId) (s : State) : State :=
  let r := s.holder h
  if (s.crownEntry h).isSome then
    let d := s.draft.mod h fun r => { r with answering := false, latches := { r.latches with crownSilent := true } }
    (if r.answering then d.tell .values else d).giveEach h
  else s

/-- A move timer expires before its valve is proved (03 R47); with no timer running nothing expires. -/
def moveTimerExpires (h : HolderId) (s : State) : State :=
  if ((s.holder h).changeOver.bind (·.timer)).isSome then (enterFaulted h .noProof s.draft).giveEach h else s

/-- DIC has taken a join or leave notice: the move that gave it ends (03 R48). -/
def moveTaken (h : HolderId) (m : Move) (s : State) : State :=
  if ((s.holder h).changeOver.bind (·.current)) = some m then (endMove h s.draft).giveEach h else s

/-- A waiting change-over starts its next move (03 R60). -/
def startWaiting (s : State) (h : HolderId) : State := (startMove h s.draft).giveEach h

/-- The yard enters WORKING: each waiting change-over starts its next move (10 R185, R187), from H0 to H5 (DESIGN CHOICE, log
entry 28). -/
def startAllWaiting (s : State) : State := holderIds.foldl startWaiting s

/-! ### Placing orders -/

/-- A quantity order as the holder's last quantity order (03 R40). -/
def Holder.noteOrder (r : Holder) (o : Order) : Holder := if o.quantity.isSome then { r with lastOrder := some o } else r

/-- An order that passed its checks is placed (03 R40, R43, R51). -/
def place (h : HolderId) (o : Order) (s : State) : Result × State :=
  let r := s.holder h
  match r.active, r.next with
  | none, _ =>
    let d := s.draft.mod h fun r => (r.noteOrder o).becomeActive o
    (.done, (if r.changeOver.isSome then d else settle orderFuel h d).giveEach h)
  | some a, none =>
    let d := s.draft.mod h fun r => { r.noteOrder o with next := some o }
    let working := r.changeOver.isNone && !r.activationWaits && a.openEnded
    (.done, (if working then settle orderFuel h d else d).giveEach h)
  | some _, some _ => (.full, s)

/-- An order whose fields are in range meets 03 R38, R41 and R40. -/
def tryOrder (h : HolderId) (o : Order) (s : State) : Result × State :=
  match checkOrder s h o with
  | some refusal => (refusal, s)
  | none => place h o s

/-- The order the fields of a request spell, or the refusal of 03 R39; a field its kind does not carry is not read (log
entry 13). -/
def spelledOrder (kind : OrderKind) (district quantity : Option Nat) (endAction : Option EndAction) : Result ⊕ Order :=
  let withDistrict (k : DistrictId → Result ⊕ Order) : Result ⊕ Order :=
    match district with
    | none => .inl .range
    | some n => match districtOf n with
      | none => .inl .noRecord
      | some d => k d
  let range (o : Order) : Result ⊕ Order := if optWithin 1 16000000 quantity then .inr o else .inl .range
  match kind with
  | .draw => withDistrict fun d => range ⟨.draw, some d, quantity, endAction.getD .stand, false⟩
  | .fill => range ⟨.fill, none, quantity, .stand, false⟩
  | .float => withDistrict fun d => .inr ⟨.float, some d, none, .stand, false⟩
  | .stand => .inr ⟨.stand, none, none, .stand, false⟩

/-- Work on the fitted holder a number names; NO-RECORD for a number above 5 or an unfitted holder (03 R38). -/
def onFitted (n : Nat) (s : State) (f : HolderId → Result × State) : Result × State :=
  match holderOf n with
  | none => (.noRecord, s)
  | some h => if (s.holder h).fitted then f h else (.noRecord, s)

/-- ORDER (03 R38 to R41). -/
def order (n : Nat) (kind : OrderKind) (district quantity : Option Nat) (endAction : Option EndAction) (s : State) :
    Result × State :=
  onFitted n s fun h =>
    if !(s.holder h).takesOrders then (.wrongState, s)
    else match spelledOrder kind district quantity endAction with
      | .inl refusal => (refusal, s)
      | .inr o => tryOrder h o s

/-- REPEAT (03 R42). -/
def repeatLast (n : Nat) (s : State) : Result × State :=
  onFitted n s fun h =>
    if !(s.holder h).takesOrders then (.wrongState, s)
    else match (s.holder h).lastOrder with
      | none => (.noRecord, s)
      | some o => tryOrder h o s

/-- The automatic DRAW of DIC on a standby holder, and HOC's answer to it (03 R44). No order is placed in SETUP (03 R61): one
still on its way when the yard enters SETUP is refused as an order of the control room there is (11 R195; log entry 29). -/
def automaticDraw (h : HolderId) (d : DistrictId) (s : State) : State :=
  let (result, s) := onFitted h s fun h =>
    if s.yard.mode = .setup then (.illegalMode, s)
    else if !(s.holder h).takesOrders then (.wrongState, s)
    else tryOrder h ⟨.draw, some d, none, .cont, true⟩ s
  s.send (.autoJoinAnswer h d result)

/-! ### STOP, ISOLATE, RETURN -/

/-- Both places of the order stack are emptied. -/
def Holder.discardOrders (r : Holder) : Holder := { r with active := none, next := none, activationWaits := false }

/-- STOP (03 R56). -/
def stopHolder (n : Nat) (s : State) : Result × State :=
  onFitted n s fun h =>
    let r := s.holder h
    let any := r.active.isSome || r.next.isSome
    (.done, s.modHolder h fun r =>
      { r.discardOrders with latches := { r.latches with orderStopped := r.latches.orderStopped || any } })

/-- The move kept or reversed as the first of an ISOLATE change-over, with its timer (step 1 of 03 R57). -/
def isolateFirst (r : Holder) : Option (Which × Option Nat) :=
  match r.changeOver, r.driven with
  | some c, some (w, .closed) => some (w, c.timer)
  | some _, some (w, .opened) => some (w, some r.travel)
  | _, _ => none

/-- The closing move of a valve. -/
def closing : Which → Move
  | .inlet => .closeInlet
  | .outlet => .closeOutlet

/-- The membership an ISOLATE change-over is built from: a join or leave already given is taken as given (step 2 of 03 R57). -/
def isolateFeed (s : State) (h : HolderId) : Option DistrictId :=
  match (s.holder h).changeOver.bind (·.current) with
  | some (.join d) => some d
  | some .leave => none
  | _ => s.feedOf h

/-- The district whose pending join ISOLATE withdraws: the one aimed at and not joined (step 3 of 03 R57). -/
def isolateWithdraws (r : Holder) : Option DistrictId :=
  match r.changeOver with
  | none => none
  | some c => match aimsAt c.moves with
    | some d => if c.current = some (.join d) then none else some d
    | none => none

/-- The ISOLATE change-over is built in place of what was in flight (steps 1 to 5 of 03 R57, and R58). -/
def isolateWork (h : HolderId) (s : State) : Draft :=
  let r := s.holder h
  let first := isolateFirst r
  let feed := isolateFeed s h
  let d := s.draft.mod h Holder.discardOrders
  let d : Draft := match isolateWithdraws r with
    | some e => d.tell (.withdraw e)
    | none => d
  let d : Draft := match first with
    | some (w, _) => (d.mod h fun r => r.setIntent w .closed).drive h (some (driveOf w .closed))
    | none => d.drive h none
  let r : Holder := d.holder h
  let moves := (match first with
      | some (w, _) => [closing w]
      | none => [])
    ++ moveIf feed.isSome .leave
    ++ moveIf (decide (r.outletIntent = .opened)) .closeOutlet
    ++ moveIf (decide (r.inletIntent = .opened)) .closeInlet
  if moves.isEmpty then reachTarget h .isolated d
  else
    startMove h (d.mod h fun r =>
      { r with
        changeOver := some ⟨.isolated, moves, 0, first.isSome, first.bind (·.2)⟩
        state := if r.state = .faulted then .faulted else .changing })

/-- ISOLATE (the ISOLATE column of 03 R38, R57, R58). -/
def isolateHolder (n : Nat) (s : State) : Result × State :=
  onFitted n s fun h =>
    let r := s.holder h
    if r.state = .recovering then (.wrongState, s)
    else if r.state = .isolated ∨ r.isolating then (.done, s)
    else (.done, (isolateWork h s).giveEach h)

/-- RETURN is taken: the holder is ISOLATED, or FAULTED with no change-over, with both valves proved CLOSED (03 R59). -/
def returnable (r : Holder) : Bool :=
  (decide (r.state = .isolated) || (decide (r.state = .faulted) && !r.isolating))
    && decide (r.provedInlet = .closed) && decide (r.provedOutlet = .closed)

/-- RETURN (03 R59). -/
def returnToService (n : Nat) (s : State) : Result × State :=
  onFitted n s fun h =>
    if !returnable (s.holder h) then (.wrongState, s)
    else
      (.done, ((s.draft.mod h fun r =>
        { r with
          inletIntent := .closed
          outletIntent := .closed
          isolated := false
          faulted := false
          faultReason := none
          faultStep := 0
          state := .standing }).tell .standing).giveEach h)

/-! ### SET-HOLDER -/

/-- The stage pressures rise strictly from lift 1 outward (02 R19). -/
def risingPressures : List Lift → Bool
  | [] => true
  | [_] => true
  | a :: b :: ls => decide (a.pressure < b.pressure) && risingPressures (b :: ls)

/-- A configuration in range and in agreement with itself (01 R2, 02 R19). -/
def settingsValid (f : HolderSettings) : Bool :=
  within 1 4 f.lifts.length
    && f.lifts.all (fun l => within 100 40000 l.area && within 100 6000 l.stroke && within 1 600 l.pressure)
    && risingPressures f.lifts && within 0 500000 f.landed && decide (f.lowStop < f.topStop)
    && decide (f.topStop ≤ totalStroke f.lifts) && within 10 2000 f.maxStep && optWithin 10 900 f.travel
    && optWithin 1 62 f.crownEntry

/-- The refusal of the crown station entry a request names, if any (02 R19). -/
def crownEntryRefusal (s : State) (h : HolderId) (address : Option Nat) : Option Result :=
  match address with
  | none => none
  | some a => match s.line.entry a with
    | none => some .noRecord
    | some e =>
      if e.kind ≠ .crown then some .noRecord
      else match e.link with
        | .holder g => if g = h then none else some .inUse
        | _ => none

/-- A holder that may not be unfitted: an intent OPEN, a change-over in flight, or a place in a feed list or standby list
(02 R20). -/
def keepsFitted (s : State) (h : HolderId) : Bool :=
  let r := s.holder h
  decide (r.inletIntent = .opened) || decide (r.outletIntent = .opened) || r.changeOver.isSome || (s.feedOf h).isSome
    || districtIds.any fun d => decide (h ∈ (s.district d).feeds) || decide (h ∈ (s.district d).standby)

/-- The configuration fields written (02 R19). -/
def Holder.configure (r : Holder) (f : HolderSettings) : Holder :=
  { r with
    fitted := f.fitted
    lifts := f.lifts
    landed := f.landed
    lowStop := f.lowStop
    topStop := f.topStop
    maxStep := f.maxStep
    travel := f.travel.getD 120 }

/-- The volatile fields of a holder at their reset values, but for the attention latches (02 R20, R22). -/
def Holder.clearVolatile (r : Holder) : Holder :=
  { r with
    state := .recovering
    changeOver := none
    active := none
    next := none
    activationWaits := false
    startStock := none
    remainder := none
    answering := false
    jump := none
    provedInlet := .unknown
    provedOutlet := .unknown }

/-- A holder newly fitted: the backed working fields at their starting values, the stock worked out from them, the volatile
fields reset (02 R20). -/
def Holder.fit (r : Holder) (barometer : Nat) : Holder :=
  ({ r.clearVolatile with
    inletIntent := .closed
    outletIntent := .closed
    isolated := false
    faulted := false
    faultReason := none
    faultStep := 0
    lastOrder := none
    terminal := false
    height := 0
    temp := 600 }).recompute barometer

/-- The crown entry a request leaves the holder with: the one it names (02 R19), but none where it unfits the holder, whose
entry is released (02 R20; log entry 19). -/
def crownAddress (wasFitted : Bool) (f : HolderSettings) : Option Nat :=
  if wasFitted && !f.fitted then none else f.crownEntry

/-- The crown entry changes: a released entry clears the answering flag and the jump candidate, and the drive of a move in
flight is placed on the newly named entry (02 R19), also where no entry was linked before (DESIGN CHOICE, log entry 19). -/
def relinkCrown (h : HolderId) (address : Option Nat) (d : Draft) : Draft :=
  let old := (d.s.crownEntry h).map (·.address)
  let answered := (d.holder h).answering
  if old = address then d
  else
    let d : Draft := { d with s := d.s.modLine fun l => l.relink .crown (.holder h) address }
    let d := match (d.holder h).driven with
      | some (w, v) => d.drive h (some (driveOf w v))
      | none => d
    if old.isSome then
      let d := d.mod h fun r => { r with answering := false, jump := none }
      if answered then d.tell .values else d
    else d

/-- SET-HOLDER (02 R19, R20). -/
def setHolder (n : Nat) (f : HolderSettings) (s : State) : Result × State :=
  match holderOf n with
  | none => (.noRecord, s)
  | some h =>
    if !settingsValid f then (.range, s)
    else match crownEntryRefusal s h f.crownEntry with
      | some refusal => (refusal, s)
      | none =>
        let was := (s.holder h).fitted
        if was ∧ !f.fitted ∧ keepsFitted s h then (.wrongState, s)
        else
          let d := relinkCrown h (crownAddress was f) (s.draft.mod h (·.configure f))
          let d := if !was ∧ f.fitted then (d.mod h (·.fit s.yard.barometer)).tell .values else d
          (.done, d.giveEach h)

/-! ### Reset -/

/-- A holder at power-on and YARD-RESET: every latch clear, and the volatile fields of a fitted holder reset; an unfitted one
stays as it is (02 R20, R22, R36). -/
def Holder.afterReset (r : Holder) : Holder :=
  let r := { r with latches := HolderLatches.clear }
  if r.fitted then r.clearVolatile else r

end Sys2Proof.Machine
end

