-- ==== Sys2Proof/Machine/District.lean ====
section
/-! DEFINITION. The District Controller (04): schedules, compensation, loadings and their delivery, the notices of HOC,
evaluation, automatic joins, trips, and the requests that name a district. -/

namespace Sys2Proof.Machine

/-! ### Values of a district -/

/-- A district in service: SERVING, SHORT or STARVED (04 R66). -/
def DistrictState.inService : DistrictState → Bool
  | .serving => true
  | .short => true
  | .starved => true
  | .out => false
  | .tripped => false

/-- The set-point in force at a minute: that of the latest step started, or of the last step carried over from the day before
(04 R68). -/
def setPointAt (minute present : Nat) (steps : List ScheduleStep) : Nat :=
  match (steps.filter fun t => decide (t.start ≤ minute)).getLast? with
  | some t => t.setPoint
  | none => (steps.getLast?.map (·.setPoint)).getD present

/-- The loading and the required pressure worked from the set-point and compensation (04 R71). -/
def District.recompute (r : District) : District :=
  let loading := clampTo r.floor r.ceiling (r.setPoint + r.comp)
  { r with loading := loading, required := loading + r.drop }

/-- The set-point in force judged at a minute (04 R68). -/
def District.judgeSchedule (minute : Nat) (r : District) : District :=
  { r with setPoint := setPointAt minute r.setPoint r.schedule }

/-- The answering feeds of a district, by the holder view (04 R77). -/
def answeringFeeds (s : State) (r : District) : List HolderId := r.feeds.filter fun h => (s.view h).answering

/-- The available pressure of a district (04 R77). -/
def availableOf (s : State) (r : District) : Nat := ((answeringFeeds s r).map fun h => (s.view h).pressure).foldl max 0

/-- The available pressure recomputed (04 R77). -/
def recomputeAvailable (d : DistrictId) (s : State) : State :=
  s.modDistrict d fun r => { r with available := availableOf s r }

/-- The in-service state a district's feeds give it (the table of 04 R78). -/
def judgedState (s : State) (r : District) : DistrictState :=
  if (answeringFeeds s r).isEmpty then .starved else if r.required ≤ r.available then .serving else .short

/-! ### Evaluation and delivery -/

/-- An occasion for an automatic join (04 R79). Occasions wait in the order they come while an attempt is in flight. -/
def occasion (d : DistrictId) (s : State) : State := { s with occasions := s.occasions ++ [d] }

/-- The latch of an entered state (04 R78, R88). -/
def DistrictLatches.enter (st : DistrictState) (l : DistrictLatches) : DistrictLatches :=
  match st with
  | .starved => { l with starved := true }
  | .short => { l with short := true }
  | .tripped => { l with tripped := true }
  | .serving => l
  | .out => l

/-- A district takes the state its feeds give it; a change latches SHORT or STARVED and makes an occasion (04 R78). -/
def takeJudged (d : DistrictId) (s : State) : State :=
  let r := s.district d
  let st := judgedState s r
  if st = r.state then s
  else
    let s := s.modDistrict d fun r => { r with state := st, latches := r.latches.enter st }
    if st = .serving then s else occasion d s

/-- Evaluation: made in SERVING, SHORT and STARVED (04 R78). -/
def evaluate (d : DistrictId) (s : State) : State :=
  if (s.district d).state.inService then takeJudged d s else s

/-- The loading goes in flight and is placed on the governor entry (04 R72). -/
def placeLoading (d : DistrictId) (s : State) : State :=
  let l := (s.district d).loading
  (s.modDistrict d fun r => { r with inFlight := some l }).setLoadingCommand d (some l)

/-- The loading in flight is withdrawn (04 R83, R85). -/
def withdrawLoading (d : DistrictId) (s : State) : State :=
  (s.modDistrict d fun r => { r with inFlight := none }).setLoadingCommand d none

/-- A change to a district's schedule values, compensation or limits: the loading and required pressure are recomputed, a
changed loading is delivered in service, and a changed required pressure is evaluated (04 R71, R72). -/
def adjustDistrict (d : DistrictId) (f : District → District) (s : State) : State :=
  let before := s.district d
  let s := s.modDistrict d fun r => (f r).recompute
  let after := s.district d
  let s := if after.state.inService ∧ after.loading ≠ before.loading then placeLoading d s else s
  if after.required ≠ before.required then evaluate d s else s

/-- The schedule step in force is judged for one district (04 R68). -/
def judgeDistrictSchedule (s : State) (d : DistrictId) : State :=
  let r := s.district d
  if (r.judgeSchedule s.yard.minute).setPoint = r.setPoint then s
  else adjustDistrict d (District.judgeSchedule s.yard.minute) s

/-! ### Automatic joins -/

/-- A holder that an attempt for district `d` may take (04 R80). -/
def isCandidate (s : State) (required : Nat) (h : HolderId) : Bool :=
  let r := s.holder h
  decide (r.state = .standing) && r.answering
    && districtIds.all (fun e => decide (h ∉ (s.district e).feeds) && decide (h ∉ (s.district e).pendingJoins))
    && r.active.isNone && r.next.isNone && decide (required ≤ r.stagePressure)

/-- The conditions under which an occasion makes an attempt (04 R79). -/
def mayAttempt (s : State) (r : District) : Bool :=
  (decide (r.state = .short) || decide (r.state = .starved)) && decide (s.yard.mode = .working) && r.autoJoin
    && r.joinInHand.isNone

/-- AUTO-JOIN-FAILED is latched (04 R80). -/
def joinFailed (d : DistrictId) (s : State) : State :=
  s.modDistrict d fun r => { r with latches := { r.latches with autoJoinFailed := true } }

/-- One occasion is taken: an attempt places an automatic DRAW on the first candidate of the standby list; with no room in the
district, or no candidate, it fails (04 R79, R80). -/
def tryJoin (d : DistrictId) (s : State) : State :=
  let r := s.district d
  if !mayAttempt s r then s
  else if Config.maxFeeds ≤ r.feeds.length + r.pendingJoins.length then joinFailed d s
  else match r.standby.find? (isCandidate s r.required) with
    | some h => ({ s with attempt := some ⟨d, h⟩ }).send (.automaticDraw h d)
    | none => joinFailed d s

/-- The occasions are taken in their order; while an attempt awaits its answer the rest wait (04 R82; log entry 8). -/
def tryJoins : List DistrictId → State → State
  | [], s => { s with occasions := [] }
  | d :: ds, s => if s.attempt.isSome then { s with occasions := d :: ds } else tryJoins ds (tryJoin d s)

/-- DIC turns to the occasions its event has made. -/
def runOccasions (s : State) : State := tryJoins s.occasions s

/-! ### Notices of HOC -/

/-- The view takes the notified values (04 R75). -/
def takeView (n : HolderNotice) (s : State) : State := s.setView n.holder ⟨n.answering, n.stagePressure⟩

/-- The districts whose feed list holds the holder before or after a notice. -/
def touched (before after : Lists) (h : HolderId) : Bool := decide (h ∈ before.feeds) || decide (h ∈ after.feeds)

/-- The lists of one district after a notice, its available pressure, and the join in hand that the notice ends (04 R76, R77,
R81). -/
def takeLists (m : Instr) (n : HolderNotice) (ends : DistrictId → Bool) (s : State) (d : DistrictId) : State :=
  let r := s.district d
  let after := r.lists.after d m
  let ended := decide (r.joinInHand = some n.holder) && (ends d || n.remove)
  let s := s.modDistrict d fun r =>
    { r with
      feeds := after.feeds
      pendingJoins := after.pending
      joinInHand := if ended then none else r.joinInHand }
  if touched r.lists after n.holder then recomputeAvailable d s else s

/-- Each district the notice touched is evaluated once; the end of its join in hand is an occasion too (04 R76, R81). -/
def evaluateAfter (before : State) (n : HolderNotice) (s : State) (d : DistrictId) : State :=
  let r := before.district d
  let ended := r.joinInHand.isSome && (s.district d).joinInHand.isNone
  let s := if touched r.lists (s.district d).lists n.holder || ended then evaluate d s else s
  if ended then occasion d s else s

/-- A standing notice is an occasion for each district whose standby list holds the holder (04 R82). -/
def standingOccasions (h : HolderId) (s : State) : State :=
  districtIds.foldl (fun s d => if h ∈ (s.district d).standby then occasion d s else s) s

/-- DIC takes a notice of HOC: the values, then the list changes, then each district is evaluated once, then what stands as a
standing notice (04 R75, R76, R82). `ends` tells in which districts the notice ends a join in hand that names the holder. -/
def takeNotice (m : Instr) (n : HolderNotice) (ends : DistrictId → Bool) (standing : Bool) (s : State) : State :=
  let before := s
  let s := districtIds.foldl (takeLists m n ends) (takeView n s)
  let s := districtIds.foldl (evaluateAfter before n) s
  runOccasions (if standing || n.standing then standingOccasions n.holder s else s)

/-- The join-pending notice that the activation of an automatic DRAW gave and DIC has not taken yet. -/
def pendingNotice (h : HolderId) (d : DistrictId) (s : State) : Option HolderNotice :=
  s.inTransit.findSome? fun m => match m with
    | .joinPendingNotice n e => if n.holder = h ∧ e = d then some n else none
    | _ => none

/-- DIC takes that notice before it takes HOC's answer (04 R80). -/
def takePendingFirst (h : HolderId) (d : DistrictId) (s : State) : State :=
  match pendingNotice h d s with
  | some n => takeNotice (.joinPendingNotice n d) n (fun _ => false) false (s.taken (.joinPendingNotice n d))
  | none => s

/-- HOC's answer to the automatic DRAW is read, once DIC has taken the join-pending notice its activation gave (04 R80). -/
def autoJoinAnswer (h : HolderId) (d : DistrictId) (result : Result) (s : State) : State :=
  let s := { takePendingFirst h d s with attempt := none }
  let started := decide (result = .done) && decide (h ∈ (s.district d).pendingJoins)
  runOccasions (if started then
      s.modDistrict d fun r => { r with joinInHand := some h, latches := { r.latches with autoJoinStarted := true } }
    else joinFailed d s)

/-! ### The clock -/

/-- The minute rises by one (04 R67). -/
def Yard.tickMinute (y : Yard) : Yard :=
  if y.minute < 1439 then { y with minute := y.minute + 1 }
  else { y with minute := 0, day := if y.day < 65535 then y.day + 1 else 0 }

/-- DIC takes a minute event (04 R68). -/
def takeMinute (s : State) : State := runOccasions (districtIds.foldl judgeDistrictSchedule s)

/-- SET-CLOCK (04 R67). -/
def setClock (day minute : Nat) (s : State) : Result × State :=
  if minute ≤ 1439 then (.done, takeMinute (s.modYard fun y => { y with day := day, minute := minute })) else (.range, s)

/-! ### Station replies and silences -/

/-- The compensation and the tell-tale low mark after a reply (the table of 04 R69). -/
def compensate (p : Nat) (r : District) : District :=
  if p < r.ttMin then
    { r with
      comp := min (r.comp + r.ttStep) r.compMax
      ttLow := true
      latches := { r.latches with telltaleLow := r.latches.telltaleLow || !r.ttLow } }
  else if p ≤ r.ttMin + r.ttBand then { r with ttLow := false }
  else { r with comp := r.comp - r.ttStep, ttLow := false }

/-- DIC takes a good tell-tale reply (04 R69), also of an entry its district has released since (DESIGN CHOICE, log entry 42). -/
def telltaleReply (d : DistrictId) (p : Nat) (s : State) : State :=
  if (s.district d).state.inService then
    if (compensate p (s.district d)).comp = (s.district d).comp then s.modDistrict d (compensate p)
    else runOccasions (adjustDistrict d (compensate p) s)
  else s

/-- The echoed loading of a governor reply (04 R73). -/
def takeEcho (d : DistrictId) (echo : Option Nat) (s : State) : State :=
  let r := s.district d
  match r.inFlight with
  | some l =>
    if echo = some l then withdrawLoading d (s.modDistrict d fun r => { r with acked := some l }) else s
  | none => if r.state.inService ∧ echo ≠ some r.loading then placeLoading d s else s

/-- The trip indication of a governor reply (04 R83). -/
def takeTrip (d : DistrictId) (trip : Bool) (s : State) : State :=
  if trip ∧ (s.district d).state.inService then
    withdrawLoading d (s.modDistrict d fun r => { r with state := .tripped, latches := r.latches.enter .tripped })
  else s

/-- DIC takes a good governor reply: the echo first, the trip second (04 R73). It is taken also where its district has released that
entry since (DESIGN CHOICE, log entry 42). -/
def governorReply (d : DistrictId) (g : GovernorReading) (s : State) : State := takeTrip d g.trip (takeEcho d g.echo s)

/-- The governor entry has gone SILENT (04 R74); the word is taken also where its district has released that entry since (DESIGN
CHOICE, log entry 42). -/
def governorSilent (d : DistrictId) (s : State) : State :=
  s.modDistrict d fun r => { r with latches := { r.latches with governorSilent := true } }

/-! ### Requests -/

/-- Work on the district a number names; NO-RECORD for a number above 7 (04 R62). -/
def onDistrict (n : Nat) (s : State) (f : DistrictId → Result × State) : Result × State :=
  match districtOf n with
  | none => (.noRecord, s)
  | some d => f d

/-- The last good governor reply of a district's governor entry since the reset (04 R83), also one the entry gave before it was
linked (DESIGN CHOICE, log entry 32). -/
def State.lastGovernor (s : State) (d : DistrictId) : Option GovernorReading :=
  match (s.governorEntry d).bind (·.last) with
  | some (.governor g) => some g
  | _ => none

/-- A district comes into service: it is evaluated, and its loading goes in flight (04 R84, R86). -/
def enterService (d : DistrictId) (s : State) : State := placeLoading d (takeJudged d s)

/-- DISTRICT-IN (04 R86). -/
def districtIn (n : Nat) (s : State) : Result × State :=
  onDistrict n s fun d =>
    match (s.district d).state with
    | .tripped => (.wrongState, s)
    | .out =>
      let answering := match s.governorEntry d with
        | some e => decide (e.state = .answering)
        | none => false
      let tripped := ((s.lastGovernor d).map (·.trip)).getD false
      if (s.telltaleEntry d).isNone || !answering || tripped then (.wrongState, s)
      else (.done, runOccasions (enterService d s))
    | _ => (.done, s)

/-- DISTRICT-RESTORE (04 R84). -/
def districtRestore (n : Nat) (s : State) : Result × State :=
  onDistrict n s fun d =>
    if (s.district d).state = .tripped ∧ (s.lastGovernor d).map (·.trip) = some false then
      (.done, runOccasions (enterService d s))
    else (.wrongState, s)

/-- The feed list and the pending joins of a district hold no holder, nor do the notices already given put one there (04 R85,
03 R48; log entry 5). -/
def noFeeds (s : State) (d : DistrictId) : Bool :=
  let r := s.district d
  let l := s.given d
  r.feeds.isEmpty && r.pendingJoins.isEmpty && l.feeds.isEmpty && l.pending.isEmpty

/-- DISTRICT-OUT (04 R85). -/
def districtOut (n : Nat) (s : State) : Result × State :=
  onDistrict n s fun d =>
    if (s.district d).state = .out then (.done, s)
    else if !noFeeds s d then (.wrongState, s)
    else
      (.done, (withdrawLoading d s).modDistrict d fun r =>
        { r with state := .out, acked := none, ttLow := false, comp := 0 }.recompute)

/-- A value clamped to a range, with whether the clamp acted. -/
def clampNote (lo hi : Nat) (v : Nat) : Nat × Bool := (clampTo lo hi v, decide (clampTo lo hi v ≠ v))

/-- A field clamped where it is present; the present value stands in where it is absent (04 R64). -/
def clampField (lo hi present : Nat) : Option Nat → Nat × Bool
  | none => (present, false)
  | some v => clampNote lo hi v

/-- A schedule step with its values clamped (04 R64). -/
def clampStep (t : ScheduleStep) : ScheduleStep := ⟨clampTo 0 1439 t.start, clampTo 10 150 t.setPoint⟩

/-- The standby list a request names, or its refusal (step 1 of 04 R64). -/
def standbyOf (s : State) (l : List Nat) : Result ⊕ List HolderId :=
  if 3 < l.length then .inl .range
  else match l.mapM holderOf with
    | none => .inl .noRecord
    | some hs =>
      if !hs.all fun h => (s.holder h).fitted then .inl .noRecord
      else if !hs.Nodup then .inl .range
      else .inr hs

/-- A schedule that can be stored: one to six steps (step 1 of 04 R64). -/
def scheduleLengthOk : Option (List ScheduleStep) → Bool
  | none => true
  | some l => within 1 6 l.length

/-- The working fields after a SET-DISTRICT, with whether a clamp acted, or the refusal (04 R64). -/
def districtSettings (s : State) (r : District) (f : DistrictSettings) : Result ⊕ (District × Bool) :=
  if !scheduleLengthOk f.schedule then .inl .range
  else match (f.standby.map (standbyOf s)).getD (.inr r.standby) with
    | .inl refusal => .inl refusal
    | .inr standby =>
      let steps := (f.schedule.map fun l => l.map clampStep).getD r.schedule
      let floor := clampField 20 150 r.floor f.floor
      let ceiling := clampField 20 150 r.ceiling f.ceiling
      let drop := clampField 0 50 r.drop f.drop
      let ttMin := clampField 5 100 r.ttMin f.ttMin
      let ttBand := clampField 1 20 r.ttBand f.ttBand
      let ttStep := clampField 1 10 r.ttStep f.ttStep
      let compMax := clampField 0 40 r.compMax f.compMax
      let acted := decide (f.schedule.map (fun l => l.map clampStep) ≠ f.schedule) || floor.2 || ceiling.2 || drop.2
        || ttMin.2 || ttBand.2 || ttStep.2 || compMax.2
      if !(steps.map (·.start)).Nodup then .inl .range
      else if ceiling.1 < floor.1 then .inl .range
      else .inr ({ r with
        schedule := steps.insertionSort fun a b => a.start ≤ b.start
        floor := floor.1
        ceiling := ceiling.1
        drop := drop.1
        ttMin := ttMin.1
        ttBand := ttBand.1
        ttStep := ttStep.1
        compMax := compMax.1
        autoJoin := f.autoJoin.getD r.autoJoin
        standby := standby }, acted)

/-- SET-DISTRICT (04 R64). -/
def setDistrict (n : Nat) (f : DistrictSettings) (s : State) : Result × State :=
  onDistrict n s fun d =>
    let r := s.district d
    match districtSettings s r f with
    | .inl refusal => (refusal, s)
    | .inr (new, acted) =>
      let s := adjustDistrict d
        (fun _ => { new with comp := min new.comp new.compMax }.judgeSchedule s.yard.minute) s
      let s := evaluate d s
      let after := (s.district d).state
      let turnedOn := !r.autoJoin && new.autoJoin && (decide (after = .short) || decide (after = .starved))
      (if acted then .doneClamped else .done, runOccasions (if turnedOn then occasion d s else s))

/-- The refusal of one station address (04 R63). -/
def stationRefusal (s : State) (d : DistrictId) (kind : EntryKind) (address : Option Nat) : Option Result :=
  match address with
  | none => none
  | some 0 => if (s.district d).state = .out then none else some .wrongState
  | some a => match s.line.entry a with
    | none => some .noRecord
    | some e =>
      if e.kind ≠ kind then some .noRecord
      else match e.link with
        | .district c => if c = d then none else some .inUse
        | _ => none

/-- One station field written: absent leaves it, 0 makes it none, an address links its entry (04 R63). -/
def relinkStation (d : DistrictId) (kind : EntryKind) (address : Option Nat) (s : State) : State :=
  match address with
  | none => s
  | some a => s.modLine fun l => l.relink kind (.district d) (if a = 0 then none else some a)

/-- The governor station written: a loading in flight is placed on the entry newly named (04 R63). -/
def relinkGovernor (d : DistrictId) (address : Option Nat) (s : State) : State :=
  let old := (s.governorEntry d).map (·.address)
  let s := relinkStation d .governor address s
  if (s.governorEntry d).map (·.address) = old then s
  else match (s.district d).inFlight with
    | some l => s.setLoadingCommand d (some l)
    | none => s

/-- SET-DISTRICT-STATIONS (04 R63). A station address above 62 is RANGE, before either station is judged, and the governor station
is judged wholly before the tell-tale station (DESIGN CHOICE, log entry 15). -/
def setStations (n : Nat) (governor telltale : Option Nat) (s : State) : Result × State :=
  onDistrict n s fun d =>
    if !(optWithin 0 62 governor && optWithin 0 62 telltale) then (.range, s)
    else match stationRefusal s d .governor governor, stationRefusal s d .telltale telltale with
      | some refusal, _ => (refusal, s)
      | none, some refusal => (refusal, s)
      | none, none => (.done, relinkStation d .telltale telltale (relinkGovernor d governor s))

/-! ### Reset -/

/-- A district record at power-on and YARD-RESET, before its loading is placed again: the volatile fields reset, the set-point
judged from the clock, an in-service district STARVED without a latch (04 R62, R65). -/
def District.afterReset (minute : Nat) (r : District) : District :=
  { (r.judgeSchedule minute).recompute with
    state := if r.state.inService then .starved else r.state
    inFlight := none
    acked := none
    available := 0
    pendingJoins := []
    joinInHand := none
    ttLow := false
    latches := DistrictLatches.clear }

/-- An in-service district's loading is set in flight and placed again (04 R65). -/
def replaceLoading (s : State) (d : DistrictId) : State :=
  if (s.district d).state.inService then placeLoading d s else s

/-- The holder view after a reset: answering flags clear, the backed stage pressures (04 R62). -/
def viewAfterReset (r : Holder) : View := ⟨false, r.stagePressure⟩

end Sys2Proof.Machine
end

