-- ==== Sys2Proof/Machine/Yard.lean ====
section
/-! DEFINITION. The yard record and its modes (10): SET-YARD, WORK, SETUP, RESUME, YARD-HOLD, the line's notices, the
barometer, and SET-OUTSTATION. -/

namespace Sys2Proof.Machine

/-! ### SET-YARD -/

/-- The fields of SET-YARD lie in the ranges of 10 R181. -/
def yardSettingsOk (f : YardSettings) : Bool :=
  optWithin 250 1100 f.declaredCv && optWithin 2600 3200 f.fallback && optWithin 1 4 f.bookingShare
    && optWithin 1 4 f.fastShare && optWithin 50 2000 f.replyWait && optWithin 0 60 f.scrubInterval

/-- A setting written where the request carries it. -/
def setting {α : Type} (v : Option α) (f : α → State → State) (s : State) : State :=
  match v with
  | some a => f a s
  | none => s

/-- The barometer fallback is written; until a good barometer reply has been taken it is the barometer in use (10 R182). -/
def setFallback (v : Nat) (s : State) : State :=
  s.modYard fun y => { y with fallback := v, barometer := if y.barometerTaken then y.barometer else v }

/-- The fast share is written; a greater ordinary-turn count comes down to it (09 R170). -/
def setFastShare (v : Nat) (s : State) : State :=
  (s.modYard fun y => { y with fastShare := v }).modLine fun l => { l with turnCount := min l.turnCount v }

/-- SET-YARD (10 R182). -/
def setYard (f : YardSettings) (s : State) : Result × State :=
  if !yardSettingsOk f then (.range, s)
  else
    let s := setting f.declaredCv (fun v s => s.modYard fun y => { y with declaredCv := v }) s
    let s := setting f.fallback setFallback s
    let s := setting f.bookingShare setBookingShare s
    let s := setting f.fastShare setFastShare s
    let s := setting f.replyWait (fun v s => s.modYard fun y => { y with replyWait := v }) s
    let s := setting f.scrubInterval setScrubInterval s
    (.done, setting f.priority (fun v s => s.modYard fun y => { y with priority := v }) s)

/-- A good barometer reply: its value, as received, is the barometer in use (01 R3). -/
def takeBarometer (v : Nat) (s : State) : State := s.modYard fun y => { y with barometer := v, barometerTaken := true }

/-! ### SET-OUTSTATION -/

/-- The retry limits a request may set (09 R168). -/
def retryOk (n : Nat) : Bool := n == 1 || n == 3 || n == 7 || n == 15

/-- The kind and retry limit of a request are what its action needs: both for SET, in range; DELETE carries neither (09 R169;
log entry 13). -/
def outstationFieldsOk (address : Nat) (action : OutstationAction) (kind : Option EntryKind) (retry : Option Nat) : Bool :=
  within 1 62 address && (match action with
    | .set => kind.isSome && (retry.map retryOk).getD false
    | .delete => true)

/-- The entry is a METER's and its channels are to be removed: the entry is deleted or changes its kind (06 R111, 09 R169). -/
def losesChannels (s : State) (address : Nat) (action : OutstationAction) (kind : EntryKind) : Bool :=
  match s.line.entry address with
  | some e => decide (e.kind = .meter) && (decide (action = .delete) || decide (kind ≠ .meter))
  | none => false

/-- SET-OUTSTATION (09 R169). -/
def setOutstation (address : Nat) (action : OutstationAction) (kind : Option EntryKind) (retry : Option Nat) (s : State) :
    Result × State :=
  if !outstationFieldsOk address action kind retry then (.range, s)
  else
    let kind := kind.getD .crown
    match outstationResult s.line address action kind with
    | .done =>
      let s := if losesChannels s address action kind then removeChannels address s else s
      (.done, applyOutstation address action kind (retry.getD 0) s)
    | refusal => (refusal, s)

/-! ### Modes -/

/-- A check of WORK that fails: its number, and the lowest-numbered holder or district that fails it (10 R185). -/
structure FailedCheck where
  number : Nat
  record : Option Nat
  deriving DecidableEq, Repr

/-- The first holder that fails a check. -/
def failsHolder (number : Nat) (p : HolderId → Bool) : Option FailedCheck :=
  (holderIds.find? p).map fun h => ⟨number, some h⟩

/-- The first check of WORK that fails, if any (10 R185). -/
def workCheck (s : State) : Option FailedCheck :=
  let recovering (h : HolderId) : Bool := (s.holder h).fitted && decide ((s.holder h).state = .recovering)
  let noCrown (h : HolderId) : Bool := (s.holder h).fitted && (s.crownEntry h).isNone
  let noStations (d : DistrictId) : Bool :=
    decide ((s.district d).state ≠ .out) && ((s.governorEntry d).isNone || (s.telltaleEntry d).isNone)
  (failsHolder 1 recovering).orElse fun _ =>
    (failsHolder 2 noCrown).orElse fun _ =>
      ((districtIds.find? noStations).map fun d => (⟨3, some d.val⟩ : FailedCheck)).orElse fun _ =>
        if !s.line.entries.any fun e => decide (e.kind = .barometer) then some ⟨4, none⟩
        else if s.line.dead then some ⟨5, none⟩
        else none

/-- Entry to WORKING: each waiting change-over starts its next move, and every district has an occasion for an automatic join,
from D0 to D7 (10 R185, R187, 04 R79). -/
def enterWorking (s : State) : State :=
  let s := startAllWaiting (s.modYard fun y => { y with mode := .working })
  runOccasions (districtIds.foldl (fun s d => occasion d s) s)

/-- WORK, in SETUP (10 R185). -/
def work (s : State) : Progress × State :=
  match workCheck s with
  | some c => (.answered .wrongState (n1 c.number ++ optField n1 c.record), s)
  | none => refuse .done (enterWorking s)

/-- A holder that keeps the yard from SETUP: an order stack that is not empty, or a change-over other than an ISOLATE one (10
R186). -/
def holdsWorking (r : Holder) : Bool :=
  r.fitted && (r.active.isSome || r.next.isSome || (r.changeOver.isSome && !r.isolating))

/-- SETUP (10 R184, R186). -/
def setup (s : State) : Progress × State :=
  if s.yard.mode = .setup then refuse .done s
  else if holderIds.any fun h => holdsWorking (s.holder h) then refuse .wrongState s
  else refuse .done (s.modYard fun y => { y with mode := .setup })

/-- RESUME, in HOLD (10 R187). -/
def resume (s : State) : Progress × State := if s.line.dead then refuse .wrongState s else refuse .done (enterWorking s)

/-- The yard enters HOLD from WORKING with a cause (10 R187). -/
def enterHold (cause : HoldCause) (s : State) : State :=
  s.modYard fun y => { y with mode := .hold, holdEntered := some cause }

/-- YARD-HOLD (10 R187). -/
def yardHold (s : State) : Result × State :=
  match s.yard.mode with
  | .working => (.done, enterHold .yardHold s)
  | .hold => (.done, s)
  | .setup => (.wrongState, s)

/-- OLC has told REX that the line is dead (10 R187). -/
def lineDies (s : State) : State := if s.yard.mode = .working then enterHold .lineDead s else s

end Sys2Proof.Machine
end

