-- ==== Sys2Proof/Machine/Looks.lean ====
section
/-! DEFINITION. The answers of LOOK, READ-ATTENTION and ACK (02 R35, 04 R87, 06 R131, 08 R160, 09 R177, 10 R181, 11 R198 to
R200), each in the order its rule lists (11 R201; log entry 12 for the forms the rule leaves open). -/

namespace Sys2Proof.Machine

/-- The set conditions of a source, as an answer lists them. -/
def conditionsField (s : State) (x : Source) : List Field := listField conditionFields (s.conditions x)

/-! ### A holder -/

def HolderState.index : HolderState → Nat
  | .recovering => 0 | .standing => 1 | .filling => 2 | .drawing => 3 | .floating => 4 | .changing => 5
  | .isolated => 6 | .faulted => 7

def Valve.index : Valve → Nat
  | .opened => 0 | .closed => 1

def Proved.index : Proved → Nat
  | .unknown => 0 | .opened => 1 | .closed => 2 | .moving => 3 | .conflict => 4

def FaultReason.index : FaultReason → Nat
  | .uncommanded => 0 | .noProof => 1 | .recoveryMismatch => 2 | .orphan => 3

/-- The moves are numbered by valve and direction, joins and leaves behind them (DESIGN CHOICE, log entry 37). -/
def Move.index : Move → Nat
  | .openInlet => 0 | .closeInlet => 1 | .openOutlet => 2 | .closeOutlet => 3 | .join _ => 4 | .leave => 5

/-- A holder's configuration (02 R19). -/
def configFields (r : Holder) (crown : Option Nat) : List Field :=
  .flag r.fitted :: listField liftFields r.lifts ++ n4 r.landed ++ n2 r.lowStop ++ n2 r.topStop ++ n2 r.maxStep ++ n2 r.travel
    ++ optField n1 crown

/-- An order (02 R35). A FLOAT or STAND, to which 03 R39 gives no end action, answers STAND (DESIGN CHOICE, log entry 13). -/
def orderFields (o : Order) : List Field :=
  .choice o.kind.index :: optField (fun d : DistrictId => n1 d) o.district ++ optField n4 o.quantity
    ++ [.choice o.endAction.index]

/-- The district a join move names. -/
def Move.district : Move → Option DistrictId
  | .join d => some d
  | _ => none

/-- A move: a join names its district. -/
def moveFields (m : Move) : List Field := .choice m.index :: optField (fun d : DistrictId => n1 d) m.district

/-- A change-over: its target with the district, its move list and its step (02 R35). -/
def changeFields (c : ChangeOver) : List Field :=
  .choice c.target.state.index :: optField (fun d : DistrictId => n1 d) c.target.district ++ listField moveFields c.moves
    ++ n1 c.step

/-- LOOK of a holder (02 R35); an unfitted one shows its configuration alone (02 R20). -/
def holderAnswer (s : State) (h : HolderId) : List Field :=
  let r := s.holder h
  let config := configFields r ((s.crownEntry h).map (·.address))
  if !r.fitted then config
  else
    config ++ [.choice r.state.index, .choice r.inletIntent.index, .choice r.outletIntent.index,
      .choice r.provedInlet.index, .choice r.provedOutlet.index, .flag r.isolated, .flag r.faulted]
    ++ optField (fun f : FaultReason => [.choice f.index]) r.faultReason ++ n1 r.faultStep
    ++ n2 r.height ++ [.int 2 r.temp] ++ n1 r.stage ++ n2 r.stagePressure ++ n4 r.gv ++ n4 r.stock ++ [.flag r.stockClamped]
    ++ [.flag r.answering] ++ optField n2 (r.jump.map (·.height)) ++ n1 ((r.jump.map (·.count)).getD 0)
    ++ optField orderFields r.active ++ optField orderFields r.next
    ++ optField n4 r.startStock ++ optField n4 r.remainder
    ++ optField orderFields r.lastOrder ++ [.flag r.terminal]
    ++ optField changeFields r.changeOver ++ conditionsField s (.holder h)

/-- LOOK naming a holder. -/
def lookHolder (n : Nat) (s : State) : Progress × State :=
  match holderOf n with
  | none => refuse .noRecord s
  | some h => (.answered .done (holderAnswer s h), s)

/-! ### A district -/

def DistrictState.index : DistrictState → Nat
  | .out => 0 | .serving => 1 | .short => 2 | .starved => 3 | .tripped => 4

def EntryState.index : EntryState → Nat
  | .untried => 0 | .answering => 1 | .silent => 2

/-- A feed with its answering flag and stage pressure from the holder view (04 R87). -/
def feedFields (s : State) (h : HolderId) : List Field :=
  n1 h ++ .flag (s.view h).answering :: n2 (s.view h).pressure

/-- The values of an entry's last good reply, by kind (09 R173). -/
def readingFields : Reading → List Field
  | .crown r =>
    n2 r.height ++ [.int 2 r.temp, .flag r.inletOpen, .flag r.inletClosed, .flag r.outletOpen, .flag r.outletClosed,
      .flag r.topStop, .flag r.landing]
  | .meter r => n2 r.pressure ++ .int 2 r.temp :: r.counts.toList.flatMap n2
  | .governor r => n2 r.outlet ++ optField n1 r.echo ++ [.flag r.trip]
  | .telltale p => n2 p
  | .barometer b => n2 b

/-- A station's last values with its entry's state (04 R87). -/
def stationFields (e : PollEntry) : List Field := optField readingFields e.last ++ [.choice e.state.index]

/-- A holder's number in a list. -/
def holderField (h : HolderId) : List Field := n1 h

/-- LOOK of a district (04 R87). -/
def districtAnswer (s : State) (d : DistrictId) : List Field :=
  let r := s.district d
  optField n1 ((s.governorEntry d).map (·.address)) ++ optField n1 ((s.telltaleEntry d).map (·.address))
    ++ listField stepFields r.schedule ++ n1 r.floor ++ n1 r.ceiling ++ n1 r.drop ++ n1 r.ttMin ++ n1 r.ttBand ++ n1 r.ttStep
    ++ n1 r.compMax ++ .flag r.autoJoin :: listField holderField r.standby
    ++ .choice r.state.index :: n1 r.setPoint ++ n1 r.comp ++ n1 r.loading ++ optField n1 r.inFlight ++ optField n1 r.acked
    ++ n1 r.required ++ n2 r.available
    ++ listField (feedFields s) r.feeds ++ listField holderField r.pendingJoins ++ optField holderField r.joinInHand
    ++ .flag r.ttLow :: descFields r.root
    ++ optField stationFields (s.governorEntry d) ++ optField stationFields (s.telltaleEntry d)
    ++ conditionsField s (.district d)

/-- LOOK naming a district. -/
def lookDistrict (n : Nat) (s : State) : Progress × State :=
  match districtOf n with
  | none => refuse .noRecord s
  | some d => (.answered .done (districtAnswer s d), s)

/-! ### The booking engine -/

/-- A channel's name: its entry's address and its number. -/
def channelName (address : Nat) (ch : Fin 4) : List Field := n1 address ++ n1 ch

/-- A queue entry (06 R131). -/
def queueFields (q : QueueEntry) : List Field :=
  channelName q.address q.channel ++ n2 q.target ++ n2 q.pressure ++ [.int 2 q.temp]

def Phase.index : Phase → Nat
  | .resolving _ => 1 | .committing _ _ => 2 | .marking _ _ _ => 3

/-- Where a resolution came from (06 R119). -/
def Origin.index : Origin → Nat
  | .route => 0 | .cache => 1 | .walk _ => 2

/-- An ACCOUNT resolution as an answer shows it: its slot, BARRED, GLOBAL and origin (DESIGN CHOICE, log entry 38). -/
def accountResolution (slot : Nat) (barred global : Bool) (origin : Origin) : List Field :=
  .choice 0 :: n1 slot ++ [.flag barred, .flag global, .choice origin.index]

/-- The resolution or finding of a phase: ACCOUNT, NO-ROUTE or IMPLAUSIBLE, in this order (log entry 37); none while BKE
resolves. -/
def Phase.resolution : Phase → Option (List Field)
  | .resolving _ => none
  | .committing (some (.account slot barred global origin)) _ => some (accountResolution slot barred global origin)
  | .committing (some (.noRoute reason)) _ => some [.choice 1, .choice reason.index]
  | .committing none _ => some [.choice 2]
  | .marking slot barred own => some (accountResolution slot barred false (.walk own))

/-- The resolution or finding of the booking in hand, which may be absent (06 R131, 11 R201). -/
def resolutionFields (p : Phase) : List Field := optField id p.resolution

/-- The level a walk has reached (05 R93) is shown as the access it awaits (DESIGN CHOICE, log entry 37). -/
def WalkLevel.index : WalkLevel → Nat
  | .mainRead _ => 0 | .mainFlag _ _ => 1 | .pointRead _ => 2 | .leafFlag _ _ => 3

/-- The walk in flight, if any (06 R131): its level, with a flag for the target's path (DESIGN CHOICE, log entry 38), its
accumulated BARRED and its stale mark. -/
def walkFields (p : Phase) : List Field :=
  match p with
  | .resolving w => [.presence true, .choice w.level.index, .flag w.target.isSome, .flag w.barred, .flag w.stale]
  | _ => [.presence false]

/-- The booking in hand (06 R131). -/
def inHandFields (h : InHand) : List Field :=
  channelName h.address h.channel ++ n2 h.target ++ n2 h.pulses ++ .choice h.phase.index :: resolutionFields h.phase

/-- A cache entry (06 R120). -/
def cacheFields (e : CacheEntry) : List Field := n2 e.point ++ n1 e.slot ++ [.flag e.barred, .flag e.global]

/-- The number of channels whose waiting flag is set (06 R116). -/
def waitingChannels (l : Line) : Nat := (l.entries.map fun e => e.channels.toList.countP (·.waiting)).sum

/-- LOOK of the booking engine (06 R131). -/
def bookingAnswer (s : State) : List Field :=
  let b := s.bke
  listField queueFields b.queue ++ n1 (waitingChannels s.line) ++ optField inHandFields b.inHand
    ++ ((b.inHand.map fun h => walkFields h.phase).getD [.presence false])
    ++ listField cacheFields b.cache ++ routeFields b.routes[0] ++ routeFields b.routes[1] ++ conditionsField s .booking

/-- LOOK naming the booking engine. -/
def lookBooking (s : State) : Progress × State := (.answered .done (bookingAnswer s), s)

/-! ### The store -/

/-- The allocation records of the allocated main tables (08 R160), each with a flag byte for its provisional mark behind it: R91 keeps
the mark with the record, R160 names the record alone (DESIGN CHOICE, log entry 38). -/
def mainAllocFields (r : Rst) : List Field :=
  listField id (r.mainAlloc.filterMap fun p => p.2.map fun a => n1 p.1 ++ n1 a.district ++ [.flag a.provisional])

/-- The allocation records of the allocated point tables (08 R160), each with a flag byte for its provisional mark behind it, as
`mainAllocFields` has it (DESIGN CHOICE, log entry 38). -/
def pointAllocFields (r : Rst) : List Field :=
  listField id (r.pointAlloc.filterMap fun p => p.2.map fun a => n1 p.1 ++ n1 a.main ++ n1 a.index ++ [.flag a.provisional])

/-- LOOK of the store (08 R160): the damaged slots and the allocation records by rising number, main tables before point tables
(DESIGN CHOICE, log entry 37). A count byte holds the low eight bits of a length above 255 (DESIGN CHOICE, log entry 12). -/
def storeAnswer (s : State) : List Field :=
  let r := s.rst
  n2 r.corrected ++ optField n2 r.lastCorrected ++ n2 r.damagedReads ++ optField n2 r.lastDamaged
    ++ listField n2 (r.damaged.map (·.1)) ++ listField n1 r.freeMains ++ listField n1 r.freePoints
    ++ mainAllocFields r ++ pointAllocFields r ++ n2 r.scrubPointer ++ n1 s.yard.scrubInterval ++ n1 r.arbiter.count
    ++ conditionsField s .store

/-- LOOK naming the store. -/
def lookStore (s : State) : Progress × State := (.answered .done (storeAnswer s), s)

/-! ### The line -/

/-- A linked record, with its number where it has one: a holder, a district, the yard record or none (09 R168). -/
def linkFields : Link → List Field
  | .holder h => .choice 0 :: .presence true :: n1 h
  | .district d => .choice 1 :: .presence true :: n1 d
  | .yard => [.choice 2, .presence false]
  | .none => [.choice 3, .presence false]

/-- The valve drives, in the order of 03 R46. -/
def Drive.index : Drive → Nat
  | .inletOpen => 0 | .inletClosed => 1 | .outletOpen => 2 | .outletClosed => 3

/-- A pending command: a valve drive or a loading (09 R168). -/
def commandFields : Command → List Field
  | .drive d => [.choice 0, .choice d.index]
  | .loading l => .choice 1 :: n1 l

/-- The outstanding pulses of a bound channel whose latest count is not none (06 R110). -/
def Channel.outstanding (c : Channel) : Option Nat :=
  if c.enabled && c.baseTaken then c.latest.map fun n => pulsesBetween c.base n else none

/-- The eight fields of a channel with its outstanding pulses (06 R110). -/
def channelFields (c : Channel) : List Field :=
  .flag c.enabled :: n2 c.point ++ n2 c.constant ++ n2 c.limit ++ n2 c.base ++ .flag c.baseTaken :: optField n2 c.latest
    ++ .flag c.waiting :: optField n2 c.outstanding

/-- A poll entry's fields (09 R168). The channels stand for a METER alone, with no presence byte (DESIGN CHOICE, log entry
38), and with no count byte, as they are always four (DESIGN CHOICE, log entry 12). -/
def entryFields (e : PollEntry) : List Field :=
  n1 e.address ++ .choice e.kind.index :: linkFields e.link ++ n1 e.retry
    ++ (if e.kind = .meter then e.channels.toList.flatMap channelFields else [])
    ++ .choice e.state.index :: n1 e.misses ++ optField commandFields e.command ++ optField readingFields e.last

def Rx.index : Rx → Nat
  | .hunt => 0 | .frame _ => 1 | .escaped _ => 2

/-- LOOK of the line (09 R177): a position as the place of its entry, 0 for the head, and the attempt in flight as the address
polled and whether its poll is still being sent (DESIGN CHOICE, log entry 38). -/
def lineAnswer (s : State) : List Field :=
  let l := s.line
  listField entryFields l.entries ++ n1 l.ordPos ++ n1 l.fastPos ++ n1 l.turnCount
    ++ optField (fun x : Exchange => n1 x.address ++ [.flag x.sending]) l.exchange
    ++ .choice l.rx.index :: n2 l.checkErrors ++ n2 l.aborts ++ n2 l.unexpected ++ .flag l.dead :: conditionsField s .line

/-- LOOK naming the line or one address (09 R177). -/
def lookLine (address : Option Nat) (s : State) : Progress × State :=
  match address with
  | none => (.answered .done (lineAnswer s), s)
  | some a => match s.line.entry a with
    | some e => (.answered .done (entryFields e), s)
    | none => refuse .noRecord s

/-! ### The yard and the link -/

def Mode.index : Mode → Nat
  | .setup => 0 | .working => 1 | .hold => 2

/-- LOOK of the yard (10 R181). -/
def yardAnswer (s : State) : List Field :=
  let y := s.yard
  .choice y.mode.index :: n2 y.declaredCv ++ n2 y.fallback ++ n2 y.barometer ++ n2 y.period ++ .flag y.closeUnfinished
    :: n2 y.day ++ n2 y.minute ++ n1 y.bookingShare ++ n1 y.fastShare ++ n2 y.replyWait ++ n1 y.scrubInterval
    ++ .choice y.priority.index :: .flag s.line.dead :: conditionsField s .yard

/-- LOOK naming the yard. -/
def lookYard (s : State) : Progress × State := (.answered .done (yardAnswer s), s)

/-- The access the head of the stack awaits (11 R194), numbered by the model (DESIGN CHOICE, log entry 37). -/
def HeadWork.index : HeadWork → Nat
  | .account => 0 | .retireCheck => 1 | .retireScan _ => 2 | .retireFinal => 3 | .closeScan _ _ => 4
  | .closePass _ _ _ => 5 | .balance _ _ => 6 | .lookPoint _ => 7 | .directory _ => 8

/-- A request on the stack: its tag and code, whether it has started, and for a started one the access it awaits (11 R194,
R200). -/
def stackedFields (w : Option HeadWork) (q : Stacked) : List Field :=
  n1 q.tag.toNat ++ n1 q.request.code.toNat
    ++ .flag q.started :: optField (fun w : HeadWork => [.choice w.index]) (if q.started then w else none)

/-- LOOK of the link (11 R194, R200). -/
def linkAnswer (s : State) : List Field :=
  let x := s.rex
  n2 x.badFrames ++ n2 x.aborts ++ n2 x.discards ++ .choice x.rx.index
    :: listField (stackedFields x.work) x.stack
    ++ n1 x.responses.length

/-- LOOK naming the link. -/
def lookLink (s : State) : Progress × State := (.answered .done (linkAnswer s), s)

/-! ### Attention -/

/-- The sources that have a set latch, in the yard's priority order (11 R198). -/
def attending (s : State) : List Source := (sourcesIn s.yard.priority).filter s.attends

/-- The summary code: the first listed source with its highest-ranked set condition (11 R198). -/
def summary (s : State) : Option (Nat × Nat) :=
  match attending s with
  | x :: _ => (s.conditions x).head?.map fun c => (x.number, c.1)
  | [] => none

/-- The answer of READ-ATTENTION (11 R198). -/
def attentionAnswer (s : State) : List Field :=
  listField (fun x : Source => .choice x.number :: conditionsField s x) (attending s)
    ++ optField (fun c : Nat × Nat => [.choice c.1, .choice c.2]) (summary s)

/-- READ-ATTENTION (11 R198). -/
def readAttention (s : State) : Progress × State := (.answered .done (attentionAnswer s), s)

/-- ACK (11 R199). -/
def acknowledge (n : Nat) (s : State) : Progress × State :=
  match sourceOf n with
  | none => refuse .range s
  | some x => (.answered .done (conditionsField s x), s.clearSource x)

end Sys2Proof.Machine
end

