-- ==== Sys2Proof/Machine/Link.lean ====
section
/-! DEFINITION. The control-room link and the Request Executor (11): the link receiver, responses, the request stack, mode
groups, immediate requests, the accesses of the head, and the resets (10 R183, R188). -/

namespace Sys2Proof.Machine

/-! ### Responses -/

/-- A request is answered: its response joins the response queue (11 R193). -/
def respond (tag code : Byte) (result : Result) (fields : List Field) (s : State) : State :=
  s.modRex fun x => { x with responses := x.responses ++ [⟨tag, code, result, fields⟩] }

/-- The END of the response being sent has gone out: it leaves the queue (11 R193). -/
def responseGone (s : State) : State := s.modRex fun x => { x with responses := x.responses.drop 1 }

/-! ### Mode groups -/

/-- The mode groups of stacked requests (11 R195). -/
inductive Group where
  | setupOnly | workingOnly | shared | mode
  deriving DecidableEq, Repr

/-- The group of a request code (11 R195, R201). -/
def groupOf (code : Byte) : Group :=
  let n := code.toNat
  if 1 ≤ n ∧ n ≤ 5 then .setupOnly
  else if n = 0x10 ∨ n = 0x11 then .workingOnly
  else if 0x60 ≤ n ∧ n ≤ 0x62 then .mode
  else .shared

/-- A mode request is judged in a mode, or refused ILLEGAL-MODE (the table of 10 R184). -/
def modeAdmits (q : Request) (m : Mode) : Bool :=
  match q, m with
  | .work, .setup => true
  | .setup, _ => true
  | .resume, .hold => true
  | _, _ => false

/-- The yard mode admits a request at its start (11 R195). -/
def admits (q : Request) (m : Mode) : Bool :=
  match groupOf q.code with
  | .setupOnly => decide (m = .setup)
  | .workingOnly => decide (m = .working)
  | .shared => true
  | .mode => modeAdmits q m

/-! ### Execution -/

/-- A request answered without fields at the event that executes it (11 R195). -/
def atOnce (r : Result × State) : Progress × State := (.answered r.1 [], r.2)

/-- A stacked request is handed to its owner (11 R194). The immediate requests are never on the stack. -/
def startRequest (q : Request) (s : State) : Progress × State :=
  match q with
  | .setYard f => atOnce (setYard f s)
  | .setHolder h f => atOnce (setHolder h f s)
  | .setDistrictStations d g t => atOnce (setStations d g t s)
  | .setOutstation a act k r => atOnce (setOutstation a act k r s)
  | .setChannel a c e p k l => atOnce (setChannel a c e p k l s)
  | .order h k d q e => atOnce (order h k d q e s)
  | .repeatOrder h => atOnce (repeatLast h s)
  | .returnHolder h => atOnce (returnToService h s)
  | .setDistrict d f => atOnce (setDistrict d f s)
  | .districtIn d => atOnce (districtIn d s)
  | .districtOut d => atOnce (districtOut d s)
  | .districtRestore d => atOnce (districtRestore d s)
  | .setClock d m => atOnce (setClock d m s)
  | .mapPoint p slot _ _ => startMap p slot s
  | .linkPoint p t => startLink p t s
  | .unmapPoint p => startUnmap p s
  | .bar l p => startBar true l p s
  | .unbar l p => startBar false l p s
  | .setRoute r f => startRoute r f s
  | .lookPoint p c => startLookPoint p c s
  | .openAccount slot k cv => startOpen slot k cv s
  | .closeAccount slot => startOnSlot slot true .account s
  | .reopenAccount slot => startReopen slot s
  | .retireAccount slot => startOnSlot slot true .retireCheck s
  | .restoreAccount slot c => startOnSlot slot (contentsOk c) .account s
  | .adjust a b v t => startAdjust a b v t s
  | .closePeriod => startClose s
  | .lookHolder h => lookHolder h s
  | .lookDistrict d => lookDistrict d s
  | .lookAccount slot => startLookAccount slot s
  | .lookBalance => await (.balance 0 Sums.zero) s
  | .lookBookingEngine => lookBooking s
  | .lookStore => lookStore s
  | .lookLine a => lookLine a s
  | .lookYard => lookYard s
  | .lookLink => lookLink s
  | .readAttention => readAttention s
  | .ack n => acknowledge n s
  | .work => work s
  | .setup => setup s
  | .resume => resume s
  | .outOfRange _ => refuse .range s
  | .yardReset => refuse .wrongState s
  | .lineReset => refuse .wrongState s
  | .yardHold => refuse .wrongState s
  | .stop _ => refuse .wrongState s
  | .isolate _ => refuse .wrongState s

/-- The head is answered and leaves the stack (11 R194). -/
def answerHead (h : Stacked) (result : Result) (fields : List Field) (s : State) : State :=
  respond h.tag h.request.code result fields (s.modRex fun x => { x with stack := x.stack.drop 1, work := none })

/-- The head awaits its next store access (11 R194). -/
def awaitHead (w : HeadWork) (s : State) : State := request .rex (s.modRex fun x => { x with work := some w })

/-- The head is marked as started. -/
def markStarted (s : State) : State :=
  s.modRex fun x => { x with stack := match x.stack with
    | h :: rest => { h with started := true } :: rest
    | [] => [] }

/-- The head starts: its mode group is checked, and it is handed to its owner (11 R194, R195). -/
def startHead (h : Stacked) (s : State) : Progress × State :=
  if admits h.request s.yard.mode then startRequest h.request (markStarted s) else refuse .illegalMode s

/-- Requests start as they become the head, until one awaits an access or the stack is empty. The first argument bounds the
starts within one event; the stack has two places (11 R194). -/
def runStack : Nat → State → State
  | 0, s => s
  | n + 1, s =>
    match s.rex.stack with
    | [] => s
    | h :: _ =>
      if h.started then s
      else match startHead h s with
        | (.answered result fields, s) => runStack n (answerHead h result fields s)
        | (.awaits w, s) => awaitHead w s

/-- A stacked request arrives (the table of 11 R194). -/
def stackRequest (tag : Byte) (q : Request) (s : State) : State :=
  if Config.maxStack ≤ s.rex.stack.length then respond tag q.code .busy [] s
  else runStack Config.maxStack (s.modRex fun x => { x with stack := x.stack ++ [⟨tag, q, false⟩] })

/-! ### The accesses of the head -/

/-- The started head of the stack with the work it has in hand. -/
def State.headWork (s : State) : Option (Stacked × HeadWork) :=
  match s.rex.stack, s.rex.work with
  | h :: _, some w => some (h, w)
  | _, _ => none

/-- The slot RETIRE-ACCOUNT names. -/
def retireSlot : Request → Nat
  | .retireAccount slot => slot
  | _ => 0

/-- The clear-booked option of LOOK-POINT. -/
def clearOption : Request → Bool
  | .lookPoint _ c => c
  | _ => false

/-- A store access of the head ends, and the request goes on (11 R194, R195). -/
def workAccess (g : Grant) (q : Request) (w : HeadWork) (s : State) : Progress × State :=
  match w with
  | .account => accountAccess g q s
  | .retireCheck => retireCheck g (retireSlot q) s
  | .retireScan left => retireScan g (retireSlot q) left s
  | .retireFinal => retireFinal g (retireSlot q) s
  | .closeScan slot m => closeScan g slot m s
  | .closePass tables leaves m => bookedPass g tables leaves m s
  | .balance slot m => balanceRead g slot m s
  | .lookPoint lw => lookPointAccess g (requestPoint q) (clearOption q) lw s
  | .directory dw => directoryAccess g q dw s

/-- The head goes on after an access: it awaits its next, or is answered and the second starts (11 R194). -/
def headGoesOn (h : Stacked) (p : Progress × State) : State :=
  match p with
  | (.answered result fields, s) => runStack Config.maxStack (answerHead h result fields s)
  | (.awaits w, s) => awaitHead w s

/-- REX's access being served ends, where the head awaits one of the kind the command names (11 R194, 08 R163). -/
def headAccessEnds (kind : HeadWork → Bool) (s : State) : State :=
  match s.served .rex, s.headWork with
  | some g, some (h, w) => if kind w then release (headGoesOn h (workAccess g h.request w s)) else s
  | _, _ => s

/-- BKE's access being served ends, where its booking in hand is in the phase the command names (06, 08 R163). -/
def bookingAccessEnds (kind : Phase → Bool) (work : Grant → InHand → State → State) (s : State) : State :=
  match s.served .bke, s.bke.inHand with
  | some g, some h => if kind h.phase then release (work g h s) else s
  | _, _ => s

/-! ### Resets -/

/-- What an access of the head does in the store, when its request has been abandoned (08 R164): its read is judged and its
writes are made, and the request goes no further. -/
def abandonedAccess (g : Grant) (q : Request) (w : HeadWork) (s : State) : State :=
  match w with
  | .account => (accountAccess g q s).2
  | .retireCheck => (retireCheck g (retireSlot q) s).2
  | .retireScan left => (retireScan g (retireSlot q) left s).2
  | .retireFinal => (retireFinal g (retireSlot q) s).2
  | .closeScan slot m => (closeScanAccess g slot m s).2
  | .closePass tables leaves _ => (passAccess g tables leaves s).2
  | .balance slot _ => (judge false g.period slot s).2
  | .lookPoint lw => (lookPointAccess g (requestPoint q) (clearOption q) lw s).2
  | .directory .account => (judge false g.period (checkedSlot q) s).2
  | .directory (.targetMain t) => (judge false g.period (mainSlot t) s).2
  | .directory (.targetPoint t) => (judge false g.period (pointSlot t) s).2
  | .directory (.ownMain t) => (judge false g.period (mainSlot t) s).2
  | .directory (.ownPoint _ _ t) => (judge false g.period (pointSlot t) s).2
  | .directory (.actions plan) => abandonedAction g (requestPoint q) plan s

/-- An access already granted is completed by RST before a reset or the loss of supply takes the rest (08 R164). -/
def completeServed (s : State) : State :=
  match s.rst.arbiter.serving with
  | none => s
  | some g =>
    let s := match g.requester with
      | .bke => completeBke g s
      | .scrub => scrubEffect g s
      | .rex => match s.headWork with
        | some (h, w) => abandonedAccess g h.request w s
        | none => s
    s.modRst fun r => { r with arbiter := { r.arbiter with serving := none } }

/-- The yard record at a reset (10 R181, R190). -/
def Yard.afterReset (cause : RestartCause) (y : Yard) : Yard :=
  { y with
    mode := .setup
    barometer := y.fallback
    barometerTaken := false
    restarted := some cause
    holdEntered := none
    periodClosed := none }

/-- REX at a reset: the stack empty, the receiver in HUNT, the counts zero; the response queue is not disturbed (11 R193, R196,
R200). -/
def Rex.afterReset (x : Rex) : Rex := { Rex.empty with responses := x.responses }

/-- The part after a reset, with a poll being sent given up and the first poll chosen (10 R188, 09 R180). Messages that one block
has given another and that have not been taken are dropped with the rest (DESIGN CHOICE, log entry 39). -/
def resetPart (cause : RestartCause) (s : State) : State :=
  let gaveUp := givesUp s
  let s : State := { s with
    yard := s.yard.afterReset cause
    holders := mapSix Holder.afterReset s.holders
    districts := mapEight (District.afterReset s.yard.minute) s.districts
    views := mapSix viewAfterReset s.holders
    occasions := []
    attempt := none
    line := s.line.afterReset
    bke := s.bke.afterReset
    rst := s.rst.afterReset s.yard.scrubInterval
    rex := s.rex.afterReset
    inTransit := [] }
  nextTurn gaveUp (districtIds.foldl replaceLoading s)

/-- Each request on the stack is answered ABORTED, the head first (11 R196). -/
def abortStack (s : State) : State :=
  s.rex.stack.foldl (fun s q => respond q.tag q.request.code .aborted [] s) s

/-- YARD-RESET (11 R196). -/
def yardReset (tag : Byte) (s : State) : State :=
  respond tag Request.yardReset.code .done [] (resetPart .yardReset (completeServed (abortStack s)))

/-- The backed state is distrusted (10 R183). -/
def distrusts (batteryLow : Bool) (found : StateFlaw) : Bool := batteryLow || decide (found = .uncorrectable)

/-- Power-on: distrusted backed state is started afresh, the clock with the start times of the balance record at day 0 and minute 0
(log entry 46); then the part is reset, its response queue emptied (10 R183, R188, 11 R193). What the line was sending when the part
still ran is given up. -/
def powerOn (batteryLow : Bool) (found : StateFlaw) (s : State) : State :=
  if distrusts batteryLow found then
    let fresh := { State.reset with pending := s.pending }
    if s.running then fresh.modLine fun l => { l with gaveUp := givesUp s } else fresh
  else
    let s := if s.running then completeServed s else s.modLine fun l => { l with exchange := none, tx := [] }
    resetPart .powerOn ({ s with running := true }.modRex fun x => { x with responses := [] })

/-- The main supply fails: an access already granted is completed on the battery, and the rest of the part stops (10, "Power-on
and YARD-RESET"; 08 R164). -/
def supplyFails (s : State) : State := { completeServed s with running := false }

/-! ### Arrival -/

/-- An immediate request acts on its arrival and is answered once its action is taken; none for a stacked request (11 R196). -/
def immediate (tag : Byte) (q : Request) (s : State) : Option State :=
  let answer (r : Result × State) : Option State := some (respond tag q.code r.1 [] r.2)
  match q with
  | .yardReset => some (yardReset tag s)
  | .lineReset => answer (.done, lineReset s)
  | .yardHold => answer (yardHold s)
  | .stop h => answer (stopHolder h s)
  | .isolate h => answer (isolateHolder h s)
  | _ => none

/-- A frame that REX discards because the response queue is full (11 R192). -/
def discardFrame (s : State) : State := s.modRex fun x => { x with discards := bump Config.maxCount x.discards }

/-- The response queue has no room for a frame's answer (11 R192). -/
def State.noRoom (s : State) : Bool := decide (Config.responseRoom ≤ s.rex.responses.length)

/-- A whole frame with a known code and a right length has arrived (11 R192). -/
def requestArrives (tag : Byte) (q : Request) (s : State) : State :=
  if s.noRoom then discardFrame s
  else match immediate tag q s with
    | some s => s
    | none => stackRequest tag q s

/-- A bad frame is counted (11 R191, R192). -/
def countBad (s : State) : State := s.modRex fun x => { x with badFrames := bump Config.maxCount x.badFrames }

/-- A byte of a frame, 0 where the frame did not reach it (11 R191). -/
def byteAt (bs : List Byte) (i : Nat) : Byte := (bs[i]?).getD 0

/-- A frame that the link receiver ended is judged (11 R191, R192). A frame that ABORT ends raises the abort count alone, also while
the response queue holds 4 or more (DESIGN CHOICE, log entry 43). -/
def judgeLink (f : FrameEnd) (s : State) : State :=
  match f with
  | .aborted => s.modRex fun x => { x with aborts := bump Config.maxCount x.aborts }
  | .bad bs =>
    let s := countBad s
    if s.noRoom then discardFrame s else respond (byteAt bs 0) (byteAt bs 1) .badFrame [] s
  | .whole body =>
    if s.noRoom then discardFrame s
    else match decodeRequest (byteAt body 1) (body.drop 4) with
      | some q => requestArrives (byteAt body 0) q s
      | none => respond (byteAt body 0) (byteAt body 1) .badFrame [] (countBad s)

/-- One byte arrives at LKRXD (11 R191). -/
def linkByte (s : State) (b : Byte) : State :=
  let (rx, ended) := linkForm.step s.rex.rx b
  let s := s.modRex fun x => { x with rx := rx }
  match ended with
  | some f => judgeLink f s
  | none => s

end Sys2Proof.Machine
end

