-- ==== Sys2Proof/Machine/Events.lean ====
section
/-! DEFINITION. The meanings of the commands that are no requests: the supply, bytes at the two ports, timers, replies, the
messages between blocks, the clock, and the ends of store accesses. -/

namespace Sys2Proof.Machine

/-! ### Supply -/

/-- POWER_ON: the release of RSTN (10 R183, R188). It acts whether or not the part ran. -/
def execPowerOn (batteryLow : Bool) (found : StateFlaw) (s : State) : Host.Outcome State Fault Refusal :=
  .next (powerOn batteryLow found s)

/-- SUPPLY_FAIL: VCC falls below the switch-over level (08 R164). -/
def execSupplyFail (s : State) : Host.Outcome State Fault Refusal := whenRunning s supplyFails

/-! ### Link -/

/-- LINK_FRAME: bytes arrive at LKRXD (11 R191, R192). -/
def execLinkFrame (bytes : List Byte) (s : State) : Host.Outcome State Fault Refusal :=
  whenRunning s fun s => bytes.foldl linkByte s

/-- RESPONSE_SENT: the END of the response being sent has gone out (11 R193). -/
def execResponseSent (s : State) : Host.Outcome State Fault Refusal := whenRunning s responseGone

/-! ### Outstation line -/

/-- POLL_SENT: the END of a poll has gone out and OLDIR falls (09 R165, R171). -/
def execPollSent (s : State) : Host.Outcome State Fault Refusal := whenRunning s pollGone

/-- LINE_FRAME_END: bytes arrive at OLRXD (09 R167, R171 to R173). -/
def execLineFrameEnd (bytes : List Byte) (s : State) : Host.Outcome State Fault Refusal :=
  whenRunning s fun s => bytes.foldl lineByte s

/-- REPLY_WAIT_EXPIRY: the reply wait runs out (09 R171). -/
def execReplyWaitExpiry (s : State) : Host.Outcome State Fault Refusal := whenRunning s waitExpires

/-- LINE_DEAD_NOTICE: REX takes OLC's word that the line is dead (10 R187). -/
def execLineDeadNotice (s : State) : Host.Outcome State Fault Refusal :=
  whenRunning s fun s => lineDies (s.taken .lineDeadNotice)

/-- LINE_ALIVE_NOTICE: REX takes OLC's word that the line is dead no longer; no mode changes (09 R178, 10 R187). -/
def execLineAliveNotice (s : State) : Host.Outcome State Fault Refusal := whenRunning s fun s => s.taken .lineAliveNotice

/-! ### Holders -/

/-- CROWN_REPLY: HOC takes a crown reply (02 R23). -/
def execCrownReply (holder : HolderId) (r : CrownReading) (s : State) : Host.Outcome State Fault Refusal :=
  whenRunning s fun s => crownReply holder r (s.taken (.crownReply holder r))

/-- MOVE_TIMER_EXPIRY: a move timer runs out (03 R47). -/
def execMoveTimerExpiry (holder : HolderId) (s : State) : Host.Outcome State Fault Refusal :=
  whenRunning s (moveTimerExpires holder)

/-- CROWN_SILENT_NOTICE: HOC is told that a crown entry is SILENT (02 R32). -/
def execCrownSilentNotice (holder : HolderId) (s : State) : Host.Outcome State Fault Refusal :=
  whenRunning s fun s => crownSilent holder (s.taken (.crownSilentNotice holder))

/-- AUTOMATIC_DRAW: HOC executes the automatic DRAW of DIC and answers it (03 R44). -/
def execAutomaticDraw (holder : HolderId) (district : DistrictId) (s : State) : Host.Outcome State Fault Refusal :=
  whenRunning s fun s => automaticDraw holder district (s.taken (.automaticDraw holder district))

/-! ### Districts -/

/-- AUTO_JOIN_ANSWER: DIC reads HOC's answer (04 R80). -/
def execAutoJoinAnswer (holder : HolderId) (district : DistrictId) (result : Result) (s : State) :
    Host.Outcome State Fault Refusal :=
  whenRunning s fun s => autoJoinAnswer holder district result (s.taken (.autoJoinAnswer holder district result))

/-- DIC takes a notice of HOC as its command tells (04 R75, R76, R82). -/
def takesNotice (m : Instr) (n : HolderNotice) (ends : DistrictId → Bool) (standing : Bool) (s : State) : State :=
  takeNotice m n ends standing (s.taken m)

/-- HOLDER_VALUES_NOTICE (04 R75). -/
def execHolderValuesNotice (n : HolderNotice) (s : State) : Host.Outcome State Fault Refusal :=
  whenRunning s (takesNotice (.holderValuesNotice n) n (fun _ => false) false)

/-- JOIN_PENDING_NOTICE (04 R76). -/
def execJoinPendingNotice (n : HolderNotice) (district : DistrictId) (s : State) : Host.Outcome State Fault Refusal :=
  whenRunning s (takesNotice (.joinPendingNotice n district) n (fun _ => false) false)

/-- JOIN_NOTICE: the holder joins the feed list, and the join move that gave the notice ends (04 R76, 03 R48). -/
def execJoinNotice (n : HolderNotice) (district : DistrictId) (s : State) : Host.Outcome State Fault Refusal :=
  whenRunning s fun s =>
    moveTaken n.holder (.join district) (takesNotice (.joinNotice n district) n (fun d => decide (d = district)) false s)

/-- LEAVE_NOTICE: the holder leaves its feed list, and the leave move that gave the notice ends (04 R76, 03 R48). -/
def execLeaveNotice (n : HolderNotice) (s : State) : Host.Outcome State Fault Refusal :=
  whenRunning s fun s => moveTaken n.holder .leave (takesNotice (.leaveNotice n) n (fun _ => false) false s)

/-- WITHDRAW_PENDING_NOTICE (04 R76). -/
def execWithdrawPendingNotice (n : HolderNotice) (district : DistrictId) (s : State) : Host.Outcome State Fault Refusal :=
  whenRunning s (takesNotice (.withdrawPendingNotice n district) n (fun d => decide (d = district)) false)

/-- REMOVE_NOTICE (04 R76). -/
def execRemoveNotice (n : HolderNotice) (s : State) : Host.Outcome State Fault Refusal :=
  whenRunning s (takesNotice (.removeNotice n) n (fun _ => true) false)

/-- STANDING_NOTICE (04 R82). -/
def execStandingNotice (n : HolderNotice) (s : State) : Host.Outcome State Fault Refusal :=
  whenRunning s (takesNotice (.standingNotice n) n (fun _ => false) true)

/-- MINUTE_EVENT: the minute changes, and DIC takes a minute event; while the main supply is absent the clock alone goes on (04
R67, R68). -/
def execMinuteEvent (s : State) : Host.Outcome State Fault Refusal :=
  whenRunning (s.modYard Yard.tickMinute) takeMinute

/-- GOVERNOR_REPLY (04 R73, R83). -/
def execGovernorReply (district : DistrictId) (r : GovernorReading) (s : State) : Host.Outcome State Fault Refusal :=
  whenRunning s fun s => governorReply district r (s.taken (.governorReply district r))

/-- TELLTALE_REPLY (04 R69). -/
def execTelltaleReply (district : DistrictId) (pressure : Nat) (s : State) : Host.Outcome State Fault Refusal :=
  whenRunning s fun s => telltaleReply district pressure (s.taken (.telltaleReply district pressure))

/-- GOVERNOR_SILENT_NOTICE (04 R74). -/
def execGovernorSilentNotice (district : DistrictId) (s : State) : Host.Outcome State Fault Refusal :=
  whenRunning s fun s => governorSilent district (s.taken (.governorSilentNotice district))

/-- TELLTALE_SILENT_NOTICE: the compensation and the low mark are held (04 R70). -/
def execTelltaleSilentNotice (district : DistrictId) (s : State) : Host.Outcome State Fault Refusal :=
  whenRunning s fun s => s.taken (.telltaleSilentNotice district)

/-! ### Yard and booking -/

/-- BAROMETER_REPLY (01 R3). -/
def execBarometerReply (value : Nat) (s : State) : Host.Outcome State Fault Refusal :=
  whenRunning s fun s => takeBarometer value (s.taken (.barometerReply value))

/-- METER_REPLY (06 R112, R115). -/
def execMeterReply (address : Nat) (r : MeterReading) (s : State) : Host.Outcome State Fault Refusal :=
  whenRunning s fun s => meterReply address r (s.taken (.meterReply address r))

/-! ### Ends of store accesses -/

/-- A store command: the flaws the world has made stand in the store whether or not the part runs, and then the access being
served ends (08 R154, R163). -/
def storeCommand (flaws : List Flaw) (s : State) (f : State → State) : Host.Outcome State Fault Refusal :=
  whenRunning (s.modRst fun r => r.addFlaws flaws) f

/-- A phase that awaits a table read of a walk. -/
def readsTable : Phase → Bool
  | .resolving w => match w.level with
    | .mainRead _ => true
    | .pointRead _ => true
    | _ => false
  | _ => false

/-- A phase that awaits a USED flag access of a walk. -/
def flagsUsed : Phase → Bool
  | .resolving w => match w.level with
    | .mainFlag _ _ => true
    | .leafFlag _ _ => true
    | _ => false
  | _ => false

/-- A phase that awaits its commit access. -/
def commits : Phase → Bool
  | .committing _ _ => true
  | _ => false

/-- A phase that awaits its BOOKED flag access. -/
def marks : Phase → Bool
  | .marking _ _ _ => true
  | _ => false

/-- The walk of the booking in hand goes on after its access. -/
def walkWork (g : Grant) (h : InHand) (s : State) : State :=
  match h.phase with
  | .resolving w => walkAccessEnds g h w s
  | _ => s

/-- The commit of the booking in hand. -/
def commitWork (g : Grant) (h : InHand) (s : State) : State :=
  match h.phase with
  | .committing r _ => commitEnds g h r s
  | _ => s

/-- The BOOKED marking of the booking in hand, which ends the cycle (06 R127) and stands before a BOOKED pass that has read the leaf's
table (07 R148). -/
def markWork (g : Grant) (h : InHand) (s : State) : State :=
  match h.phase with
  | .marking _ _ own => endCycle (standMark own (markBooked g own s))
  | _ => s

/-- WALK_TABLE_READ (05 R94). -/
def execWalkTableRead (flaws : List Flaw) (s : State) : Host.Outcome State Fault Refusal :=
  storeCommand flaws s (bookingAccessEnds readsTable walkWork)

/-- WALK_FLAG_ACCESS (05 R96). -/
def execWalkFlagAccess (flaws : List Flaw) (s : State) : Host.Outcome State Fault Refusal :=
  storeCommand flaws s (bookingAccessEnds flagsUsed walkWork)

/-- COMMIT_ACCESS (06 R123). -/
def execCommitAccess (flaws : List Flaw) (s : State) : Host.Outcome State Fault Refusal :=
  storeCommand flaws s (bookingAccessEnds commits commitWork)

/-- BOOKED_FLAG_ACCESS (06 R127). -/
def execBookedFlagAccess (flaws : List Flaw) (s : State) : Host.Outcome State Fault Refusal :=
  storeCommand flaws s (bookingAccessEnds marks markWork)

/-- DIRECTORY_ACCESS_END (05 R102). -/
def execDirectoryAccessEnd (flaws : List Flaw) (s : State) : Host.Outcome State Fault Refusal :=
  storeCommand flaws s (headAccessEnds fun w => match w with
    | .directory _ => true
    | _ => false)

/-- ACCOUNT_REQUEST_ACCESS (07 R135). -/
def execAccountRequestAccess (flaws : List Flaw) (s : State) : Host.Outcome State Fault Refusal :=
  storeCommand flaws s (headAccessEnds fun w => decide (w = .account))

/-- RETIRE_SCAN_READ (07 R140). -/
def execRetireScanRead (flaws : List Flaw) (s : State) : Host.Outcome State Fault Refusal :=
  storeCommand flaws s (headAccessEnds fun w => match w with
    | .retireScan _ => true
    | _ => false)

/-- RETIRE_FINAL_ACCESS (07 R140). -/
def execRetireFinalAccess (flaws : List Flaw) (s : State) : Host.Outcome State Fault Refusal :=
  storeCommand flaws s (headAccessEnds fun w => decide (w = .retireFinal))

/-- CLOSE_SCAN_ACCESS (07 R147). -/
def execCloseScanAccess (flaws : List Flaw) (s : State) : Host.Outcome State Fault Refusal :=
  storeCommand flaws s (headAccessEnds fun w => match w with
    | .closeScan _ _ => true
    | _ => false)

/-- BOOKED_PASS_ACCESS (07 R148). -/
def execBookedPassAccess (flaws : List Flaw) (s : State) : Host.Outcome State Fault Refusal :=
  storeCommand flaws s (headAccessEnds fun w => match w with
    | .closePass _ _ _ => true
    | _ => false)

/-- BALANCE_READ (07 R153). -/
def execBalanceRead (flaws : List Flaw) (s : State) : Host.Outcome State Fault Refusal :=
  storeCommand flaws s (headAccessEnds fun w => match w with
    | .balance _ _ => true
    | _ => false)

/-- LOOK_POINT_READ (05 R107). -/
def execLookPointRead (flaws : List Flaw) (s : State) : Host.Outcome State Fault Refusal :=
  storeCommand flaws s (headAccessEnds fun w => match w with
    | .lookPoint _ => true
    | _ => false)

/-- SCRUB_TIMER_EXPIRY (08 R161). -/
def execScrubTimerExpiry (s : State) : Host.Outcome State Fault Refusal := whenRunning s scrubTimerExpires

/-- SCRUB_CHECK (08 R161). -/
def execScrubCheck (flaws : List Flaw) (s : State) : Host.Outcome State Fault Refusal :=
  storeCommand flaws s fun s => match s.served .scrub with
    | some g => release (scrubEffect g s)
    | none => s

/-- RETIRE_CHECK_ACCESS (07 R139). -/
def execRetireCheckAccess (flaws : List Flaw) (s : State) : Host.Outcome State Fault Refusal :=
  storeCommand flaws s (headAccessEnds fun w => decide (w = .retireCheck))

end Sys2Proof.Machine
end

