-- ==== Sys2Proof/Machine/Requests.lean ====
section
/-! DEFINITION. The meanings of the request commands: each is the arrival of a whole request frame with its tag (11 R192), which
is discarded, answered at once or stacked, and executed at its start by the rule cited. -/

namespace Sys2Proof.Machine

/-! ### Immediate requests (11 R196) -/

/-- YARD_RESET: the request arrives (11 R196; 11 R192). -/
def execYardReset (tag : Byte) (s : State) : Host.Outcome State Fault Refusal :=
  whenRunning s (requestArrives tag .yardReset)

/-- LINE_RESET: the request arrives (09 R179; 11 R192). -/
def execLineReset (tag : Byte) (s : State) : Host.Outcome State Fault Refusal :=
  whenRunning s (requestArrives tag .lineReset)

/-- YARD_HOLD: the request arrives (10 R187; 11 R192). -/
def execYardHold (tag : Byte) (s : State) : Host.Outcome State Fault Refusal :=
  whenRunning s (requestArrives tag .yardHold)

/-- STOP: the request arrives (03 R56; 11 R192). -/
def execStop (tag : Byte) (holder : Nat) (s : State) : Host.Outcome State Fault Refusal :=
  whenRunning s (requestArrives tag (.stop holder))

/-- ISOLATE: the request arrives (03 R57; 11 R192). -/
def execIsolate (tag : Byte) (holder : Nat) (s : State) : Host.Outcome State Fault Refusal :=
  whenRunning s (requestArrives tag (.isolate holder))

/-! ### SETUP-ONLY requests -/

/-- SET_YARD: the request arrives (10 R182; 11 R192). -/
def execSetYard (tag : Byte) (f : YardSettings) (s : State) : Host.Outcome State Fault Refusal :=
  whenRunning s (requestArrives tag (.setYard f))

/-- SET_HOLDER: the request arrives (02 R19; 11 R192). -/
def execSetHolder (tag : Byte) (holder : Nat) (f : HolderSettings) (s : State) : Host.Outcome State Fault Refusal :=
  whenRunning s (requestArrives tag (.setHolder holder f))

/-- SET_DISTRICT_STATIONS: the request arrives (04 R63; 11 R192). -/
def execSetDistrictStations (tag : Byte) (district : Nat) (governor : Option Nat) (telltale : Option Nat) (s : State) :
    Host.Outcome State Fault Refusal :=
  whenRunning s (requestArrives tag (.setDistrictStations district governor telltale))

/-- SET_OUTSTATION: the request arrives (09 R169; 11 R192). -/
def execSetOutstation (tag : Byte) (address : Nat) (action : OutstationAction) (kind : Option EntryKind) (retry : Option Nat) (s : State) :
    Host.Outcome State Fault Refusal :=
  whenRunning s (requestArrives tag (.setOutstation address action kind retry))

/-- SET_CHANNEL: the request arrives (06 R111; 11 R192). -/
def execSetChannel (tag : Byte) (address : Nat) (channel : Nat) (enabled : Bool) (point : Nat) (constant : Nat) (limit : Nat) (s : State) :
    Host.Outcome State Fault Refusal :=
  whenRunning s (requestArrives tag (.setChannel address channel enabled point constant limit))

/-! ### Holder orders and RETURN -/

/-- ORDER: the request arrives (03 R40; 11 R192). -/
def execOrder (tag : Byte) (holder : Nat) (kind : OrderKind) (district : Option Nat) (quantity : Option Nat) (endAction : Option EndAction) (s : State) :
    Host.Outcome State Fault Refusal :=
  whenRunning s (requestArrives tag (.order holder kind district quantity endAction))

/-- REPEAT: the request arrives (03 R42; 11 R192). -/
def execRepeatOrder (tag : Byte) (holder : Nat) (s : State) : Host.Outcome State Fault Refusal :=
  whenRunning s (requestArrives tag (.repeatOrder holder))

/-- RETURN: the request arrives (03 R59; 11 R192). -/
def execReturnHolder (tag : Byte) (holder : Nat) (s : State) : Host.Outcome State Fault Refusal :=
  whenRunning s (requestArrives tag (.returnHolder holder))

/-! ### District requests -/

/-- SET_DISTRICT: the request arrives (04 R64; 11 R192). -/
def execSetDistrict (tag : Byte) (district : Nat) (f : DistrictSettings) (s : State) : Host.Outcome State Fault Refusal :=
  whenRunning s (requestArrives tag (.setDistrict district f))

/-- DISTRICT_IN: the request arrives (04 R86; 11 R192). -/
def execDistrictIn (tag : Byte) (district : Nat) (s : State) : Host.Outcome State Fault Refusal :=
  whenRunning s (requestArrives tag (.districtIn district))

/-- DISTRICT_OUT: the request arrives (04 R85; 11 R192). -/
def execDistrictOut (tag : Byte) (district : Nat) (s : State) : Host.Outcome State Fault Refusal :=
  whenRunning s (requestArrives tag (.districtOut district))

/-- DISTRICT_RESTORE: the request arrives (04 R84; 11 R192). -/
def execDistrictRestore (tag : Byte) (district : Nat) (s : State) : Host.Outcome State Fault Refusal :=
  whenRunning s (requestArrives tag (.districtRestore district))

/-- SET_CLOCK: the request arrives (04 R67; 11 R192). -/
def execSetClock (tag : Byte) (day : Nat) (minute : Nat) (s : State) : Host.Outcome State Fault Refusal :=
  whenRunning s (requestArrives tag (.setClock day minute))

/-! ### Directory requests -/

/-- MAP_POINT: the request arrives (05 R103; 11 R192). -/
def execMapPoint (tag : Byte) (point : Nat) (slot : Nat) (barred : Bool) (global : Bool) (s : State) :
    Host.Outcome State Fault Refusal :=
  whenRunning s (requestArrives tag (.mapPoint point slot barred global))

/-- LINK_POINT: the request arrives (05 R104; 11 R192). -/
def execLinkPoint (tag : Byte) (point : Nat) (target : Nat) (s : State) : Host.Outcome State Fault Refusal :=
  whenRunning s (requestArrives tag (.linkPoint point target))

/-- UNMAP_POINT: the request arrives (05 R105; 11 R192). -/
def execUnmapPoint (tag : Byte) (point : Nat) (s : State) : Host.Outcome State Fault Refusal :=
  whenRunning s (requestArrives tag (.unmapPoint point))

/-- BAR: the request arrives (05 R106; 11 R192). -/
def execBar (tag : Byte) (level : BarLevel) (point : Nat) (s : State) : Host.Outcome State Fault Refusal :=
  whenRunning s (requestArrives tag (.bar level point))

/-- UNBAR: the request arrives (05 R106; 11 R192). -/
def execUnbar (tag : Byte) (level : BarLevel) (point : Nat) (s : State) : Host.Outcome State Fault Refusal :=
  whenRunning s (requestArrives tag (.unbar level point))

/-- SET_ROUTE: the request arrives (05 R101; 11 R192). -/
def execSetRoute (tag : Byte) (route : Nat) (f : RouteSettings) (s : State) : Host.Outcome State Fault Refusal :=
  whenRunning s (requestArrives tag (.setRoute route f))

/-- LOOK_POINT: the request arrives (05 R107; 11 R192). -/
def execLookPoint (tag : Byte) (point : Nat) (clearBooked : Bool) (s : State) : Host.Outcome State Fault Refusal :=
  whenRunning s (requestArrives tag (.lookPoint point clearBooked))

/-! ### Account requests -/

/-- OPEN_ACCOUNT: the request arrives (07 R136; 11 R192). -/
def execOpenAccount (tag : Byte) (slot : Nat) (kind : AccountKind) (cv : Option Nat) (s : State) :
    Host.Outcome State Fault Refusal :=
  whenRunning s (requestArrives tag (.openAccount slot kind cv))

/-- CLOSE_ACCOUNT: the request arrives (07 R137; 11 R192). -/
def execCloseAccount (tag : Byte) (slot : Nat) (s : State) : Host.Outcome State Fault Refusal :=
  whenRunning s (requestArrives tag (.closeAccount slot))

/-- REOPEN_ACCOUNT: the request arrives (07 R138; 11 R192). -/
def execReopenAccount (tag : Byte) (slot : Nat) (s : State) : Host.Outcome State Fault Refusal :=
  whenRunning s (requestArrives tag (.reopenAccount slot))

/-- RETIRE_ACCOUNT: the request arrives (07 R139; 11 R192). -/
def execRetireAccount (tag : Byte) (slot : Nat) (s : State) : Host.Outcome State Fault Refusal :=
  whenRunning s (requestArrives tag (.retireAccount slot))

/-- RESTORE_ACCOUNT: the request arrives (07 R141; 11 R192). -/
def execRestoreAccount (tag : Byte) (slot : Nat) (c : AccountContents) (s : State) : Host.Outcome State Fault Refusal :=
  whenRunning s (requestArrives tag (.restoreAccount slot c))

/-- ADJUST: the request arrives (07 R142; 11 R192). -/
def execAdjust (tag : Byte) (source : Nat) (target : Nat) (cuft : Nat) (therms : Nat) (s : State) :
    Host.Outcome State Fault Refusal :=
  whenRunning s (requestArrives tag (.adjust source target cuft therms))

/-- CLOSE_PERIOD: the request arrives (07 R146; 11 R192). -/
def execClosePeriod (tag : Byte) (s : State) : Host.Outcome State Fault Refusal :=
  whenRunning s (requestArrives tag .closePeriod)

/-! ### Looks and attention -/

/-- LOOK_HOLDER: the request arrives (02 R35; 11 R192). -/
def execLookHolder (tag : Byte) (holder : Nat) (s : State) : Host.Outcome State Fault Refusal :=
  whenRunning s (requestArrives tag (.lookHolder holder))

/-- LOOK_DISTRICT: the request arrives (04 R87; 11 R192). -/
def execLookDistrict (tag : Byte) (district : Nat) (s : State) : Host.Outcome State Fault Refusal :=
  whenRunning s (requestArrives tag (.lookDistrict district))

/-- LOOK_ACCOUNT: the request arrives (07 R143; 11 R192). -/
def execLookAccount (tag : Byte) (slot : Nat) (s : State) : Host.Outcome State Fault Refusal :=
  whenRunning s (requestArrives tag (.lookAccount slot))

/-- LOOK_BALANCE: the request arrives (07 R153; 11 R192). -/
def execLookBalance (tag : Byte) (s : State) : Host.Outcome State Fault Refusal :=
  whenRunning s (requestArrives tag .lookBalance)

/-- LOOK_BOOKING_ENGINE: the request arrives (06 R131; 11 R192). -/
def execLookBookingEngine (tag : Byte) (s : State) : Host.Outcome State Fault Refusal :=
  whenRunning s (requestArrives tag .lookBookingEngine)

/-- LOOK_STORE: the request arrives (08 R160; 11 R192). -/
def execLookStore (tag : Byte) (s : State) : Host.Outcome State Fault Refusal :=
  whenRunning s (requestArrives tag .lookStore)

/-- LOOK_LINE: the request arrives (09 R177; 11 R192). -/
def execLookLine (tag : Byte) (address : Option Nat) (s : State) : Host.Outcome State Fault Refusal :=
  whenRunning s (requestArrives tag (.lookLine address))

/-- LOOK_YARD: the request arrives (10 R181; 11 R192). -/
def execLookYard (tag : Byte) (s : State) : Host.Outcome State Fault Refusal :=
  whenRunning s (requestArrives tag .lookYard)

/-- LOOK_LINK: the request arrives (11 R200; 11 R192). -/
def execLookLink (tag : Byte) (s : State) : Host.Outcome State Fault Refusal :=
  whenRunning s (requestArrives tag .lookLink)

/-- READ_ATTENTION: the request arrives (11 R198; 11 R192). -/
def execReadAttention (tag : Byte) (s : State) : Host.Outcome State Fault Refusal :=
  whenRunning s (requestArrives tag .readAttention)

/-- ACK: the request arrives (11 R199; 11 R192). -/
def execAck (tag : Byte) (source : Nat) (s : State) : Host.Outcome State Fault Refusal :=
  whenRunning s (requestArrives tag (.ack source))

/-! ### Modes -/

/-- WORK: the request arrives (10 R185; 11 R192). -/
def execWork (tag : Byte) (s : State) : Host.Outcome State Fault Refusal :=
  whenRunning s (requestArrives tag .work)

/-- SETUP: the request arrives (10 R186; 11 R192). -/
def execSetup (tag : Byte) (s : State) : Host.Outcome State Fault Refusal :=
  whenRunning s (requestArrives tag .setup)

/-- RESUME: the request arrives (10 R187; 11 R192). -/
def execResume (tag : Byte) (s : State) : Host.Outcome State Fault Refusal :=
  whenRunning s (requestArrives tag .resume)

end Sys2Proof.Machine
end

