-- ==== Sys2Proof/Machine/Dispatch.lean ====
section
/-! DEFINITION. One command: the meaning of each constructor of `Instr`, called directly. -/

namespace Sys2Proof.Machine

def exec (i : Instr) (s : State) : Host.Outcome State Fault Refusal :=
  match i with
  | .powerOn batteryLow found => Sys2Proof.Machine.execPowerOn batteryLow found s
  | .supplyFail => Sys2Proof.Machine.execSupplyFail s
  | .linkFrame bytes => Sys2Proof.Machine.execLinkFrame bytes s
  | .responseSent => Sys2Proof.Machine.execResponseSent s
  | .yardReset tag => Sys2Proof.Machine.execYardReset tag s
  | .lineReset tag => Sys2Proof.Machine.execLineReset tag s
  | .yardHold tag => Sys2Proof.Machine.execYardHold tag s
  | .stop tag holder => Sys2Proof.Machine.execStop tag holder s
  | .isolate tag holder => Sys2Proof.Machine.execIsolate tag holder s
  | .setYard tag f => Sys2Proof.Machine.execSetYard tag f s
  | .setHolder tag holder f => Sys2Proof.Machine.execSetHolder tag holder f s
  | .setDistrictStations tag district governor telltale => Sys2Proof.Machine.execSetDistrictStations tag district governor telltale s
  | .setOutstation tag address action kind retry => Sys2Proof.Machine.execSetOutstation tag address action kind retry s
  | .setChannel tag address channel enabled point constant limit => Sys2Proof.Machine.execSetChannel tag address channel enabled point constant limit s
  | .order tag holder kind district quantity endAction => Sys2Proof.Machine.execOrder tag holder kind district quantity endAction s
  | .repeatOrder tag holder => Sys2Proof.Machine.execRepeatOrder tag holder s
  | .returnHolder tag holder => Sys2Proof.Machine.execReturnHolder tag holder s
  | .setDistrict tag district f => Sys2Proof.Machine.execSetDistrict tag district f s
  | .districtIn tag district => Sys2Proof.Machine.execDistrictIn tag district s
  | .districtOut tag district => Sys2Proof.Machine.execDistrictOut tag district s
  | .districtRestore tag district => Sys2Proof.Machine.execDistrictRestore tag district s
  | .setClock tag day minute => Sys2Proof.Machine.execSetClock tag day minute s
  | .mapPoint tag point slot barred global => Sys2Proof.Machine.execMapPoint tag point slot barred global s
  | .linkPoint tag point target => Sys2Proof.Machine.execLinkPoint tag point target s
  | .unmapPoint tag point => Sys2Proof.Machine.execUnmapPoint tag point s
  | .bar tag level point => Sys2Proof.Machine.execBar tag level point s
  | .unbar tag level point => Sys2Proof.Machine.execUnbar tag level point s
  | .setRoute tag route f => Sys2Proof.Machine.execSetRoute tag route f s
  | .lookPoint tag point clearBooked => Sys2Proof.Machine.execLookPoint tag point clearBooked s
  | .openAccount tag slot kind cv => Sys2Proof.Machine.execOpenAccount tag slot kind cv s
  | .closeAccount tag slot => Sys2Proof.Machine.execCloseAccount tag slot s
  | .reopenAccount tag slot => Sys2Proof.Machine.execReopenAccount tag slot s
  | .retireAccount tag slot => Sys2Proof.Machine.execRetireAccount tag slot s
  | .restoreAccount tag slot c => Sys2Proof.Machine.execRestoreAccount tag slot c s
  | .adjust tag source target cuft therms => Sys2Proof.Machine.execAdjust tag source target cuft therms s
  | .closePeriod tag => Sys2Proof.Machine.execClosePeriod tag s
  | .lookHolder tag holder => Sys2Proof.Machine.execLookHolder tag holder s
  | .lookDistrict tag district => Sys2Proof.Machine.execLookDistrict tag district s
  | .lookAccount tag slot => Sys2Proof.Machine.execLookAccount tag slot s
  | .lookBalance tag => Sys2Proof.Machine.execLookBalance tag s
  | .lookBookingEngine tag => Sys2Proof.Machine.execLookBookingEngine tag s
  | .lookStore tag => Sys2Proof.Machine.execLookStore tag s
  | .lookLine tag address => Sys2Proof.Machine.execLookLine tag address s
  | .lookYard tag => Sys2Proof.Machine.execLookYard tag s
  | .lookLink tag => Sys2Proof.Machine.execLookLink tag s
  | .readAttention tag => Sys2Proof.Machine.execReadAttention tag s
  | .ack tag source => Sys2Proof.Machine.execAck tag source s
  | .work tag => Sys2Proof.Machine.execWork tag s
  | .setup tag => Sys2Proof.Machine.execSetup tag s
  | .resume tag => Sys2Proof.Machine.execResume tag s
  | .pollSent => Sys2Proof.Machine.execPollSent s
  | .lineFrameEnd bytes => Sys2Proof.Machine.execLineFrameEnd bytes s
  | .replyWaitExpiry => Sys2Proof.Machine.execReplyWaitExpiry s
  | .lineDeadNotice => Sys2Proof.Machine.execLineDeadNotice s
  | .lineAliveNotice => Sys2Proof.Machine.execLineAliveNotice s
  | .crownReply holder r => Sys2Proof.Machine.execCrownReply holder r s
  | .moveTimerExpiry holder => Sys2Proof.Machine.execMoveTimerExpiry holder s
  | .crownSilentNotice holder => Sys2Proof.Machine.execCrownSilentNotice holder s
  | .automaticDraw holder district => Sys2Proof.Machine.execAutomaticDraw holder district s
  | .autoJoinAnswer holder district result => Sys2Proof.Machine.execAutoJoinAnswer holder district result s
  | .holderValuesNotice n => Sys2Proof.Machine.execHolderValuesNotice n s
  | .joinPendingNotice n district => Sys2Proof.Machine.execJoinPendingNotice n district s
  | .joinNotice n district => Sys2Proof.Machine.execJoinNotice n district s
  | .leaveNotice n => Sys2Proof.Machine.execLeaveNotice n s
  | .withdrawPendingNotice n district => Sys2Proof.Machine.execWithdrawPendingNotice n district s
  | .removeNotice n => Sys2Proof.Machine.execRemoveNotice n s
  | .standingNotice n => Sys2Proof.Machine.execStandingNotice n s
  | .minuteEvent => Sys2Proof.Machine.execMinuteEvent s
  | .governorReply district r => Sys2Proof.Machine.execGovernorReply district r s
  | .telltaleReply district pressure => Sys2Proof.Machine.execTelltaleReply district pressure s
  | .governorSilentNotice district => Sys2Proof.Machine.execGovernorSilentNotice district s
  | .telltaleSilentNotice district => Sys2Proof.Machine.execTelltaleSilentNotice district s
  | .barometerReply value => Sys2Proof.Machine.execBarometerReply value s
  | .meterReply address r => Sys2Proof.Machine.execMeterReply address r s
  | .walkTableRead flaws => Sys2Proof.Machine.execWalkTableRead flaws s
  | .walkFlagAccess flaws => Sys2Proof.Machine.execWalkFlagAccess flaws s
  | .commitAccess flaws => Sys2Proof.Machine.execCommitAccess flaws s
  | .bookedFlagAccess flaws => Sys2Proof.Machine.execBookedFlagAccess flaws s
  | .directoryAccessEnd flaws => Sys2Proof.Machine.execDirectoryAccessEnd flaws s
  | .accountRequestAccess flaws => Sys2Proof.Machine.execAccountRequestAccess flaws s
  | .retireScanRead flaws => Sys2Proof.Machine.execRetireScanRead flaws s
  | .retireFinalAccess flaws => Sys2Proof.Machine.execRetireFinalAccess flaws s
  | .closeScanAccess flaws => Sys2Proof.Machine.execCloseScanAccess flaws s
  | .bookedPassAccess flaws => Sys2Proof.Machine.execBookedPassAccess flaws s
  | .balanceRead flaws => Sys2Proof.Machine.execBalanceRead flaws s
  | .lookPointRead flaws => Sys2Proof.Machine.execLookPointRead flaws s
  | .scrubTimerExpiry => Sys2Proof.Machine.execScrubTimerExpiry s
  | .scrubCheck flaws => Sys2Proof.Machine.execScrubCheck flaws s
  | .retireCheckAccess flaws => Sys2Proof.Machine.execRetireCheckAccess flaws s

end Sys2Proof.Machine
end

