-- ==== Sys2Proof/WellFormed.lean ====
section
/-! DEFINITION. Well-formed commands: every operand fits the bytes of its field (11 R201), the frame fits the link's greatest
length (11 R191), and what a reply or notice carries fits its payload (11, "Outstation frames"). -/

namespace Sys2Proof

open Machine

/-- The request a request command delivers, with its tag; none for the other commands. -/
def Instr.request : Instr → Option (Byte × Request)
  | .powerOn _ _ => none
  | .supplyFail => none
  | .linkFrame _ => none
  | .responseSent => none
  | .yardReset tag => some (tag, .yardReset)
  | .lineReset tag => some (tag, .lineReset)
  | .yardHold tag => some (tag, .yardHold)
  | .stop tag holder => some (tag, .stop holder)
  | .isolate tag holder => some (tag, .isolate holder)
  | .setYard tag f => some (tag, .setYard f)
  | .setHolder tag holder f => some (tag, .setHolder holder f)
  | .setDistrictStations tag district governor telltale => some (tag, .setDistrictStations district governor telltale)
  | .setOutstation tag address action kind retry => some (tag, .setOutstation address action kind retry)
  | .setChannel tag address channel enabled point constant limit => some (tag, .setChannel address channel enabled point constant limit)
  | .order tag holder kind district quantity endAction => some (tag, .order holder kind district quantity endAction)
  | .repeatOrder tag holder => some (tag, .repeatOrder holder)
  | .returnHolder tag holder => some (tag, .returnHolder holder)
  | .setDistrict tag district f => some (tag, .setDistrict district f)
  | .districtIn tag district => some (tag, .districtIn district)
  | .districtOut tag district => some (tag, .districtOut district)
  | .districtRestore tag district => some (tag, .districtRestore district)
  | .setClock tag day minute => some (tag, .setClock day minute)
  | .mapPoint tag point slot barred global => some (tag, .mapPoint point slot barred global)
  | .linkPoint tag point target => some (tag, .linkPoint point target)
  | .unmapPoint tag point => some (tag, .unmapPoint point)
  | .bar tag level point => some (tag, .bar level point)
  | .unbar tag level point => some (tag, .unbar level point)
  | .setRoute tag route f => some (tag, .setRoute route f)
  | .lookPoint tag point clearBooked => some (tag, .lookPoint point clearBooked)
  | .openAccount tag slot kind cv => some (tag, .openAccount slot kind cv)
  | .closeAccount tag slot => some (tag, .closeAccount slot)
  | .reopenAccount tag slot => some (tag, .reopenAccount slot)
  | .retireAccount tag slot => some (tag, .retireAccount slot)
  | .restoreAccount tag slot c => some (tag, .restoreAccount slot c)
  | .adjust tag source target cuft therms => some (tag, .adjust source target cuft therms)
  | .closePeriod tag => some (tag, .closePeriod)
  | .lookHolder tag holder => some (tag, .lookHolder holder)
  | .lookDistrict tag district => some (tag, .lookDistrict district)
  | .lookAccount tag slot => some (tag, .lookAccount slot)
  | .lookBalance tag => some (tag, .lookBalance)
  | .lookBookingEngine tag => some (tag, .lookBookingEngine)
  | .lookStore tag => some (tag, .lookStore)
  | .lookLine tag address => some (tag, .lookLine address)
  | .lookYard tag => some (tag, .lookYard)
  | .lookLink tag => some (tag, .lookLink)
  | .readAttention tag => some (tag, .readAttention)
  | .ack tag source => some (tag, .ack source)
  | .work tag => some (tag, .work)
  | .setup tag => some (tag, .setup)
  | .resume tag => some (tag, .resume)
  | .pollSent => none
  | .lineFrameEnd _ => none
  | .replyWaitExpiry => none
  | .lineDeadNotice => none
  | .lineAliveNotice => none
  | .crownReply _ _ => none
  | .moveTimerExpiry _ => none
  | .crownSilentNotice _ => none
  | .automaticDraw _ _ => none
  | .autoJoinAnswer _ _ _ => none
  | .holderValuesNotice _ => none
  | .joinPendingNotice _ _ => none
  | .joinNotice _ _ => none
  | .leaveNotice _ => none
  | .withdrawPendingNotice _ _ => none
  | .removeNotice _ => none
  | .standingNotice _ => none
  | .minuteEvent => none
  | .governorReply _ _ => none
  | .telltaleReply _ _ => none
  | .governorSilentNotice _ => none
  | .telltaleSilentNotice _ => none
  | .barometerReply _ => none
  | .meterReply _ _ => none
  | .walkTableRead _ => none
  | .walkFlagAccess _ => none
  | .commitAccess _ => none
  | .bookedFlagAccess _ => none
  | .directoryAccessEnd _ => none
  | .accountRequestAccess _ => none
  | .retireScanRead _ => none
  | .retireFinalAccess _ => none
  | .closeScanAccess _ => none
  | .bookedPassAccess _ => none
  | .balanceRead _ => none
  | .lookPointRead _ => none
  | .scrubTimerExpiry => none
  | .scrubCheck _ => none
  | .retireCheckAccess _ => none

/-- A field's value fits its bytes (11 R201). -/
def Machine.Field.fits : Field → Bool
  | .num w v => decide (v < 256 ^ w)
  | .int w v => decide (-(128 * 256 ^ (w - 1) : Int) ≤ v) && decide (v < (128 * 256 ^ (w - 1) : Int))
  | .choice i => decide (i < 256)
  | .flag _ => true
  | .presence _ => true
  | .count n => decide (n < 256)

/-- A request that a frame can carry: every field fits, and the fields together fit a frame (11 R191, R201). -/
def Request.wellFormed (r : Request) : Bool :=
  match r with
  | .outOfRange _ => false
  | r => r.fields.all Field.fits && decide ((fieldBytes r.fields).length ≤ 128)

/-- A temperature or count that fits two bytes (11, "Outstation frames"). -/
def fits16 (n : Nat) : Bool := decide (n < 65536)

/-- A temperature that fits two bytes in two's complement. -/
def fitsInt16 (t : Int) : Bool := decide (-32768 ≤ t) && decide (t < 32768)

/-- A crown reading that a reply can carry. -/
def CrownReading.wellFormed (r : CrownReading) : Bool := fits16 r.height && fitsInt16 r.temp

/-- A meter reading that a reply can carry. -/
def MeterReading.wellFormed (r : MeterReading) : Bool := fits16 r.pressure && fitsInt16 r.temp && r.counts.toList.all fits16

/-- A governor reading that a reply can carry: an echo of 00h is none. -/
def GovernorReading.wellFormed (r : GovernorReading) : Bool := fits16 r.outlet && ((r.echo.map fun e => within 1 255 e).getD true)

/-- A notice whose stage pressure is one a lift can give (01 R2). -/
def HolderNotice.wellFormed (n : HolderNotice) : Bool := within 0 600 n.stagePressure

/-- Flaws in slots that exist (08 R154). -/
def flawsWellFormed (fs : List Flaw) : Bool := fs.all fun f => decide (f.slot < Config.slots)

/-- A command with its operands in range. -/
def Instr.wellFormed (i : Instr) : Bool :=
  match i.request with
  | some (_, r) => r.wellFormed
  | none => match i with
    | .crownReply _ r => r.wellFormed
    | .holderValuesNotice n => n.wellFormed
    | .joinPendingNotice n _ => n.wellFormed
    | .joinNotice n _ => n.wellFormed
    | .leaveNotice n => n.wellFormed
    | .withdrawPendingNotice n _ => n.wellFormed
    | .removeNotice n => n.wellFormed
    | .standingNotice n => n.wellFormed
    | .governorReply _ r => r.wellFormed
    | .telltaleReply _ p => fits16 p
    | .barometerReply v => fits16 v
    | .meterReply a r => within 1 62 a && r.wellFormed
    | .walkTableRead flaws => flawsWellFormed flaws
    | .walkFlagAccess flaws => flawsWellFormed flaws
    | .commitAccess flaws => flawsWellFormed flaws
    | .bookedFlagAccess flaws => flawsWellFormed flaws
    | .directoryAccessEnd flaws => flawsWellFormed flaws
    | .accountRequestAccess flaws => flawsWellFormed flaws
    | .retireScanRead flaws => flawsWellFormed flaws
    | .retireFinalAccess flaws => flawsWellFormed flaws
    | .closeScanAccess flaws => flawsWellFormed flaws
    | .bookedPassAccess flaws => flawsWellFormed flaws
    | .balanceRead flaws => flawsWellFormed flaws
    | .lookPointRead flaws => flawsWellFormed flaws
    | .scrubCheck flaws => flawsWellFormed flaws
    | .retireCheckAccess flaws => flawsWellFormed flaws
    | _ => true

end Sys2Proof
end

