-- ==== Sys2Proof/Safety.lean ====
section
/-! DEFINITION. What counts as a safe run, in the terms the claims use: a step that answers, a part that is ready for a request,
the invariants of the queues, the stores, the order stacks, the loadings, the clock and the poll list, and a store access about
to end, what a limit, an attempt to join and a resolution do, a run of commands, the forms of answers, and what a reset leaves. -/

namespace Sys2Proof.Safety

open Sys2Proof.Machine

/-- A command completes: it answers the given next state. -/
def Gives (i : Instr) (s t : State) : Prop := exec i s = .next t

/-- The part runs and a request frame that arrives is taken: the response queue has room (11 R192). -/
abbrev Takes (s : State) : Prop := s.running = true ∧ s.rex.responses.length < Config.responseRoom

/-- The part takes a request and its stack is empty, so that a stacked request starts at its arrival (11 R194). -/
abbrev Ready (s : State) : Prop := Takes s ∧ s.rex.stack = [] ∧ s.rex.work = none

/-- A state with one more response at the end of the response queue (11 R193). -/
def withResponse (s : State) (tag code : Byte) (result : Result) (fields : List Field) : State :=
  { s with rex := { s.rex with responses := s.rex.responses ++ [⟨tag, code, result, fields⟩] } }

/-- The state once a request has become the head and awaits its first store access at an idle arbiter, which grants it at once
(11 R194, 08 R163). -/
def startedHead (s : State) (tag : Byte) (q : Request) (w : HeadWork) : State :=
  { s with
    rex := { s.rex with stack := [⟨tag, q, true⟩], work := some w }
    rst := { s.rst with arbiter :=
      { s.rst.arbiter with
        serving := some ⟨.rex, s.yard.period, s.yard.barometer, s.yard.declaredCv, s.bke.staleCommit⟩
        rexWaits := false
        count := 0 } } }

/-- The arbiter is idle: it serves none and none waits (08 R163). -/
abbrev StoreIdle (s : State) : Prop :=
  s.rst.arbiter.serving = none ∧ s.rst.arbiter.bkeWaits = false ∧ s.rst.arbiter.rexWaits = false
    ∧ s.rst.arbiter.scrubWaits = false

/-- The state once the access being served has ended with none waiting (08 R163). -/
def storeFree (s : State) : State :=
  { s with rst := { s.rst with arbiter := { s.rst.arbiter with serving := none } } }

/-- A requester's access is being served and no other waits (08 R163). -/
abbrev Serves (s : State) (g : Grant) (q : Requester) : Prop :=
  s.running = true ∧ s.rst.arbiter.serving = some g ∧ g.requester = q ∧ s.rst.arbiter.bkeWaits = false
    ∧ s.rst.arbiter.rexWaits = false ∧ s.rst.arbiter.scrubWaits = false

/-- A lone started head awaits an access of the given work, which is being served (11 R194). -/
abbrev HeadAwaits (s : State) (g : Grant) (tag : Byte) (q : Request) (w : HeadWork) : Prop :=
  Serves s g .rex ∧ s.rex.stack = [⟨tag, q, true⟩] ∧ s.rex.work = some w

/-- A slot that a read finds clean (08 R155). -/
abbrev Clean (s : State) (slot : Nat) : Prop := s.rst.isDamaged slot = false ∧ s.rst.flawsOf slot = 0

/-- The state once a read has corrected the one flawed word of slot `n`, counted and latched (08 R155, R160). -/
def slotCorrected (s : State) (n : Nat) : State :=
  { s with rst := { s.rst with
      flaws := writeAt 0 s.rst.flaws n 0, corrected := bump 65535 s.rst.corrected, lastCorrected := some n, correctedLatch := some n } }

/-- A read of slot `n` finds contents and leaves `x`: the slot is clean, or its one flawed word is corrected (08 R155). -/
abbrev ReadsAs (s : State) (n : Nat) (x : State) : Prop :=
  s.rst.isDamaged n = false ∧ ((s.rst.flawsOf n = 0 ∧ x = s) ∨ (s.rst.flawsOf n = 1 ∧ x = slotCorrected s n))

/-- A read of slot `n` finds contents: no word is flawed, or the one that is can be corrected (08 R155). -/
abbrev Readable (s : State) (n : Nat) : Prop := s.rst.isDamaged n = false ∧ s.rst.flawsOf n ≤ 1

/-- A read of slot `n` finds a flaw it cannot correct (08 R155). -/
abbrev Uncorrectable (s : State) (n : Nat) : Prop := s.rst.isDamaged n = false ∧ 2 ≤ s.rst.flawsOf n

/-- The state once a read, not the walk's own, has found a flaw it cannot correct in a slot other than the suspense account's: it is
counted, latched and marked damaged; of a table the booking cache is flushed besides, and the walk in flight or the resolution held
marked stale (05 R108, 08 R157, R158). -/
def slotDamaged (s : State) (n : Nat) : State :=
  { s with
    rst := { s.rst with
      damaged := writeAt false s.rst.damaged n true
      damagedReads := bump 65535 s.rst.damagedReads
      lastDamaged := some n
      damagedLatch := some ⟨n, (s.rst.damagedLatch.map (·.reads)).getD 0 + 1⟩ }
    bke := if n ≤ 255 then s.bke else { s.bke with
      cache := []
      inHand := s.bke.inHand.map fun h => { h with phase := match h.phase with
        | .resolving w => .resolving { w with stale := true }
        | .committing (some x) _ => .committing (some x) true
        | p => p } } }

/-- An account with nothing in its current totals (07 R139). -/
abbrev NoTotals (a : Account) : Prop := a.volume = 0 ∧ a.volumeRes = 0 ∧ a.heat = 0 ∧ a.heatRes = 0

/-- The state once a lone head is answered at the end of its last access: its response is queued, the stack is empty and the
arbiter is idle (11 R194). -/
def headAnswered (s : State) (tag : Byte) (q : Request) (result : Result) (fields : List Field) : State :=
  { s with
    rex := { s.rex with stack := [], work := none, responses := s.rex.responses ++ [⟨tag, q.code, result, fields⟩] }
    rst := { s.rst with arbiter := { s.rst.arbiter with serving := none } } }

/-- The state once a lone head's access has ended and its next has been granted (11 R194, 08 R163). -/
def headContinues (s : State) (w : HeadWork) : State :=
  { s with
    rex := { s.rex with work := some w }
    rst := { s.rst with arbiter :=
      { s.rst.arbiter with
        serving := some ⟨.rex, s.yard.period, s.yard.barometer, s.yard.declaredCv, s.bke.staleCommit⟩
        count := 0 } } }

/-- The state once the last access of a lone request has ended, with the store the request has left: the arbiter is idle, and its
booking-grant count is 0 after REX's grants (08 R163). -/
def accessesDone (s : State) (r : Rst) : State :=
  { s with rst := { r with arbiter := { s.rst.arbiter with serving := none, count := 0 } } }

/-- As `accessesDone`, for a directory change request, which flushes the booking cache as it completes (05 R102). -/
def changeDone (s : State) (r : Rst) : State :=
  { accessesDone s r with bke := { s.bke with cache := [] } }

/-- The store once a point table has been allocated beneath a descriptor of a main table, with the leaves given and the free list
left: its slot is clean, and it is provisional no longer (05 R91, R103, 08 R159). -/
def withPointTable (r : Rst) (pt main index : Nat) (leaves : Sparse Leaf) (left : List Nat) : Rst :=
  { r with
    points := writeAt [] r.points pt leaves, freePoints := left
    pointAlloc := writeAt none r.pointAlloc pt (some ⟨main, index, false⟩)
    flaws := writeAt 0 r.flaws (pointSlot pt) 0, damaged := writeAt false r.damaged (pointSlot pt) false }

/-- As `withPointTable`, for a main table beneath the root of a district. -/
def withMainTable (r : Rst) (mt : Nat) (d : DistrictId) (descs : Sparse Desc) (left : List Nat) : Rst :=
  { r with
    mains := writeAt [] r.mains mt descs, freeMains := left, mainAlloc := writeAt none r.mainAlloc mt (some ⟨d, false⟩)
    flaws := writeAt 0 r.flaws (mainSlot mt) 0, damaged := writeAt false r.damaged (mainSlot mt) false }

/-- A meter point's own path is sound down to its point table: the root names main table `m`, whose descriptor names point table
`pt`, and both tables read clean (05 R94, 08 R155). -/
abbrev SoundPath (s : State) (p m pt : Nat) : Prop :=
  (s.district (pointDistrict p)).root.table = some m ∧ Clean s (mainSlot m) ∧ (s.rst.desc m (mainIndex p)).table = some pt
    ∧ Clean s (pointSlot pt)

/-- The state once the BOOKED pass of a close has come to its end with the given sums: the stock change between the two starts of
period priced at the declared CV, the unaccounted figures, both marks cleared, and PERIOD-CLOSED latched with the period (07 R149,
R152). -/
def closeFinished (s : State) (m : Sums) : State :=
  let stocks : Int := (s.balance.startStocks.toList.sum : Nat) - ((s.balance.prevStocks.toList.sum : Nat) : Int)
  let therms : Int := (stocks * s.yard.declaredCv + 50000) / 100000
  { s with
    balance := { s.balance with
      previous := m
      stockChange := ⟨stocks, therms⟩
      unaccounted := ⟨(m.receipts.cuft : Int) - m.sendOut.cuft - m.worksUse.cuft - stocks,
        (m.receipts.therms : Int) - m.sendOut.therms - m.worksUse.therms - therms⟩
      unfinished := false }
    yard := { s.yard with closeUnfinished := false, periodClosed := some s.yard.period } }

/-- The state once BKE's access has ended with no other waiting and its next has been granted: the booking in hand in a phase, and the
booking-grant count up to the booking share (06 R118, 08 R163). -/
def bookingContinues (s : State) (h : InHand) (p : Phase) : State :=
  { s with
    bke := { s.bke with inHand := some { h with phase := p } }
    rst := { s.rst with arbiter := { s.rst.arbiter with
      serving := some ⟨.bke, s.yard.period, s.yard.barometer, s.yard.declaredCv, false⟩
      count := bump s.yard.bookingShare s.rst.arbiter.count } } }

/-- The state once BKE has resolved a booking with no other access waiting: by the first direct route that names its point, by the
cache, whose entry becomes the most recent, or by a walk that starts at the root of its district (05 R94, R96, R100, 06 R119, R120). -/
def resolvedTo (s : State) (h : InHand) : State :=
  let names (f : RouteSettings) : Bool := f.enabled && decide (f.low ≤ h.point) && decide (h.point ≤ f.high) && f.slot.isSome
  let byRoute (f : RouteSettings) : State :=
    bookingContinues s h (.committing (some (.account (f.slot.getD 0) f.barred false .route)) false)
  let d := pointDistrict h.point
  if names s.bke.routes[0] then byRoute s.bke.routes[0]
  else if names s.bke.routes[1] then byRoute s.bke.routes[1]
  else match s.bke.cache.find? fun e => decide (e.point = h.point) with
    | some e => bookingContinues
        { s with bke := { s.bke with cache := e :: (s.bke.cache.filter fun x => decide (x.point ≠ h.point)).take 15 } } h
        (.committing (some (.account e.slot e.barred e.global .cache)) false)
    | none => match (s.district d).root.table with
      | none => bookingContinues s h (.committing (some (.noRoute .invalidRoot)) false)
      | some t => bookingContinues (s.modDistrict d fun r => { r with root := { r.root with used := true } }) h
          (.resolving ⟨h.point, .mainRead t, (s.district d).root.barred, none, none, false⟩)

/-- An account can take a booking's volume and heat (01 R9 to R11). -/
abbrev RoomFor (a : Account) (dv cv : Nat) : Prop :=
  (a.volume * 65536 + a.volumeRes + dv) / 65536 ≤ 1099511627775 ∧ a.heat + (a.heatRes + dv * cv) / 6553600000 ≤ 4294967295

/-- An account with a booking added: volume and heat with their residues, and the counts (06 R125, 01 R8 to R11). -/
def withBooking (a : Account) (clamped : Bool) (dv cv : Nat) : Account :=
  { a with
    volume := (a.volume * 65536 + a.volumeRes + dv) / 65536
    volumeRes := (a.volume * 65536 + a.volumeRes + dv) % 65536
    heat := a.heat + (a.heatRes + dv * cv) / 6553600000
    heatRes := (a.heatRes + dv * cv) % 6553600000
    bookings := bump 4294967295 a.bookings
    clampedBookings := if clamped then bump 4294967295 a.clampedBookings else a.clampedBookings }

/-! ### Heights and limits -/

/-- The position that a valve's open and closed limit switches prove (02 R29). -/
def provedBy (isOpen isClosed : Bool) : Proved :=
  if isOpen then if isClosed then .conflict else .opened else if isClosed then .closed else .moving

/-- The inlet is proved at its intent (02 R30). -/
abbrev InletAt (r : Holder) : Prop := r.provedInlet = if r.inletIntent = .opened then .opened else .closed

/-- The outlet is proved at its intent (02 R30). -/
abbrev OutletAt (r : Holder) : Prop := r.provedOutlet = if r.outletIntent = .opened then .opened else .closed

/-- Two heights lie within a step of each other (02 R25). -/
abbrev WithinStep (step a b : Nat) : Prop := a ≤ b + step ∧ b ≤ a + step

/-- The height in use and the jump candidate after a reply in every state but RECOVERING (02 R25 to R27): the landing switch forces 0; a
plausible reading is taken; an implausible one becomes, or carries on, the candidate, and the third in a row is taken and latched. -/
def TakesHeight (r : Holder) (c : CrownReading) (x : Holder) : Prop :=
  ∃ reading, reading = min c.height (totalStroke r.lifts)
    ∧ ((c.landing = true ∧ x = { r with height := 0, jump := none })
      ∨ (c.landing = false ∧ WithinStep r.maxStep reading r.height ∧ x = { r with height := reading, jump := none })
      ∨ (c.landing = false ∧ ¬ WithinStep r.maxStep reading r.height ∧ r.jump = none ∧ x = { r with jump := some ⟨reading, 1⟩ })
      ∨ (∃ j, c.landing = false ∧ ¬ WithinStep r.maxStep reading r.height ∧ r.jump = some j
        ∧ ((¬ WithinStep r.maxStep reading j.height ∧ x = { r with jump := some ⟨reading, 1⟩ })
          ∨ (WithinStep r.maxStep reading j.height ∧ j.count < 2 ∧ x = { r with jump := some ⟨reading, j.count + 1⟩ })
          ∨ (WithinStep r.maxStep reading j.height ∧ 2 ≤ j.count
            ∧ x = { r with height := reading, jump := none, latches := { r.latches with crownJump := true } }))))

/-- What a limit end makes of a holder's orders (03 R50, R52, R54, R55): with no ACTIVE order the holder is as `idle` says; an ACTIVE
order, open-ended or a quantity order being tracked short of its quantity, ends SHORT with its remainder kept, and a NEXT order becomes
ACTIVE and waits (log entry 27). `r` is the holder before the reply, `x` as the reading has left it. -/
def LimitEnded (r x idle y : Holder) : Prop :=
  (r.active = none ∧ r.startStock = none ∧ y = idle)
    ∨ (∃ o, r.active = some o ∧ o.quantity = none ∧ r.startStock = none
      ∧ y = { x with
          active := r.next, next := none, activationWaits := r.next.isSome
          remainder := r.remainder.orElse fun _ => r.next.bind (·.quantity)
          latches := { x.latches with orderShort := true } })
    ∨ (∃ o q start left, r.active = some o ∧ o.quantity = some q ∧ r.startStock = some start ∧ r.activationWaits = false
      ∧ left = q - (if o.kind = .fill then x.stock - start else start - x.stock) ∧ left ≠ 0
      ∧ y = { x with
          active := r.next, next := none, activationWaits := r.next.isSome, remainder := some left
          latches := { x.latches with orderShort := true } })

/-- A holder that an automatic join for a district may take (04 R80). -/
abbrev Candidate (s : State) (required : Nat) (h : HolderId) : Prop :=
  (s.holder h).state = .standing ∧ (s.holder h).answering = true
    ∧ (∀ e : DistrictId, h ∉ (s.district e).feeds ∧ h ∉ (s.district e).pendingJoins)
    ∧ (s.holder h).active = none ∧ (s.holder h).next = none ∧ required ≤ (s.holder h).stagePressure

/-- An occasion for an automatic join makes an attempt (04 R79). -/
abbrev Attempts (s : State) (d : DistrictId) : Prop :=
  ((s.district d).state = .short ∨ (s.district d).state = .starved) ∧ s.yard.mode = .working ∧ (s.district d).autoJoin = true
    ∧ (s.district d).joinInHand = none

/-- The valve drive of a change-over's move in flight, if that move drives a valve (03 R46). -/
def driveInFlight (r : Holder) : Option Drive :=
  match r.changeOver with
  | none => none
  | some c =>
    if c.started = false then none
    else match c.moves[c.step]? with
      | some .openInlet => some .inletOpen
      | some .closeInlet => some .inletClosed
      | some .openOutlet => some .outletOpen
      | some .closeOutlet => some .outletClosed
      | _ => none

/-! ### Runs of commands -/

/-- A reading that its reply frame can carry (11, "Outstation frames"). -/
def readingFits : Reading → Bool
  | .crown r => r.wellFormed
  | .meter r => r.wellFormed
  | .governor r => r.wellFormed
  | .telltale p => decide (p < 65536)
  | .barometer b => decide (b < 65536)

/-- Commands one after another, stopping at the first that does not answer a next state. -/
def after : List Instr → State → Host.Outcome State Fault Refusal
  | [], s => .next s
  | c :: cs, s =>
    match exec c s with
    | .next t => after cs t
    | .fault r => .fault r
    | .refused r => .refused r

/-- The flaws a store command carries; none for the other commands (08 R154). -/
def storeFlaws : Instr → Option (List Flaw)
  | .walkTableRead flaws => some flaws
  | .walkFlagAccess flaws => some flaws
  | .commitAccess flaws => some flaws
  | .bookedFlagAccess flaws => some flaws
  | .directoryAccessEnd flaws => some flaws
  | .accountRequestAccess flaws => some flaws
  | .retireScanRead flaws => some flaws
  | .retireFinalAccess flaws => some flaws
  | .closeScanAccess flaws => some flaws
  | .bookedPassAccess flaws => some flaws
  | .balanceRead flaws => some flaws
  | .lookPointRead flaws => some flaws
  | .scrubCheck flaws => some flaws
  | .retireCheckAccess flaws => some flaws
  | _ => none

/-- The command by which the access that a head's account work awaits ends (07 R135, R139, R140, R147, R148, R153); none for the
directory requests and LOOK-POINT. -/
def accountCommand : HeadWork → Option Instr
  | .account => some (.accountRequestAccess [])
  | .retireCheck => some (.retireCheckAccess [])
  | .retireScan _ => some (.retireScanRead [])
  | .retireFinal => some (.retireFinalAccess [])
  | .closeScan _ _ => some (.closeScanAccess [])
  | .closePass _ _ _ => some (.bookedPassAccess [])
  | .balance _ _ => some (.balanceRead [])
  | .lookPoint _ => none
  | .directory _ => none

/-- The joins that hold a place in a district: its pending joins, and the change-overs that aim at it and have not joined it (03
R41, R48). -/
def joinsHeld (s : State) (d : DistrictId) : Nat :=
  (holderIds.filter fun g => decide (g ∈ (s.district d).pendingJoins)
    || (decide ((((s.holder g).changeOver.map (·.moves)).getD []).findSome? Move.district = some d)
      && decide (g ∉ (s.district d).feeds))).length

/-- The state that the feeds of a district in service give it, by what DIC has been told of the holders (04 R78). -/
def stateOfFeeds (view : HolderId → View) (feeds : List HolderId) (required available : Nat) : DistrictState :=
  if feeds.all (fun h => !(view h).answering) then .starved else if required ≤ available then .serving else .short

/-- A district after its schedule has been judged: the loading, the required pressure, the loading in flight with its pending command,
and the state follow a changed set-point, and stand where it has not changed (04 R68, R71, R72, R78). -/
def ScheduleFollowed (s t : State) (d : DistrictId) : Prop :=
  let r := s.district d
  let u := t.district d
  (u.setPoint = r.setPoint → u.loading = r.loading ∧ u.required = r.required ∧ u.inFlight = r.inFlight ∧ u.state = r.state
    ∧ t.governorEntry d = s.governorEntry d)
  ∧ (u.setPoint ≠ r.setPoint →
    u.loading = clampTo r.floor r.ceiling (u.setPoint + r.comp) ∧ u.required = u.loading + r.drop
    ∧ (r.state.inService = true → u.loading ≠ r.loading → u.inFlight = some u.loading
      ∧ t.governorEntry d = (s.governorEntry d).map fun e => { e with command := some (.loading u.loading) })
    ∧ ((r.state.inService = false ∨ u.loading = r.loading) → u.inFlight = r.inFlight ∧ t.governorEntry d = s.governorEntry d)
    ∧ (r.state.inService = true → u.required ≠ r.required → u.state = stateOfFeeds s.view r.feeds u.required r.available)
    ∧ ((r.state.inService = false ∨ u.required = r.required) → u.state = r.state))

/-- A request that acts on its arrival and is never stacked (11 R196). -/
def isImmediate : Request → Bool
  | .yardReset => true
  | .lineReset => true
  | .yardHold => true
  | .stop _ => true
  | .isolate _ => true
  | _ => false

/-! ### Invariants -/

/-- The booking queue and cache (06 R114, R120): at most 16 entries each, the queue never two for one channel, the cache none
for one point twice. -/
def queueSound (b : Bke) : Bool :=
  decide (b.queue.length ≤ Config.maxQueue) && decide (b.queue.map fun q => (q.address, q.channel)).Nodup
    && decide (b.cache.length ≤ Config.maxCache) && decide (b.cache.map (·.point)).Nodup

/-- The link's bounds (11 R193, R194): at most two requests stacked and at most six responses queued, the answers still to come
counted. -/
def linkSound (x : Rex) : Bool :=
  decide (x.stack.length ≤ Config.maxStack) && decide (x.responses.length + x.stack.length ≤ 6)

/-- The sparse stores in canonical form: numbers rising, no blank record listed. -/
def storesSound (r : Rst) : Bool :=
  canonical Account.free r.accounts && canonical [] r.mains && r.mains.all (fun p => canonical Desc.invalid p.2)
    && canonical [] r.points && r.points.all (fun p => canonical Leaf.invalid p.2) && canonical 0 r.flaws
    && canonical false r.damaged && canonical none r.mainAlloc && canonical none r.pointAlloc

/-- Every holder's order stack (03 R40): a NEXT order only while there is an ACTIVE one. -/
def ordersSound (hs : Vector Holder 6) : Bool := holderIds.all fun h => hs[h].next.isNone || hs[h].active.isSome

/-- A district's loading (04 R71, R72): between floor and ceiling, the required pressure the drop above it, and a loading in
flight only in service and equal to it. -/
def loadingSound (r : District) : Bool :=
  decide (r.floor ≤ r.ceiling) && within r.floor r.ceiling r.loading && decide (r.required = r.loading + r.drop)
    && (match r.inFlight with
        | some l => decide (l = r.loading) && r.state.inService
        | none => true)

/-- Every district's loading is sound. -/
def loadingsSound (ds : Vector District 8) : Bool := districtIds.all fun d => loadingSound ds[d]

/-- The yard clock's minute is one of the day (04 R67). -/
def clockSound (y : Yard) : Bool := decide (y.minute ≤ 1439)

/-- The poll list (09 R168): at most 48 entries, no two with one address. -/
def pollSound (l : Line) : Bool :=
  decide (l.entries.length ≤ Config.maxEntries) && decide (l.entries.map (·.address)).Nodup

/-- A queue of commands all well-formed. -/
def pendingSound (s : State) : Bool := s.pending.all Instr.wellFormed

/-! ### Turns on the line -/

/-- The entry at place `i` of the poll list is the first of its class, fast or ordinary, that follows the class's position in list order,
wrapping to the head (09 R170). -/
def FollowsIn (l : Line) (fast : Bool) (pos i : Nat) : Prop :=
  (∃ e, l.entries[i]? = some e ∧ e.fast = fast)
    ∧ ((pos ≤ i ∧ ∀ j e, pos ≤ j → j < i → l.entries[j]? = some e → e.fast ≠ fast)
      ∨ (i < pos ∧ (∀ j e, pos ≤ j → l.entries[j]? = some e → e.fast ≠ fast)
        ∧ ∀ j e, j < i → l.entries[j]? = some e → e.fast ≠ fast))

/-- The next turn is one of the fast or the ordinary class, and the ordinary-turn count becomes `count` (the table of 09 R170). -/
def ClassChosen (share : Nat) (l : Line) (fast : Bool) (count : Nat) : Prop :=
  ((∃ e ∈ l.entries, e.fast = false) ∧ (∀ e ∈ l.entries, e.fast = false) ∧ fast = false ∧ count = l.turnCount)
    ∨ ((∃ e ∈ l.entries, e.fast = true) ∧ (∀ e ∈ l.entries, e.fast = true) ∧ fast = true ∧ count = l.turnCount)
    ∨ ((∃ e ∈ l.entries, e.fast = false) ∧ (∃ e ∈ l.entries, e.fast = true) ∧ l.turnCount < share ∧ fast = false
      ∧ count = l.turnCount + 1)
    ∨ ((∃ e ∈ l.entries, e.fast = false) ∧ (∃ e ∈ l.entries, e.fast = true) ∧ share ≤ l.turnCount ∧ fast = true ∧ count = 0)

/-- The line `t` is `l` with its next turn taken: an entry of the class chosen is polled with its pending command, a SILENT one for a single
attempt, and the class's position stands on it (09 R170, R171, R172). -/
def TurnTaken (y : Yard) (l t : Line) : Prop :=
  ∃ fast count i e, ClassChosen y.fastShare l fast count ∧ FollowsIn l fast (if fast then l.fastPos else l.ordPos) i
    ∧ l.entries[i]? = some e
    ∧ t = { l with
        ordPos := if fast then l.ordPos else i + 1
        fastPos := if fast then i + 1 else l.fastPos
        turnCount := count
        exchange := some ⟨e.address, true, e.command, y.replyWait, decide (e.state = .silent)⟩
        tx := pollFrame e.address e.kind e.command }

/-! ### The forms of answers (11 R201; log entry 12) -/

/-- A value that may be absent: a presence byte, then the value's fields. -/
def optional {α : Type} (f : α → List Field) : Option α → List Field
  | none => [.presence false]
  | some a => .presence true :: f a

/-- A list: a count byte, then each item's fields. -/
def listed {α : Type} (f : α → List Field) (l : List α) : List Field := [.count l.length] ++ (l.map f).flatten

/-- The set conditions of a source, each its rank's number and its detail. -/
def conditionList (s : State) (x : Source) : List Field := listed (fun c : Condition => [.choice c.1] ++ c.2) (s.conditions x)

/-- An order: kind, district, quantity, end action (03 R39). -/
def orderForm (o : Order) : List Field :=
  [.choice ([OrderKind.draw, .fill, .float, .stand].idxOf o.kind)] ++ optional (fun d : DistrictId => [.num 1 d]) o.district
    ++ optional (fun q => [.num 4 q]) o.quantity ++ [.choice ([EndAction.stand, .cont].idxOf o.endAction)]

/-- A move: its kind, and the district a join names (03 R45). -/
def moveForm : Move → List Field
  | .openInlet => [.choice 0, .presence false]
  | .closeInlet => [.choice 1, .presence false]
  | .openOutlet => [.choice 2, .presence false]
  | .closeOutlet => [.choice 3, .presence false]
  | .join d => [.choice 4, .presence true, .num 1 d]
  | .leave => [.choice 5, .presence false]

/-- The target of a change-over: its state's number in 03 R37, and its district. -/
def targetForm : Target → List Field
  | .standing => [.choice 1, .presence false]
  | .filling => [.choice 2, .presence false]
  | .drawing d => [.choice 3, .presence true, .num 1 d]
  | .floating d => [.choice 4, .presence true, .num 1 d]
  | .isolated => [.choice 6, .presence false]

/-- A descriptor of a root: kind and target, BARRED, USED (05 R90). -/
def rootForm (d : Desc) : List Field :=
  [.choice (if d.table = none then 0 else 1)] ++ optional (fun t => [.num 1 t]) d.table ++ [.flag d.barred, .flag d.used]

/-- The values of a good reply, as its frame carries them (11, "Outstation frames"). -/
def readingForm : Reading → List Field
  | .crown r => [.num 2 r.height, .int 2 r.temp, .flag r.inletOpen, .flag r.inletClosed, .flag r.outletOpen, .flag r.outletClosed,
      .flag r.topStop, .flag r.landing]
  | .meter r => [.num 2 r.pressure, .int 2 r.temp, .num 2 r.counts[0], .num 2 r.counts[1], .num 2 r.counts[2], .num 2 r.counts[3]]
  | .governor r => [.num 2 r.outlet] ++ optional (fun l => [.num 1 l]) r.echo ++ [.flag r.trip]
  | .telltale p => [.num 2 p]
  | .barometer b => [.num 2 b]

/-- A station of a district: its last values and its entry's state (04 R87). -/
def stationForm (e : PollEntry) : List Field :=
  optional readingForm e.last ++ [.choice ([EntryState.untried, .answering, .silent].idxOf e.state)]

/-- A direct route (05 R100). -/
def routeForm (f : RouteSettings) : List Field :=
  [.flag f.enabled, .num 2 f.low, .num 2 f.high] ++ optional (fun n => [.num 1 n]) f.slot ++ [.flag f.barred]

/-- A meter channel with its outstanding pulses (06 R110). -/
def channelForm (c : Channel) : List Field :=
  [.flag c.enabled, .num 2 c.point, .num 2 c.constant, .num 2 c.limit, .num 2 c.base, .flag c.baseTaken]
    ++ optional (fun n => [.num 2 n]) c.latest ++ [.flag c.waiting]
    ++ optional (fun n => [.num 2 ((n % 65536 + 65536 - c.base % 65536) % 65536)])
      (if c.enabled = true ∧ c.baseTaken = true then c.latest else none)

/-- The record a poll entry is linked to: a holder, a district, the yard record or none (09 R168). -/
def linkForm : Link → List Field
  | .holder h => [.choice 0, .presence true, .num 1 h]
  | .district d => [.choice 1, .presence true, .num 1 d]
  | .yard => [.choice 2, .presence false]
  | .none => [.choice 3, .presence false]

/-- A pending command: a valve drive, in the order of 03 R46, or a loading (09 R168). -/
def commandForm : Command → List Field
  | .drive d => [.choice 0, .choice ([Drive.inletOpen, .inletClosed, .outletOpen, .outletClosed].idxOf d)]
  | .loading l => [.choice 1, .num 1 l]

/-- A poll entry (09 R168), a meter's with its channels. -/
def entryForm (e : PollEntry) : List Field :=
  [.num 1 e.address, .choice ([EntryKind.crown, .meter, .governor, .telltale, .barometer].idxOf e.kind)] ++ linkForm e.link
    ++ [.num 1 e.retry]
    ++ (if e.kind = .meter then
        channelForm e.channels[0] ++ channelForm e.channels[1] ++ channelForm e.channels[2] ++ channelForm e.channels[3] else [])
    ++ [.choice ([EntryState.untried, .answering, .silent].idxOf e.state), .num 1 e.misses]
    ++ optional commandForm e.command ++ optional readingForm e.last

/-- An account that is not FREE; slot 0 with its diverted counts (07 R132, R143). -/
def accountForm (slot : Nat) (a : Account) : List Field :=
  [.choice ([AccountState.free, .opened, .closed].idxOf a.state),
      .choice ((a.kind.map fun k => [AccountKind.receipt, .sendOut, .worksUse, .suspense].idxOf k).getD 0)]
    ++ optional (fun v => [.num 2 v]) a.cv
    ++ [.num 2 a.period, .num 5 a.volume, .num 2 a.volumeRes, .num 4 a.heat, .num 5 a.heatRes, .num 4 a.bookings,
      .num 4 a.clampedBookings, .flag a.limitReached, .num 5 a.prevVolume, .num 4 a.prevHeat, .num 4 a.prevBookings]
    ++ (if slot = 0 then [.num 4 a.diverts.implausible, .num 4 a.diverts.noRoute, .num 4 a.diverts.barred, .num 4 a.diverts.closed,
        .num 4 a.diverts.damaged, .num 4 a.diverts.full] else [])

/-- What the booking in hand has been resolved to, by its phase (06 R119, R131): nothing yet, an ACCOUNT, a NO-ROUTE outcome, or the
IMPLAUSIBLE finding. -/
def resolutionForm : Phase → List Field
  | .resolving _ => [.choice 1, .presence false]
  | .committing (some (.account slot barred global .route)) _ =>
    [.choice 2, .presence true, .choice 0, .num 1 slot, .flag barred, .flag global, .choice 0]
  | .committing (some (.account slot barred global .cache)) _ =>
    [.choice 2, .presence true, .choice 0, .num 1 slot, .flag barred, .flag global, .choice 1]
  | .committing (some (.account slot barred global (.walk _))) _ =>
    [.choice 2, .presence true, .choice 0, .num 1 slot, .flag barred, .flag global, .choice 2]
  | .committing (some (.noRoute reason)) _ => [.choice 2, .presence true, .choice 1,
      .choice ([NoRoute.invalidRoot, .invalidMain, .invalidLeaf, .badIndirect, .damaged].idxOf reason)]
  | .committing none _ => [.choice 2, .presence true, .choice 2]
  | .marking slot barred _ => [.choice 3, .presence true, .choice 0, .num 1 slot, .flag barred, .flag false, .choice 2]

/-- A walk in flight: its level, whether it is on a target's path, its accumulated BARRED and its stale mark (06 R131). -/
def walkForm (w : Walk) : List Field :=
  [.choice (match w.level with
    | .mainRead _ => 0
    | .mainFlag _ _ => 1
    | .pointRead _ => 2
    | .leafFlag _ _ => 3), .flag (decide (w.target ≠ none)), .flag w.barred, .flag w.stale]

/-- A holder: its configuration, and, of a fitted one, its values, orders, change-over and set conditions (02 R35). -/
def holderForm (s : State) (h : HolderId) : List Field :=
  let r := s.holder h
  [.flag r.fitted] ++ listed (fun l : Lift => [.num 2 l.area, .num 2 l.stroke, .num 2 l.pressure]) r.lifts
    ++ [.num 4 r.landed, .num 2 r.lowStop, .num 2 r.topStop, .num 2 r.maxStep, .num 2 r.travel]
    ++ optional (fun e : PollEntry => [.num 1 e.address]) (s.crownEntry h)
    ++ (if r.fitted = false then [] else
      [.choice ([HolderState.recovering, .standing, .filling, .drawing, .floating, .changing, .isolated, .faulted].idxOf r.state),
        .choice ([Valve.opened, .closed].idxOf r.inletIntent), .choice ([Valve.opened, .closed].idxOf r.outletIntent),
        .choice ([Proved.unknown, .opened, .closed, .moving, .conflict].idxOf r.provedInlet),
        .choice ([Proved.unknown, .opened, .closed, .moving, .conflict].idxOf r.provedOutlet), .flag r.isolated, .flag r.faulted]
      ++ optional (fun f => [.choice ([FaultReason.uncommanded, .noProof, .recoveryMismatch, .orphan].idxOf f)]) r.faultReason
      ++ [.num 1 r.faultStep, .num 2 r.height, .int 2 r.temp, .num 1 r.stage, .num 2 r.stagePressure, .num 4 r.gv, .num 4 r.stock,
        .flag r.stockClamped, .flag r.answering]
      ++ (match r.jump with
          | none => [.presence false, .num 1 0]
          | some j => [.presence true, .num 2 j.height, .num 1 j.count])
      ++ optional orderForm r.active ++ optional orderForm r.next ++ optional (fun v => [.num 4 v]) r.startStock
      ++ optional (fun v => [.num 4 v]) r.remainder ++ optional orderForm r.lastOrder ++ [.flag r.terminal]
      ++ optional (fun c : ChangeOver => targetForm c.target ++ listed moveForm c.moves ++ [.num 1 c.step]) r.changeOver
      ++ conditionList s (.holder h))

/-- A district: its settings, its values, its feeds with what DIC has been told of each, its stations and its set conditions (04 R87). -/
def districtForm (s : State) (d : DistrictId) : List Field :=
  let r := s.district d
  optional (fun e : PollEntry => [.num 1 e.address]) (s.governorEntry d)
    ++ optional (fun e : PollEntry => [.num 1 e.address]) (s.telltaleEntry d)
    ++ listed (fun t : ScheduleStep => [.num 2 t.start, .num 1 t.setPoint]) r.schedule
    ++ [.num 1 r.floor, .num 1 r.ceiling, .num 1 r.drop, .num 1 r.ttMin, .num 1 r.ttBand, .num 1 r.ttStep, .num 1 r.compMax,
      .flag r.autoJoin]
    ++ listed (fun h : HolderId => [.num 1 h]) r.standby
    ++ [.choice ([DistrictState.out, .serving, .short, .starved, .tripped].idxOf r.state), .num 1 r.setPoint, .num 1 r.comp,
      .num 1 r.loading]
    ++ optional (fun l => [.num 1 l]) r.inFlight ++ optional (fun l => [.num 1 l]) r.acked
    ++ [.num 1 r.required, .num 2 r.available]
    ++ listed (fun h : HolderId => [.num 1 h, .flag (s.view h).answering, .num 2 (s.view h).pressure]) r.feeds
    ++ listed (fun h : HolderId => [.num 1 h]) r.pendingJoins ++ optional (fun h : HolderId => [.num 1 h]) r.joinInHand
    ++ [.flag r.ttLow] ++ rootForm r.root
    ++ optional stationForm (s.governorEntry d) ++ optional stationForm (s.telltaleEntry d)
    ++ conditionList s (.district d)

/-- The booking engine: queue, waiting channels, the booking in hand, the walk, the cache, the routes and its set conditions (06 R131). -/
def bookingForm (s : State) : List Field :=
  listed (fun q : QueueEntry => [.num 1 q.address, .num 1 q.channel, .num 2 q.target, .num 2 q.pressure, .int 2 q.temp]) s.bke.queue
    ++ [.num 1 (s.line.entries.map fun e => (e.channels.toList.filter (·.waiting)).length).sum]
    ++ optional (fun h : InHand => [.num 1 h.address, .num 1 h.channel, .num 2 h.target, .num 2 h.pulses] ++ resolutionForm h.phase)
      s.bke.inHand
    ++ optional walkForm (s.bke.inHand.bind fun h => match h.phase with
      | .resolving w => some w
      | _ => none)
    ++ listed (fun e : CacheEntry => [.num 2 e.point, .num 1 e.slot, .flag e.barred, .flag e.global]) s.bke.cache
    ++ routeForm s.bke.routes[0] ++ routeForm s.bke.routes[1] ++ conditionList s .booking

/-- The store: its counts, the damaged slots, the free and the allocated tables, the scrubber and its set conditions (08 R160). The flag
of the provisional mark behind each allocation record is the model's choice (log entry 38). -/
def storeForm (s : State) : List Field :=
  [.num 2 s.rst.corrected] ++ optional (fun n => [.num 2 n]) s.rst.lastCorrected
    ++ [.num 2 s.rst.damagedReads] ++ optional (fun n => [.num 2 n]) s.rst.lastDamaged
    ++ listed (fun n => [.num 2 n]) (s.rst.damaged.map (·.1))
    ++ listed (fun n => [.num 1 n]) s.rst.freeMains ++ listed (fun n => [.num 1 n]) s.rst.freePoints
    ++ listed (fun x : Nat × MainAlloc => [.num 1 x.1, .num 1 x.2.district, .flag x.2.provisional])
      (s.rst.mainAlloc.filterMap fun p => p.2.map fun a => (p.1, a))
    ++ listed (fun x : Nat × PointAlloc => [.num 1 x.1, .num 1 x.2.main, .num 1 x.2.index, .flag x.2.provisional])
      (s.rst.pointAlloc.filterMap fun p => p.2.map fun a => (p.1, a))
    ++ [.num 2 s.rst.scrubPointer, .num 1 s.yard.scrubInterval, .num 1 s.rst.arbiter.count] ++ conditionList s .store

/-- The line: its entries in list order, the positions, the exchange, the receiver, its counts and its set conditions (09 R177). -/
def lineForm (s : State) : List Field :=
  listed entryForm s.line.entries ++ [.num 1 s.line.ordPos, .num 1 s.line.fastPos, .num 1 s.line.turnCount]
    ++ optional (fun x : Exchange => [.num 1 x.address, .flag x.sending]) s.line.exchange
    ++ [.choice (match s.line.rx with
        | .hunt => 0
        | .frame _ => 1
        | .escaped _ => 2),
      .num 2 s.line.checkErrors, .num 2 s.line.aborts, .num 2 s.line.unexpected, .flag s.line.dead] ++ conditionList s .line

/-- The yard: mode, settings, clock, the dead line and its set conditions (10 R181). -/
def yardForm (s : State) : List Field :=
  [.choice (match s.yard.mode with | .setup => 0 | .working => 1 | .hold => 2), .num 2 s.yard.declaredCv,
    .num 2 s.yard.fallback, .num 2 s.yard.barometer, .num 2 s.yard.period, .flag s.yard.closeUnfinished, .num 2 s.yard.day,
    .num 2 s.yard.minute, .num 1 s.yard.bookingShare, .num 1 s.yard.fastShare, .num 2 s.yard.replyWait,
    .num 1 s.yard.scrubInterval, .choice (if s.yard.priority = .a then 0 else 1), .flag s.line.dead] ++ conditionList s .yard

/-! ### Resets -/

/-- What a reset leaves of a fitted holder: the backed fields as they were, the volatile ones at their reset values, no latch
(02 R21, R22, R36). -/
def holderAtReset (r : Holder) : Holder :=
  { r with
    state := .recovering
    changeOver := none
    active := none
    next := none
    activationWaits := false
    startStock := none
    remainder := none
    answering := false
    jump := none
    provedInlet := .unknown
    provedOutlet := .unknown
    latches := ⟨false, false, false, false, false, false, false, false, false, false⟩ }

/-- A reset with the given cause leads from `s` to `t`: each block keeps its backed state and has its volatile state at the reset
values, the link and the bytes on the line apart (10 R188, R190): the set-point is judged and the loading worked again (04 R65), the
loadings in service are the only pending commands (09 R180), and the tables left provisional are freed (05 R91). -/
structure ResetFrom (cause : RestartCause) (s t : State) : Prop where
  yard : t.yard = { s.yard with
    mode := .setup, barometer := s.yard.fallback, barometerTaken := false, restarted := some cause, holdEntered := none,
    periodClosed := none }
  balance : t.balance = s.balance
  fitted : ∀ h, (s.holder h).fitted = true → t.holder h = holderAtReset (s.holder h)
  unfitted : ∀ h, (s.holder h).fitted = false →
    t.holder h = { s.holder h with latches := ⟨false, false, false, false, false, false, false, false, false, false⟩ }
  settings : ∀ d, (t.district d).schedule = (s.district d).schedule ∧ (t.district d).floor = (s.district d).floor
    ∧ (t.district d).ceiling = (s.district d).ceiling ∧ (t.district d).drop = (s.district d).drop
    ∧ (t.district d).ttMin = (s.district d).ttMin ∧ (t.district d).ttBand = (s.district d).ttBand
    ∧ (t.district d).ttStep = (s.district d).ttStep ∧ (t.district d).compMax = (s.district d).compMax
    ∧ (t.district d).autoJoin = (s.district d).autoJoin ∧ (t.district d).standby = (s.district d).standby
    ∧ (t.district d).comp = (s.district d).comp
  loadings : ∀ d, (t.district d).setPoint = setPointAt s.yard.minute (s.district d).setPoint (s.district d).schedule
    ∧ (t.district d).loading
      = clampTo (s.district d).floor (s.district d).ceiling ((t.district d).setPoint + (s.district d).comp)
    ∧ (t.district d).required = (t.district d).loading + (s.district d).drop
  lists : ∀ d, (t.district d).feeds = (s.district d).feeds ∧ (t.district d).root = (s.district d).root
    ∧ (t.district d).pendingJoins = [] ∧ (t.district d).joinInHand = none ∧ (t.district d).available = 0
    ∧ (t.district d).acked = none ∧ (t.district d).ttLow = false
  inService : ∀ d, (s.district d).state.inService = true →
    (t.district d).state = .starved ∧ (t.district d).inFlight = some (t.district d).loading
  outOfService : ∀ d, (s.district d).state.inService = false →
    (t.district d).state = (s.district d).state ∧ (t.district d).inFlight = none
  noLatch : ∀ d, (t.district d).latches = ⟨false, false, false, false, false, false, false⟩
  views : ∀ h, t.view h = ⟨false, (s.holder h).stagePressure⟩
  booking : t.bke.queue = [] ∧ t.bke.inHand = none ∧ t.bke.cache = [] ∧ t.bke.routes = s.bke.routes ∧ t.bke.diverted = none
    ∧ t.bke.implausible = none
  store : t.rst.accounts = s.rst.accounts ∧ t.rst.mains = s.rst.mains ∧ t.rst.points = s.rst.points
    ∧ t.rst.flaws = s.rst.flaws ∧ t.rst.damaged = s.rst.damaged
  storeCounts : t.rst.corrected = 0 ∧ t.rst.lastCorrected = none ∧ t.rst.damagedReads = 0 ∧ t.rst.lastDamaged = none
    ∧ t.rst.damagedLatch = none ∧ t.rst.correctedLatch = none
  pools : storesSound s.rst = true →
    (∀ n, t.rst.mainAllocOf n = (s.rst.mainAllocOf n).filter fun a => !a.provisional)
    ∧ (∀ n, t.rst.pointAllocOf n = (s.rst.pointAllocOf n).filter fun a => !a.provisional)
    ∧ t.rst.freeMains = s.rst.freeMains ++ (s.rst.mainAlloc.filterMap fun p =>
        if p.2.map (·.provisional) = some true ∧ p.1 ∉ s.rst.freeMains then some p.1 else none)
    ∧ t.rst.freePoints = s.rst.freePoints ++ (s.rst.pointAlloc.filterMap fun p =>
        if p.2.map (·.provisional) = some true ∧ p.1 ∉ s.rst.freePoints then some p.1 else none)
  scrubber : t.rst.scrubPointer = 0 ∧ t.rst.scrubPending = false ∧ t.rst.arbiter = ⟨none, false, false, false, 0⟩
    ∧ t.rst.scrubTimer = if s.yard.scrubInterval = 0 then none else some s.yard.scrubInterval
  pollList : t.line.entries.map (fun e => (e.address, e.kind, e.link, e.retry))
    = s.line.entries.map fun e => (e.address, e.kind, e.link, e.retry)
  channels : t.line.entries.map (fun e => (e.address, e.channels.toList))
    = s.line.entries.map fun e => (e.address, e.channels.toList.map fun c => { c with latest := none, waiting := false })
  untried : ∀ e ∈ t.line.entries, e.state = .untried ∧ e.misses = 0 ∧ e.last = none
  commands : ∀ e ∈ t.line.entries, e.command = match e.kind, e.link with
    | .governor, .district d => if (s.district d).state.inService then some (.loading (t.district d).loading) else none
    | _, _ => none
  lineCounts : t.line.checkErrors = 0 ∧ t.line.aborts = 0 ∧ t.line.unexpected = 0 ∧ t.line.dead = false ∧ t.line.rx = .hunt
    ∧ t.line.latches = ⟨false, none, none, none, none, none⟩
  messages : t.inTransit = [] ∧ t.occasions = [] ∧ t.attempt = none

end Sys2Proof.Safety
end

