-- ==== Sys2Proof/Certificates/Slice0/Obligations.lean ====
section
/-! DEFINITION. The statements for the provers. -/

open Sys2Proof Sys2Proof.Machine Sys2Proof.Safety

/-! ### The queue of commands -/

/-- A step runs the command at the front of the queue on the state with the queue's rest. On an empty queue the part idles: that
clause is the model's choice (log entry 3). -/
def Obligations.StepRunsTheFrontCommand : Prop :=
  ∀ s : State,
    (∀ c rest, s.pending = c :: rest → step s = exec c { s with pending := rest })
    ∧ (s.pending = [] → step s = .next s)

/-- Every command answers a next state, in every state, and leaves the queue of waiting commands alone (95). -/
def Obligations.EveryCommandAnswersAndKeepsTheQueue : Prop :=
  ∀ (i : Instr) (s : State), ∃ t, exec i s = .next t ∧ t.pending = s.pending

/-- What a fresh start leaves (10 R183, R188): the starting values of the yard record, the holders, the districts, the lists
and queues, and the accounts. -/
def Obligations.ResetHoldsTheStartingValues : Prop :=
  let s := State.reset
  s.yard.mode = .setup ∧ s.yard.declaredCv = 500 ∧ s.yard.fallback = 2992 ∧ s.yard.barometer = 2992 ∧ s.yard.period = 0
    ∧ s.yard.day = 0 ∧ s.yard.minute = 0 ∧ s.yard.bookingShare = 2 ∧ s.yard.fastShare = 2 ∧ s.yard.replyWait = 200
    ∧ s.yard.scrubInterval = 10 ∧ s.yard.restarted = some .freshStart
    ∧ (∀ h, (s.holder h).fitted = false ∧ (s.holder h).lifts = [⟨100, 100, 1⟩] ∧ (s.holder h).landed = 0
        ∧ (s.holder h).lowStop = 0 ∧ (s.holder h).topStop = 100 ∧ (s.holder h).maxStep = 10 ∧ (s.holder h).travel = 120)
    ∧ (∀ d, (s.district d).state = .out ∧ (s.district d).schedule = [⟨0, 30⟩] ∧ (s.district d).floor = 20
        ∧ (s.district d).ceiling = 150 ∧ (s.district d).feeds = [] ∧ (s.district d).root = ⟨none, false, false⟩
        ∧ (s.district d).loading = 30)
    ∧ s.line.entries = [] ∧ s.bke.queue = [] ∧ s.bke.cache = [] ∧ s.rex.stack = [] ∧ s.rex.responses = []
    ∧ s.rst.freeMains = List.range 24 ∧ s.rst.freePoints = List.range 64
    ∧ (s.rst.account 0).state = .opened ∧ (s.rst.account 0).kind = some .suspense
    ∧ (∀ n ∈ List.range 255, (s.rst.account (n + 1)).state = .free)

/-- The invariants that the steps keep hold right after reset. -/
def Obligations.InvariantsHoldAtReset : Prop :=
  queueSound State.reset.bke = true ∧ linkSound State.reset.rex = true ∧ storesSound State.reset.rst = true
    ∧ ordersSound State.reset.holders = true ∧ loadingsSound State.reset.districts = true
    ∧ clockSound State.reset.yard = true ∧ pollSound State.reset.line = true ∧ pendingSound State.reset = true

/-! ### Invariants that every step keeps -/

/-- The booking queue holds at most 16 entries and never two for one channel, the cache at most 16 and never two for one point
(06 R114, R120), after every step. -/
def Obligations.BookingQueueAndCacheStayBounded : Prop :=
  ∀ s t : State, queueSound s.bke = true → step s = .next t → queueSound t.bke = true

/-- At most two requests are stacked and at most six responses queued, those still owed to the stack counted (11 R193, R194),
after every step. -/
def Obligations.StackAndResponsesStayBounded : Prop :=
  ∀ s t : State, linkSound s.rex = true → step s = .next t → linkSound t.rex = true

/-- The store's sparse lists stay in their one canonical form after every step, so that equal contents are equal data. -/
def Obligations.StoreStaysCanonical : Prop :=
  ∀ s t : State, storesSound s.rst = true → step s = .next t → storesSound t.rst = true

/-- A holder has a NEXT order only behind an ACTIVE one (03 R40), after every step. -/
def Obligations.NextOrderStandsBehindAnActiveOne : Prop :=
  ∀ s t : State, ordersSound s.holders = true → step s = .next t → ordersSound t.holders = true

/-- After every step each loading lies between floor and ceiling, its required pressure is the drop above it, a loading in
flight is that loading in a district in service (04 R71, R72), and the minute is one of the day (04 R67). -/
def Obligations.LoadingsStayWithinTheirLimits : Prop :=
  ∀ s t : State, loadingsSound s.districts = true → clockSound s.yard = true → step s = .next t →
    loadingsSound t.districts = true ∧ clockSound t.yard = true

/-- The poll list holds at most 48 entries, no two at one address (09 R168), after every step. -/
def Obligations.PollListStaysSound : Prop :=
  ∀ s t : State, pollSound s.line = true → step s = .next t → pollSound t.line = true

/-! ### Frames -/

/-- The bytes of every well-formed request's fields decode, under its code, to the request (11 R201): no field is dropped. The
bytes of LOOK's target are those of log entry 10; that ORDER carries all five fields for every kind, and SET-OUTSTATION only
its address and action for a DELETE, is log entry 14. -/
def Obligations.RequestFieldsDecode : Prop :=
  ∀ r : Request, r.wellFormed = true → decodeRequest r.code (fieldBytes r.fields) = some r

/-- The frame of a well-formed request, arriving at a receiver in HUNT, does what the request command does (11 R191, R192). A
receiver in another state, which has begun a frame, starts anew at START; that is not said here. That
a good frame's END leaves the receiver in HUNT is log entry 45. -/
def Obligations.LinkFrameRunsItsRequest : Prop :=
  ∀ (i : Instr) (tag : Byte) (r : Request) (s : State), i.request = some (tag, r) → i.wellFormed = true → s.rex.rx = .hunt →
    ∃ t, exec (.linkFrame (requestFrame tag r)) s = .next t ∧ exec i s = .next t

/-- A frame that ABORT ends after its tag is counted and gets no response; one that END ends after its tag and code is a bad
frame, counted and answered BAD-FRAME with the two, or discarded and counted too where the response queue is full (11 R191,
R192, R200). The END of a response has gone out: it leaves the response queue, and nothing else changes (11 R193). With no
response queued the command changes nothing: that clause is the model's choice (log entry 7), as it is that a frame ABORT ends
raises the abort count alone also at a full response queue (log entry 43). -/
def Obligations.LinkFramesInErrorAreCounted : Prop :=
  ∀ (s : State) (tag code : Byte), s.running = true →
    (s.rex.rx = .hunt → isSpecial tag = false → isSpecial code = false →
      exec (.linkFrame [0xF1, tag, 0xF4]) s
          = .next { s with rex := { s.rex with aborts := bump 65535 s.rex.aborts } }
      ∧ (s.rex.responses.length < 4 →
          exec (.linkFrame [0xF1, tag, code, 0xF2]) s
            = .next (withResponse { s with rex := { s.rex with badFrames := bump 65535 s.rex.badFrames } } tag code .badFrame []))
      ∧ (4 ≤ s.rex.responses.length →
          exec (.linkFrame [0xF1, tag, code, 0xF2]) s
            = .next { s with rex := { s.rex with
                badFrames := bump 65535 s.rex.badFrames, discards := bump 65535 s.rex.discards } }))
    ∧ (∀ r rest, s.rex.responses = r :: rest →
      exec .responseSent s = .next { s with rex := { s.rex with responses := rest } })
    ∧ (s.rex.responses = [] → exec .responseSent s = .next s)

/-- A request that arrives at a full response queue is discarded and counted (11 R192); a stacked request finds the stack full
and is answered BUSY, or waits behind a started head (11 R194); the mode groups answer ILLEGAL-MODE (11 R195). -/
def Obligations.RequestsAreHeldOrTurnedAway : Prop :=
  ∀ (i : Instr) (tag : Byte) (q : Request) (s : State), i.request = some (tag, q) → i.wellFormed = true → s.running = true →
    (4 ≤ s.rex.responses.length →
      exec i s = .next { s with rex := { s.rex with discards := bump 65535 s.rex.discards } })
    ∧ (s.rex.responses.length < 4 → 2 ≤ s.rex.stack.length → isImmediate q = false →
      exec i s = .next (withResponse s tag q.code .busy []))
    ∧ (∀ h, s.rex.responses.length < 4 → s.rex.stack = [h] → h.started = true → isImmediate q = false →
      exec i s = .next { s with rex := { s.rex with stack := [h, ⟨tag, q, false⟩] } })
    ∧ (Ready s → ((1 ≤ q.code.toNat ∧ q.code.toNat ≤ 5 ∧ s.yard.mode ≠ .setup)
          ∨ ((q.code = 0x10 ∨ q.code = 0x11) ∧ s.yard.mode ≠ .working)
          ∨ (q = .work ∧ s.yard.mode ≠ .setup) ∨ (q = .resume ∧ s.yard.mode ≠ .hold)) →
      exec i s = .next (withResponse s tag q.code .illegalMode []))

/-! ### Supply and resets -/

/-- Power-on with VBAT low or an uncorrectable flaw starts everything afresh (10 R183). Where the part still ran, a poll that
was being sent has been given up with ABORT, and nothing else stands otherwise (09 R165): that a running part takes POWER_ON
at all is the model's choice (log entry 18), and so are the start times of the balance record, day 0 and minute 0 (log entry
46). -/
def Obligations.DistrustedPowerOnStartsAfresh : Prop :=
  ∀ (s : State) (low : Bool) (found : StateFlaw), (low = true ∨ found = .uncorrectable) →
    (s.running = false → exec (.powerOn low found) s = .next { State.reset with pending := s.pending })
    ∧ (s.running = true → ∃ g, exec (.powerOn low found) s
        = .next { State.reset with line := { State.reset.line with gaveUp := g }, pending := s.pending }
      ∧ (g = true ↔ ∃ x, s.line.exchange = some x ∧ x.sending = true))

/-- Power-on with the backed state trusted keeps it and resets the rest (10 R183, R188; 11 R193, R200): what a reset leaves of
the holders, the districts with their set-points and loadings (04 R62, R65), the meter channels (06 R110), the poll list (09
R180), the store, its pools and its scrubber (05 R91, 08 R162) is `ResetFrom`. That the tables left provisional join their
free list in ascending number is log entry 34, that messages in transit are dropped log entry 39. -/
def Obligations.TrustedPowerOnKeepsTheBackedState : Prop :=
  ∀ (s : State) (found : StateFlaw), s.running = false → found ≠ .uncorrectable →
    ∃ t, exec (.powerOn false found) s = .next t ∧ ResetFrom .powerOn s t ∧ t.rex = ⟨[], none, [], .hunt, 0, 0, 0⟩
      ∧ t.running = true ∧ t.pending = s.pending

/-- YARD-RESET answers each stacked request ABORTED, the head first, then DONE, and leaves the rest of the part as a reset
does (11 R196, 10 R188). An access being served is completed first (08 R164): what a reset leaves is then that of the state
SUPPLY_FAIL leaves, which completes it in the same way. That the tables left provisional join their free list in ascending
number is log entry 34, that messages in transit are dropped log entry 39. -/
def Obligations.YardResetAbortsTheStack : Prop :=
  ∀ (s : State) (tag : Byte), Takes s →
    ∃ t u, exec (.yardReset tag) s = .next t ∧ exec .supplyFail s = .next u ∧ ResetFrom .yardReset u t
      ∧ t.rex = ⟨[], none,
          s.rex.responses ++ s.rex.stack.map (fun q => ⟨q.tag, q.request.code, .aborted, []⟩) ++ [⟨tag, 0x70, .done, []⟩],
          .hunt, 0, 0, 0⟩
      ∧ t.running = true ∧ t.pending = s.pending ∧ (s.rst.arbiter.serving = none → ResetFrom .yardReset s t)

/-- The main supply fails (08 R164; 10, "Power-on and YARD-RESET"): the access being served is completed on the battery, and
nothing else of the part changes but that it stops. The completed access leaves in the store, the channel and the latches what
its own command leaves there: a scrub check (08 R161), a commit with its base and its latches (06 R123 to R126), a BOOKED flag
access (06 R127; REX stays as it was), an access of an account request or a scan (07 R135, R140, R147, R148, R153). A walk's
flag access sets USED (05 R96), a directory write stands, a table whose parent descriptor it sets INVALID is freed with it (05
R91), and no write of the request follows, its root's among them (11 R196; log entry 40); a stale commit and a read of sound
contents change nothing. While the supply is absent nothing goes on but the clock and the flaws the world makes in the store
(04 R67, 08 R154); that every other command then changes nothing is log entry 18. -/
def Obligations.SupplyFailStopsThePart : Prop :=
  (∀ s : State, s.running = true →
    (s.rst.arbiter.serving = none → exec .supplyFail s = .next { s with running := false })
    ∧ (∃ t, exec .supplyFail s = .next t ∧ t.running = false ∧ t.rst.arbiter = { s.rst.arbiter with serving := none }
        ∧ t.yard = s.yard ∧ t.holders = s.holders ∧ t.balance = s.balance ∧ t.rex = s.rex ∧ t.inTransit = s.inTransit)
    ∧ (∀ g, Serves s g .scrub →
      ∃ v, exec (.scrubCheck []) s = .next v ∧ exec .supplyFail s = .next { v with running := false })
    ∧ (∀ g h r stale, Serves s g .bke → s.bke.inHand = some h → h.phase = .committing r stale →
      (∀ slot barred global origin, r = some (.account slot barred global origin) → slot ≤ 255) →
      (g.stale = true → exec .supplyFail s = .next { storeFree s with running := false })
      ∧ (g.stale = false → ∃ v, exec (.commitAccess []) s = .next v ∧ exec .supplyFail s = .next { s with
          running := false
          rst := { v.rst with arbiter := { s.rst.arbiter with serving := none } }
          line := v.line
          bke := { s.bke with diverted := v.bke.diverted, implausible := v.bke.implausible } }))
    ∧ (∀ g h slot barred own, Serves s g .bke → s.bke.inHand = some h → h.phase = .marking slot barred own → s.bke.queue = [] →
      ∃ v, exec (.bookedFlagAccess []) s = .next v
        ∧ exec .supplyFail s = .next { v with running := false, rex := s.rex, bke := { v.bke with inHand := some h } })
    ∧ (∀ g h w t next, Serves s g .bke → s.bke.inHand = some h → h.phase = .resolving w → w.target = none →
      (w.level = .mainRead t → Clean s (mainSlot t) → exec .supplyFail s = .next { storeFree s with running := false })
      ∧ (w.level = .pointRead t → Clean s (pointSlot t) → exec .supplyFail s = .next { storeFree s with running := false })
      ∧ (w.level = .mainFlag t next → Clean s (mainSlot t) → (s.rst.desc t (mainIndex w.point)).table = some next →
        exec .supplyFail s = .next { storeFree { s with
          rst := s.rst.putDesc t (mainIndex w.point) { s.rst.desc t (mainIndex w.point) with used := true } } with running := false }))
    ∧ (∀ g tag q w c, HeadAwaits s g tag q w → accountCommand w = some c →
      ∃ v, exec c s = .next v ∧ exec .supplyFail s = .next { s with
        running := false, rst := { v.rst with arbiter := { s.rst.arbiter with serving := none } }, bke := v.bke })
    ∧ (∀ g tag q t i l, HeadAwaits s g tag q (.directory (.actions [.writeLeaf t i l])) → Clean s (pointSlot t) →
      exec .supplyFail s = .next { storeFree { s with rst := s.rst.putLeaf t i l } with running := false })
    ∧ (∀ g tag q m i d pt main, HeadAwaits s g tag q (.directory (.actions [.writeMain m i d, .freePoint pt, .recheckMain main])) →
      Clean s (mainSlot m) → d.table = none →
      exec .supplyFail s = .next { storeFree { s with rst := (s.rst.putDesc m i d).freePoint pt } with running := false })
    ∧ (∀ g tag q m i d pt rest, d.table = some pt → (rest = [] ∨ ∃ dist root, rest = [.setRoot dist root]) →
      HeadAwaits s g tag q (.directory (.actions (.writeMain m i d :: rest))) → Clean s (mainSlot m) →
      exec .supplyFail s = .next { storeFree { s with rst := (s.rst.putDesc m i d).settlePoint pt } with running := false }))
  ∧ ∀ (s : State) (i : Instr), s.running = false →
    (exec .minuteEvent s = .next { s with yard := { s.yard with
        minute := if s.yard.minute < 1439 then s.yard.minute + 1 else 0
        day := if s.yard.minute < 1439 then s.yard.day else if s.yard.day < 65535 then s.yard.day + 1 else 0 } })
    ∧ (∀ flaws, storeFlaws i = some flaws → exec i s = .next { s with rst := s.rst.addFlaws flaws })
    ∧ (storeFlaws i = none → i ≠ .minuteEvent → (∀ low found, i ≠ .powerOn low found) → exec i s = .next s)

/-! ### Immediate requests -/

/-- YARD-HOLD: HOLD is entered from WORKING with its cause latched; in HOLD nothing changes; in SETUP it is refused (10 R187). -/
def Obligations.YardHoldEntersHoldFromWorking : Prop :=
  ∀ (s : State) (tag : Byte), Takes s →
    (s.yard.mode = .working → exec (.yardHold tag) s = .next (withResponse
      { s with yard := { s.yard with mode := .hold, holdEntered := some .yardHold } } tag 0x72 .done []))
    ∧ (s.yard.mode = .hold → exec (.yardHold tag) s = .next (withResponse s tag 0x72 .done []))
    ∧ (s.yard.mode = .setup → exec (.yardHold tag) s = .next (withResponse s tag 0x72 .wrongState []))

/-- LINE-RESET: every entry is UNTRIED with no misses and keeps the rest, the receiver hunts, the counts and latches stand, a dead
line is dead no longer and REX is told; nothing beyond the line changes (09 R179). -/
def Obligations.LineResetMakesEveryEntryUntried : Prop :=
  ∀ (s : State) (tag : Byte), Takes s →
    ∃ t, exec (.lineReset tag) s = .next t
      ∧ t.line.entries = s.line.entries.map (fun e => { e with state := .untried, misses := 0 })
      ∧ t.line.checkErrors = s.line.checkErrors ∧ t.line.aborts = s.line.aborts ∧ t.line.unexpected = s.line.unexpected
      ∧ t.line.latches = s.line.latches ∧ t.line.rx = .hunt ∧ t.line.dead = false
      ∧ t.inTransit = s.inTransit ++ (if s.line.dead then [.lineAliveNotice] else [])
      ∧ { t with line := s.line, inTransit := s.inTransit } = withResponse s tag 0x71 .done []

/-- STOP empties a fitted holder's order stack, latches ORDER-STOPPED where it held an order, and leaves any change-over to run on
(03 R56); a number above 5 or an unfitted holder is NO-RECORD (03 R38). -/
def Obligations.StopEmptiesTheOrderStack : Prop :=
  ∀ (s : State) (tag : Byte), Takes s →
    (∀ h : HolderId, (s.holder h).fitted = true →
      exec (.stop tag h) s = .next (withResponse
        (s.setHolder h { s.holder h with
          active := none, next := none, activationWaits := false
          latches := { (s.holder h).latches with
            orderStopped := (s.holder h).latches.orderStopped || (s.holder h).active.isSome || (s.holder h).next.isSome } })
        tag 0x13 .done []))
    ∧ (∀ h : HolderId, (s.holder h).fitted = false →
      exec (.stop tag h) s = .next (withResponse s tag 0x13 .noRecord []))
    ∧ (∀ n, 6 ≤ n → exec (.stop tag n) s = .next (withResponse s tag 0x13 .noRecord []))

/-- ISOLATE (03 R38, R57, R58), in every yard mode: refused in RECOVERING and for no record, answered at once where it has
already been done or is in hand; with nothing to close it is ISOLATED at once; a FILLING holder's inlet is driven shut; a
DRAWING one leaves first. From every state that takes it the orders go and the moves are built anew: a valve that a change-over
was driving closed is kept as the first move with its timer, one it was driving open is turned round for the full travel time;
a join or leave given and not yet taken counts as made, a join aimed at and not made is withdrawn; then come the leave, the
outlet and the inlet. A FAULTED holder stays FAULTED meanwhile. The feed lists are read with the notices in transit taken as
given (log entry 5), and each thing told is a notice of its own (log entry 6). -/
def Obligations.IsolateShutsTheHolder : Prop :=
  ∀ (s : State) (tag : Byte) (h : HolderId), Takes s →
    (∀ n, 6 ≤ n → exec (.isolate tag n) s = .next (withResponse s tag 0x14 .noRecord []))
    ∧ ((s.holder h).fitted = false → exec (.isolate tag h) s = .next (withResponse s tag 0x14 .noRecord []))
    ∧ ((s.holder h).fitted = true → (s.holder h).state = .recovering →
      exec (.isolate tag h) s = .next (withResponse s tag 0x14 .wrongState []))
    ∧ ((s.holder h).fitted = true → (s.holder h).state = .isolated →
      exec (.isolate tag h) s = .next (withResponse s tag 0x14 .done []))
    ∧ (∀ c, (s.holder h).fitted = true → (s.holder h).state ≠ .recovering → (s.holder h).changeOver = some c →
      c.target = .isolated → exec (.isolate tag h) s = .next (withResponse s tag 0x14 .done []))
    ∧ ((s.holder h).fitted = true → (s.holder h).state = .standing → (s.holder h).changeOver = none → s.feedOf h = none →
      (s.holder h).inletIntent = .closed → (s.holder h).outletIntent = .closed →
      exec (.isolate tag h) s = .next (withResponse ((s.setHolder h { s.holder h with
          active := none, next := none, activationWaits := false, state := .isolated, isolated := true }).setDrive h none)
        tag 0x14 .done []))
    ∧ ((s.holder h).fitted = true → (s.holder h).state = .filling → (s.holder h).changeOver = none → s.feedOf h = none →
      (s.holder h).inletIntent = .opened → (s.holder h).outletIntent = .closed →
      exec (.isolate tag h) s = .next (withResponse ((s.setHolder h { s.holder h with
          active := none, next := none, activationWaits := false, state := .changing, inletIntent := .closed
          changeOver := some ⟨.isolated, [.closeInlet], 0, true, some (s.holder h).travel⟩ }).setDrive h (some .inletClosed))
        tag 0x14 .done []))
    ∧ (∀ d, (s.holder h).fitted = true → (s.holder h).state = .drawing → (s.holder h).changeOver = none → s.feedOf h = some d →
      (s.holder h).inletIntent = .closed → (s.holder h).outletIntent = .opened →
      exec (.isolate tag h) s = .next (withResponse (((s.setHolder h { s.holder h with
          active := none, next := none, activationWaits := false, state := .changing
          changeOver := some ⟨.isolated, [.leave, .closeOutlet], 0, true, none⟩ }).setDrive h none).send
            (.leaveNotice ⟨h, (s.holder h).answering, (s.holder h).stagePressure, none, false, false⟩))
        tag 0x14 .done []))
    ∧ (∀ (c : ChangeOver) (m : Move) (told : State → State), (s.holder h).fitted = true → (s.holder h).state = .changing →
      (s.holder h).changeOver = some c → c.target ≠ .isolated → c.started = true → c.moves[c.step]? = some m →
      told = (fun t => match c.moves.findSome? Move.district with
        | some d => t.send (.withdrawPendingNotice ⟨h, (s.holder h).answering, (s.holder h).stagePressure, none, false, false⟩ d)
        | none => t) →
      (m = .openOutlet ∨ m = .closeOutlet →
        exec (.isolate tag h) s = .next (withResponse (told ((s.setHolder h { s.holder h with
            active := none, next := none, activationWaits := false, outletIntent := .closed
            changeOver := some ⟨.isolated, .closeOutlet :: ((if s.feedOf h = none then [] else [.leave])
              ++ (if (s.holder h).inletIntent = .opened then [.closeInlet] else [])), 0, true,
              if m = .closeOutlet then c.timer else some (s.holder h).travel⟩ }).setDrive h (some .outletClosed))) tag 0x14 .done []))
      ∧ (m = .openInlet ∨ m = .closeInlet →
        exec (.isolate tag h) s = .next (withResponse (told ((s.setHolder h { s.holder h with
            active := none, next := none, activationWaits := false, inletIntent := .closed
            changeOver := some ⟨.isolated, .closeInlet :: ((if s.feedOf h = none then [] else [.leave])
              ++ (if (s.holder h).outletIntent = .opened then [.closeOutlet] else [])), 0, true,
              if m = .closeInlet then c.timer else some (s.holder h).travel⟩ }).setDrive h (some .inletClosed))) tag 0x14 .done [])))
    ∧ (∀ (feed aim : Option DistrictId) (st : HolderState) (told : State → State), (s.holder h).fitted = true →
      (s.holder h).state ≠ .recovering → (s.holder h).state ≠ .isolated →
      ((s.holder h).changeOver = none ∧ feed = s.feedOf h ∧ aim = none)
        ∨ (∃ c, (s.holder h).changeOver = some c ∧ c.target ≠ .isolated ∧ aim = c.moves.findSome? Move.district
          ∧ ((c.started = false ∧ feed = s.feedOf h) ∨ (c.started = true ∧ c.moves[c.step]? = some .leave ∧ feed = none)))
        ∨ (∃ c d, (s.holder h).changeOver = some c ∧ c.target ≠ .isolated ∧ c.started = true ∧ c.moves[c.step]? = some (.join d)
          ∧ c.moves.findSome? Move.district = some d ∧ feed = some d ∧ aim = none) →
      st = (if (s.holder h).state = .faulted then .faulted else .changing) →
      told = (fun t => match aim with
        | some d => t.send (.withdrawPendingNotice ⟨h, (s.holder h).answering, (s.holder h).stagePressure, none, false, false⟩ d)
        | none => t) →
      (feed = none → (s.holder h).inletIntent = .closed → (s.holder h).outletIntent = .closed →
        exec (.isolate tag h) s = .next (withResponse (told ((s.setHolder h { s.holder h with
            active := none, next := none, activationWaits := false, changeOver := none, state := .isolated
            isolated := true }).setDrive h none)) tag 0x14 .done []))
      ∧ (feed ≠ none →
        exec (.isolate tag h) s = .next (withResponse ((told ((s.setHolder h { s.holder h with
            active := none, next := none, activationWaits := false, state := st
            changeOver := some ⟨.isolated, .leave :: ((if (s.holder h).outletIntent = .opened then [.closeOutlet] else [])
              ++ (if (s.holder h).inletIntent = .opened then [.closeInlet] else [])), 0, true, none⟩ }).setDrive h none)).send
            (.leaveNotice ⟨h, (s.holder h).answering, (s.holder h).stagePressure, none, false, false⟩)) tag 0x14 .done []))
      ∧ (feed = none → (s.holder h).outletIntent = .opened →
        exec (.isolate tag h) s = .next (withResponse (told ((s.setHolder h { s.holder h with
            active := none, next := none, activationWaits := false, state := st, outletIntent := .closed
            changeOver := some ⟨.isolated, .closeOutlet :: (if (s.holder h).inletIntent = .opened then [.closeInlet] else []),
              0, true, some (s.holder h).travel⟩ }).setDrive h (some .outletClosed))) tag 0x14 .done []))
      ∧ (feed = none → (s.holder h).outletIntent = .closed → (s.holder h).inletIntent = .opened →
        exec (.isolate tag h) s = .next (withResponse (told ((s.setHolder h { s.holder h with
            active := none, next := none, activationWaits := false, state := st, inletIntent := .closed
            changeOver := some ⟨.isolated, [.closeInlet], 0, true, some (s.holder h).travel⟩ }).setDrive h (some .inletClosed)))
          tag 0x14 .done [])))

/-! ### SETUP-ONLY requests -/

/-- SET-YARD writes each field it carries and no other (10 R182): a fallback is the barometer in use until a good barometer
reply has been taken, a lower booking share or fast share brings its count down (08 R163, 09 R170), and a scrub interval
starts or stops the scrub timer, one of 0 clearing the scrub-pending mark (08 R162), also while a granted check runs to its
end (log entry 35). With any field out of range nothing is written. -/
def Obligations.SetYardWritesTheFieldsItCarries : Prop :=
  ∀ (s : State) (tag : Byte) (f : YardSettings), Ready s → s.yard.mode = .setup →
    (yardSettingsOk f = false → exec (.setYard tag f) s = .next (withResponse s tag 0x01 .range []))
    ∧ (yardSettingsOk f = true → exec (.setYard tag f) s = .next (withResponse
      { s with
        yard := { s.yard with
          declaredCv := f.declaredCv.getD s.yard.declaredCv
          fallback := f.fallback.getD s.yard.fallback
          barometer := if s.yard.barometerTaken then s.yard.barometer else f.fallback.getD s.yard.barometer
          bookingShare := f.bookingShare.getD s.yard.bookingShare
          fastShare := f.fastShare.getD s.yard.fastShare
          replyWait := f.replyWait.getD s.yard.replyWait
          scrubInterval := f.scrubInterval.getD s.yard.scrubInterval
          priority := f.priority.getD s.yard.priority }
        line := { s.line with turnCount := min s.line.turnCount (f.fastShare.getD s.line.turnCount) }
        rst := { s.rst with
          scrubTimer := match f.scrubInterval with
            | none => s.rst.scrubTimer
            | some 0 => none
            | some v => some v
          scrubPending := s.rst.scrubPending && !decide (f.scrubInterval = some 0)
          arbiter := { s.rst.arbiter with
            count := min s.rst.arbiter.count (f.bookingShare.getD s.rst.arbiter.count)
            scrubWaits := s.rst.arbiter.scrubWaits && !decide (f.scrubInterval = some 0) } } }
      tag 0x01 .done []))

/-- SET-HOLDER (02 R19, R20): a number above 5 is NO-RECORD, settings out of range RANGE, a crown entry that is not there or no
CROWN NO-RECORD, one of another holder IN-USE; a holder newly fitted takes its configuration, stands landed and RECOVERING with
both intents CLOSED, its stock worked out at height 0 and 60.0 degrees, is linked to the crown entry it names or keeps the one
it had, and DIC is told its values. A fitted holder that is set again takes its configuration and keeps its working fields and
its state. One with an intent OPEN, a change-over in flight or a place in a feed or standby list may not be unfitted; another
keeps the configuration it is given, and its crown entry is released. A holder that is not newly fitted and whose crown entry
changes has the one before released with its pending command, its answering flag and jump candidate cleared, DIC told where the
flag was set, and the drive of a move in flight placed on the entry newly named; one whose entry does not change has no more
than its configuration written. The order of two refusals is the model's choice (log entry 15), as it is that a holder being
unfitted takes up no entry it names, and that the drive is placed also where no entry was linked before (log entry 19). -/
def Obligations.SetHolderFitsAHolder : Prop :=
  ∀ (s : State) (tag : Byte) (h : HolderId) (f : HolderSettings), Ready s → s.yard.mode = .setup →
    (∀ n, 6 ≤ n → exec (.setHolder tag n f) s = .next (withResponse s tag 0x02 .noRecord []))
    ∧ (settingsValid f = false → exec (.setHolder tag h f) s = .next (withResponse s tag 0x02 .range []))
    ∧ (settingsValid f = true → f.crownEntry = none → f.fitted = false → (s.holder h).fitted = true →
      ((s.holder h).inletIntent = .opened ∨ (s.holder h).outletIntent = .opened ∨ (s.holder h).changeOver ≠ none
        ∨ ∃ d, h ∈ (s.district d).feeds ∨ h ∈ (s.district d).standby) →
      exec (.setHolder tag h f) s = .next (withResponse s tag 0x02 .wrongState []))
    ∧ (settingsValid f = true → f.fitted = true → (s.holder h).fitted = false →
      f.crownEntry = (s.crownEntry h).map (·.address) →
      (∀ a, f.crownEntry = some a → ∃ e, s.line.entry a = some e ∧ e.kind = .crown ∧ e.link = .holder h) →
      exec (.setHolder tag h f) s = .next (withResponse
        ((s.setHolder h { s.holder h with
            fitted := true, lifts := f.lifts, landed := f.landed, lowStop := f.lowStop, topStop := f.topStop
            maxStep := f.maxStep, travel := f.travel.getD 120, inletIntent := .closed, outletIntent := .closed
            isolated := false, faulted := false, faultReason := none, faultStep := 0, height := 0, temp := 600, stage := 0
            stagePressure := 0, gv := f.landed, stock := stockOf f.landed (correction s.yard.barometer 0 600)
            stockClamped := decide (clampBarometer s.yard.barometer ≠ s.yard.barometer), lastOrder := none
            terminal := false, state := .recovering, changeOver := none, active := none, next := none
            activationWaits := false, startStock := none, remainder := none, answering := false, jump := none
            provedInlet := .unknown, provedOutlet := .unknown }).send
          (.holderValuesNotice ⟨h, false, 0, none, false, false⟩))
        tag 0x02 .done []))
    ∧ (∀ a, settingsValid f = true → f.crownEntry = some a →
      (s.line.entry a = none → exec (.setHolder tag h f) s = .next (withResponse s tag 0x02 .noRecord []))
      ∧ (∀ e, s.line.entry a = some e → e.kind ≠ .crown →
        exec (.setHolder tag h f) s = .next (withResponse s tag 0x02 .noRecord []))
      ∧ (∀ e g, s.line.entry a = some e → e.kind = .crown → e.link = .holder g → g ≠ h →
        exec (.setHolder tag h f) s = .next (withResponse s tag 0x02 .inUse []))
      ∧ (∀ e, s.line.entry a = some e → e.kind = .crown → e.link = .none → s.crownEntry h = none → f.fitted = true →
        (s.holder h).fitted = false → (s.holder h).changeOver = none →
        ∃ t u, exec (.setHolder tag h { f with crownEntry := none }) s = .next u ∧ exec (.setHolder tag h f) s = .next t
          ∧ t = { u with line := { s.line with
              entries := s.line.entries.map fun e => if e.address = a then { e with link := .holder h, handed := false } else e } }))
    ∧ (∀ (named : Option Nat) (x y : Holder) (es : List PollEntry), settingsValid f = true →
      ((s.holder h).fitted = true ∨ f.fitted = false) →
      ((s.holder h).fitted = true → f.fitted = false → (s.holder h).inletIntent = .closed ∧ (s.holder h).outletIntent = .closed
        ∧ (s.holder h).changeOver = none ∧ s.feedOf h = none
        ∧ ∀ d, h ∉ (s.district d).feeds ∧ h ∉ (s.district d).standby) →
      (∀ a, f.crownEntry = some a → ∃ e, s.line.entry a = some e ∧ e.kind = .crown ∧ (e.link = .none ∨ e.link = .holder h)) →
      named = (if (s.holder h).fitted = true ∧ f.fitted = false then none else f.crownEntry) →
      x = { s.holder h with
        fitted := f.fitted, lifts := f.lifts, landed := f.landed, lowStop := f.lowStop, topStop := f.topStop
        maxStep := f.maxStep, travel := f.travel.getD 120 } →
      (named = (s.crownEntry h).map (·.address) →
        exec (.setHolder tag h f) s = .next (withResponse (s.setHolder h x) tag 0x02 .done []))
      ∧ (named ≠ (s.crownEntry h).map (·.address) → pollSound s.line = true →
        (∀ a e, named = some a → s.line.entry a = some e → e.link = .none) →
        y = (if s.crownEntry h = none then x else { x with answering := false, jump := none }) →
        es = (s.line.entries.map fun e =>
          if named = some e.address then { e with
            link := .holder h, handed := false
            command := ((driveInFlight (s.holder h)).map Command.drive).orElse fun _ => e.command }
          else if e.kind = .crown ∧ e.link = .holder h then { e with link := .none, command := none, handed := false }
          else e) →
        exec (.setHolder tag h f) s = .next (withResponse
          (let t := { s.setHolder h y with line := { s.line with entries := es } }
          if s.crownEntry h ≠ none ∧ (s.holder h).answering = true then
            t.send (.holderValuesNotice ⟨h, false, (s.holder h).stagePressure, none, false, false⟩)
          else t) tag 0x02 .done [])))

/-- SET-DISTRICT-STATIONS (04 R63), for its governor station and its tell-tale station alike: a free entry of the kind named is
linked to the district and the entry linked before is released with its pending command; a governor newly named takes up the
loading in flight. An address of no entry, or of one of another kind, is NO-RECORD, one linked to another district IN-USE, one
above 62 RANGE, a number above 7 NO-RECORD. An address of 0 releases the station of a district OUT and is WRONG-STATE
otherwise; an absent address, and one that names the entry linked already, leave the station as it was. Both stations may be
named at once, and a request refused for either changes neither. The order of two refusals and the answer to an address above
62 are the model's choice (log entry 15). -/
def Obligations.SetDistrictStationsLinksTheGovernor : Prop :=
  ∀ (s : State) (tag : Byte) (d : DistrictId), Ready s → s.yard.mode = .setup →
    (∀ n g t, 8 ≤ n → exec (.setDistrictStations tag n g t) s = .next (withResponse s tag 0x03 .noRecord []))
    ∧ exec (.setDistrictStations tag d none none) s = .next (withResponse s tag 0x03 .done [])
    ∧ (∀ a x, 62 < a →
      exec (.setDistrictStations tag d (some a) x) s = .next (withResponse s tag 0x03 .range [])
      ∧ exec (.setDistrictStations tag d x (some a)) s = .next (withResponse s tag 0x03 .range []))
    ∧ (∀ (kind : EntryKind) (names : Option Nat → Instr),
      ((kind = .governor ∧ names = fun a => .setDistrictStations tag d a none)
        ∨ (kind = .telltale ∧ names = fun a => .setDistrictStations tag d none a)) →
      ((s.district d).state ≠ .out → exec (names (some 0)) s = .next (withResponse s tag 0x03 .wrongState []))
      ∧ ((s.district d).state = .out → exec (names (some 0)) s = .next (withResponse
        { s with line := { s.line with
          entries := s.line.entries.map fun e => if e.kind = kind ∧ e.link = .district d then
            { e with link := .none, command := none, handed := false } else e } }
        tag 0x03 .done []))
      ∧ (∀ a, 1 ≤ a → a ≤ 62 →
        (s.line.entry a = none → exec (names (some a)) s = .next (withResponse s tag 0x03 .noRecord []))
        ∧ (∀ e, s.line.entry a = some e →
          (e.kind ≠ kind → exec (names (some a)) s = .next (withResponse s tag 0x03 .noRecord []))
          ∧ (∀ c, e.kind = kind → e.link = .district c → c ≠ d →
            exec (names (some a)) s = .next (withResponse s tag 0x03 .inUse []))
          ∧ (e.kind = kind → e.link = .none → s.line.linked kind (.district d) = none →
            (kind = .governor → (s.district d).inFlight = none) →
            exec (names (some a)) s = .next (withResponse
              { s with line := { s.line with
                entries := s.line.entries.map fun x =>
                  if x.address = a then { x with link := .district d, handed := false } else x } }
              tag 0x03 .done []))
          ∧ (s.line.linked kind (.district d) = some e → exec (names (some a)) s = .next (withResponse s tag 0x03 .done []))
          ∧ (e.kind = kind → e.link = .none → pollSound s.line = true →
            exec (names (some a)) s = .next (withResponse
              { s with line := { s.line with
                entries := s.line.entries.map fun x =>
                  if x.address = a then { x with
                    link := .district d, handed := false
                    command := if kind = .governor then ((s.district d).inFlight.map Command.loading).orElse fun _ => x.command
                      else x.command }
                  else if x.kind = kind ∧ x.link = .district d then { x with link := .none, command := none, handed := false }
                  else x } }
              tag 0x03 .done [])))))
    ∧ (∀ a b e u, 1 ≤ a → a ≤ 62 → 1 ≤ b → b ≤ 62 → s.line.entry a = some e → e.kind = .governor → e.link = .none →
      s.line.entry b = some u → u.kind = .telltale → u.link = .none → pollSound s.line = true →
      s.governorEntry d = none → s.telltaleEntry d = none → (s.district d).inFlight = none →
      exec (.setDistrictStations tag d (some a) (some b)) s = .next (withResponse
        { s with line := { s.line with
          entries := s.line.entries.map fun x =>
            if x.address = a ∨ x.address = b then { x with link := .district d, handed := false } else x } }
        tag 0x03 .done []))
    ∧ (∀ (x y : Option Nat) (result : Result), result ≠ .done →
      (optWithin 0 62 y = true →
        exec (.setDistrictStations tag d x none) s = .next (withResponse s tag 0x03 result []) →
        exec (.setDistrictStations tag d x y) s = .next (withResponse s tag 0x03 result []))
      ∧ (∀ t, exec (.setDistrictStations tag d x none) s = .next (withResponse t tag 0x03 .done []) →
        exec (.setDistrictStations tag d none y) s = .next (withResponse s tag 0x03 result []) →
        exec (.setDistrictStations tag d x y) s = .next (withResponse s tag 0x03 result [])))

/-- SET-OUTSTATION (09 R168, R169): a new entry goes to the end of the list UNTRIED and, on an empty list, is polled at once;
an entry owned by a holder or district is IN-USE; one that nobody owns, no meter, leaves the list; no entry is NO-RECORD, and
a retry limit of no such value RANGE. Another kind is IN-USE for an owned entry, and the same kind writes the retry limit
alone. -/
def Obligations.SetOutstationEditsThePollList : Prop :=
  ∀ (s : State) (tag : Byte) (a : Nat) (k : EntryKind) (r : Nat), Ready s → s.yard.mode = .setup → 1 ≤ a → a ≤ 62 →
    (r = 1 ∨ r = 3 ∨ r = 7 ∨ r = 15 → s.line.entry a = none → s.line.entries.length < 48 → s.line.kindFull k = false →
      s.line.dead = false → s.line.exchange.isSome = true →
      exec (.setOutstation tag a .set (some k) (some r)) s = .next (withResponse
        { s with line := { s.line with entries := s.line.entries ++ [newEntry a k r] } } tag 0x04 .done []))
    ∧ (r = 1 ∨ r = 3 ∨ r = 7 ∨ r = 15 → s.line.entries = [] → s.line.dead = false → s.line.exchange = none → s.line.tx = [] →
      s.line.ordPos = 0 → (k = .crown ∨ k = .meter ∨ k = .barometer) →
      exec (.setOutstation tag a .set (some k) (some r)) s = .next (withResponse
        { s with line := { s.line with
          entries := [newEntry a k r], ordPos := 1, exchange := some ⟨a, true, none, s.yard.replyWait, false⟩
          tx := pollFrame a k none, lateFrame := false } } tag 0x04 .done []))
    ∧ (∀ e, (r = 1 ∨ r = 3 ∨ r = 7 ∨ r = 15) → s.line.entry a = some e →
      (e.kind = k → exec (.setOutstation tag a .set (some k) (some r)) s = .next (withResponse
        { s with line := { s.line with
          entries := s.line.entries.map fun e => if e.address = a then { e with retry := r } else e } } tag 0x04 .done []))
      ∧ (e.kind ≠ k → ((∃ h, e.link = .holder h) ∨ ∃ d, e.link = .district d) →
        exec (.setOutstation tag a .set (some k) (some r)) s = .next (withResponse s tag 0x04 .inUse [])))
    ∧ (r ≠ 1 ∧ r ≠ 3 ∧ r ≠ 7 ∧ r ≠ 15 →
      exec (.setOutstation tag a .set (some k) (some r)) s = .next (withResponse s tag 0x04 .range []))
    ∧ (s.line.entry a = none →
      exec (.setOutstation tag a .delete none none) s = .next (withResponse s tag 0x04 .noRecord []))
    ∧ (∀ e, s.line.entry a = some e → ((∃ h, e.link = .holder h) ∨ ∃ d, e.link = .district d) →
      exec (.setOutstation tag a .delete none none) s = .next (withResponse s tag 0x04 .inUse []))
    ∧ (∀ e, pollSound s.line = true → s.line.entry a = some e → (e.link = .none ∨ e.link = .yard) → e.kind ≠ .meter →
      ∃ t, exec (.setOutstation tag a .delete none none) s = .next t
        ∧ t.line.entries = s.line.entries.filter (fun x => decide (x.address ≠ a))
        ∧ { t with line := s.line, inTransit := s.inTransit } = withResponse s tag 0x04 .done [])

/-- SET-CHANNEL (06 R111, R117, R128): no METER entry at the address is NO-RECORD, a channel above 3 or a value out of range
RANGE. A channel that is enabled or disabled, or an enabled one whose point or constant changes, is removed first: its queue
entry leaves, one of another channel standing, its base is not taken, and a booking of it in hand whose access has not been
granted is dropped, while one in hand of another channel, or one already MARKING, goes on. One that stays disabled, or whose
limit alone changes, is written and keeps the rest. The order of two refusals is the model's choice (log entry 15). -/
def Obligations.SetChannelBindsAChannel : Prop :=
  ∀ (s : State) (tag : Byte) (a p k l : Nat) (on : Bool), Ready s → s.yard.mode = .setup →
    (∀ ch, s.line.entry a = none →
      exec (.setChannel tag a ch on p k l) s = .next (withResponse s tag 0x05 .noRecord []))
    ∧ (∀ e ch, s.line.entry a = some e → e.kind ≠ .meter →
      exec (.setChannel tag a ch on p k l) s = .next (withResponse s tag 0x05 .noRecord []))
    ∧ (∀ e ch, s.line.entry a = some e → e.kind = .meter →
      (4 ≤ ch ∨ 4095 < p ∨ k = 0 ∨ 10000 < k ∨ l = 0 ∨ 4095 < l) →
      exec (.setChannel tag a ch on p k l) s = .next (withResponse s tag 0x05 .range []))
    ∧ (∀ (e : PollEntry) (ch : Fin 4) (c : Channel), s.line.entry a = some e → e.kind = .meter → p ≤ 4095 → 1 ≤ k → k ≤ 10000 →
      1 ≤ l → l ≤ 4095 → c = e.channels[ch] →
      (∀ q : List QueueEntry, (c.enabled ≠ on ∨ (c.enabled = true ∧ (c.point ≠ p ∨ c.constant ≠ k))) →
        q = s.bke.queue.filter (fun x => !(decide (x.address = a) && decide (x.channel = ch))) →
        ((∀ h, s.bke.inHand = some h → h.address = a → h.channel = ch → ∃ slot barred own, h.phase = .marking slot barred own) →
          ∃ t, exec (.setChannel tag a ch on p k l) s = .next t
            ∧ t.channel a ch = some { c with
                enabled := on, point := p, constant := k, limit := l, baseTaken := false, latest := none, waiting := false }
            ∧ (∀ b d, b ≠ a ∨ d ≠ ch → t.channel b d = s.channel b d)
            ∧ { t with line := s.line } = withResponse { s with bke := { s.bke with queue := q } } tag 0x05 .done [])
        ∧ (∀ h, s.bke.inHand = some h → h.address = a → h.channel = ch →
          ((∃ w, h.phase = .resolving w) ∨ ∃ f b, h.phase = .committing f b) →
          (∀ g, s.rst.arbiter.serving = some g → g.requester ≠ .bke) → q = [] →
          ∃ t, exec (.setChannel tag a ch on p k l) s = .next t
            ∧ t.channel a ch = some { c with
                enabled := on, point := p, constant := k, limit := l, baseTaken := false, latest := none, waiting := false }
            ∧ (∀ b d, b ≠ a ∨ d ≠ ch → t.channel b d = s.channel b d)
            ∧ { t with line := s.line } = withResponse { s with
                bke := { s.bke with queue := [], inHand := none }
                rst := { s.rst with arbiter := { s.rst.arbiter with bkeWaits := false } } } tag 0x05 .done []))
      ∧ (c.enabled = on → (on = true → c.point = p ∧ c.constant = k) →
        ∃ t, exec (.setChannel tag a ch on p k l) s = .next t
          ∧ t.channel a ch = some { c with point := p, constant := k, limit := l }
          ∧ (∀ b d, b ≠ a ∨ d ≠ ch → t.channel b d = s.channel b d)
          ∧ { t with line := s.line } = withResponse s tag 0x05 .done []))

/-! ### Orders and RETURN -/

/-- ORDER (03 R38 to R41, R43, R46): refused for no record and in a state that takes no orders; a FILL placed while a
change-over is in flight waits as the ACTIVE order, an earlier order's start stock and remainder standing until it is
activated (log entry 27); one placed behind an ACTIVE order becomes NEXT; a third is FULL; and a FILL on a STANDING holder
with room sets the inlet intent OPEN, drives it and starts the move timer, while one at its top stop ends SHORT at once with
its remainder at its quantity. A crown reply tracks an ACTIVE quantity order against its start stock (R50): while it is under
way its remainder is worked; one that reaches its quantity ends COMPLETE, with the terminal mark, and with no NEXT order
behind it a FILL closes its inlet, a DRAW with CONTINUE draws on, one with STAND leaves its district, but for the only
answering feed of a district in service, which is FORCED-CONTINUE (R52, R53); a STAND order behind it is activated. The feed
lists are read with the notices in transit taken as given (log entry 5). The only answering feed is judged by the holders' own
answering flags (log entry 20). -/
def Obligations.OrderIsPlacedByTheStackRules : Prop :=
  ∀ (s : State) (tag : Byte) (h : HolderId) (q : Option Nat), Ready s → s.yard.mode = .working → optWithin 1 16000000 q = true →
    (∀ n, 6 ≤ n → exec (.order tag n .fill none q none) s = .next (withResponse s tag 0x10 .noRecord []))
    ∧ ((s.holder h).fitted = false → exec (.order tag h .fill none q none) s = .next (withResponse s tag 0x10 .noRecord []))
    ∧ ((s.holder h).fitted = true →
      ((s.holder h).state = .recovering ∨ (s.holder h).state = .isolated ∨ (s.holder h).state = .faulted) →
      exec (.order tag h .fill none q none) s = .next (withResponse s tag 0x10 .wrongState []))
    ∧ (∀ c, (s.holder h).fitted = true → (s.holder h).state = .changing → (s.holder h).changeOver = some c →
      c.target ≠ .isolated → (s.holder h).active = none →
      exec (.order tag h .fill none q none) s = .next (withResponse
        (s.setHolder h { s.holder h with
          active := some ⟨.fill, none, q, .stand, false⟩, activationWaits := true
          remainder := match (s.holder h).remainder with
            | none => q
            | some v => some v
          lastOrder := if q.isSome then some ⟨.fill, none, q, .stand, false⟩ else (s.holder h).lastOrder })
        tag 0x10 .done []))
    ∧ (∀ c o, (s.holder h).fitted = true → (s.holder h).state = .changing → (s.holder h).changeOver = some c →
      c.target ≠ .isolated → (s.holder h).active = some o → (s.holder h).next = none →
      exec (.order tag h .fill none q none) s = .next (withResponse
        (s.setHolder h { s.holder h with
          next := some ⟨.fill, none, q, .stand, false⟩
          lastOrder := if q.isSome then some ⟨.fill, none, q, .stand, false⟩ else (s.holder h).lastOrder })
        tag 0x10 .done []))
    ∧ (∀ o p, (s.holder h).fitted = true → (s.holder h).takesOrders = true → (s.holder h).active = some o →
      (s.holder h).next = some p →
      exec (.order tag h .fill none q none) s = .next (withResponse s tag 0x10 .full []))
    ∧ ((s.holder h).fitted = true → (s.holder h).state = .standing → (s.holder h).changeOver = none →
      (s.holder h).active = none → (s.holder h).next = none → (s.holder h).inletIntent = .closed →
      (s.holder h).outletIntent = .closed → s.feedOf h = none → (s.holder h).height < (s.holder h).topStop →
      s.wasTopStop h = false →
      exec (.order tag h .fill none q none) s = .next (withResponse
        ((s.setHolder h { s.holder h with
          active := some ⟨.fill, none, q, .stand, false⟩, activationWaits := false, startStock := none, remainder := q
          lastOrder := if q.isSome then some ⟨.fill, none, q, .stand, false⟩ else (s.holder h).lastOrder
          state := .changing, inletIntent := .opened
          changeOver := some ⟨.filling, [.openInlet], 0, true, some (s.holder h).travel⟩ }).setDrive h (some .inletOpen))
        tag 0x10 .done []))
    ∧ ((s.holder h).fitted = true → (s.holder h).state = .standing → (s.holder h).changeOver = none →
      (s.holder h).active = none → (s.holder h).next = none →
      ((s.holder h).topStop ≤ (s.holder h).height ∨ s.wasTopStop h = true) →
      exec (.order tag h .fill none q none) s = .next (withResponse
        (s.setHolder h { s.holder h with
          activationWaits := false, startStock := none, remainder := q
          lastOrder := if q.isSome then some ⟨.fill, none, q, .stand, false⟩ else (s.holder h).lastOrder
          latches := { (s.holder h).latches with orderShort := true } })
        tag 0x10 .done []))
    ∧ (∀ (c : CrownReading) (o : Order) (n st : Nat), (s.holder h).fitted = true → (s.crownEntry h).isSome = true →
      (s.holder h).changeOver = none → (s.holder h).answering = true → (s.holder h).active = some o →
      (s.holder h).activationWaits = false → (s.holder h).startStock = some st → o.quantity = some n →
      c.height ≤ totalStroke (s.holder h).lifts → c.height ≤ (s.holder h).height + (s.holder h).maxStep →
      (s.holder h).height ≤ c.height + (s.holder h).maxStep → c.landing = false → c.topStop = false →
      c.inletOpen = decide ((s.holder h).inletIntent = .opened) → c.inletClosed = decide ((s.holder h).inletIntent = .closed) →
      c.outletOpen = decide ((s.holder h).outletIntent = .opened) → c.outletClosed = decide ((s.holder h).outletIntent = .closed) →
      ∀ r : Holder, r = ({ s.holder h with
          height := c.height, temp := c.temp, jump := none
          provedInlet := if (s.holder h).inletIntent = Valve.opened then Proved.opened else .closed
          provedOutlet := if (s.holder h).outletIntent = Valve.opened then Proved.opened else .closed }).recompute s.yard.barometer →
        r.stagePressure = (s.holder h).stagePressure →
        (o.kind = .fill → (s.holder h).state = .filling → (s.holder h).inletIntent = .opened → (s.holder h).outletIntent = .closed →
          s.feedOf h = none → c.height < (s.holder h).topStop →
          (r.stock - st < n → exec (.crownReply h c) s
            = .next ((s.taken (.crownReply h c)).setHolder h { r with remainder := some (n - (r.stock - st)) }))
          ∧ (n ≤ r.stock - st → (s.holder h).next = none → exec (.crownReply h c) s
            = .next (((s.taken (.crownReply h c)).setHolder h { r with
              remainder := some 0, terminal := true, active := none, latches := { (s.holder h).latches with orderDone := true }
              state := .changing, inletIntent := .closed
              changeOver := some ⟨.standing, [.closeInlet], 0, true, some (s.holder h).travel⟩ }).setDrive h (some .inletClosed)))
          ∧ (∀ p, n ≤ r.stock - st → (s.holder h).next = some p → p = ⟨.stand, none, none, .stand, false⟩ →
            exec (.crownReply h c) s = .next (((s.taken (.crownReply h c)).setHolder h { r with
              remainder := none, startStock := none, terminal := true, active := some p, next := none
              latches := { (s.holder h).latches with orderDone := true }
              state := .changing, inletIntent := .closed
              changeOver := some ⟨.standing, [.closeInlet], 0, true, some (s.holder h).travel⟩ }).setDrive h (some .inletClosed))))
        ∧ (∀ d, o.kind = .draw → o.district = some d → (s.holder h).state = .drawing → (s.holder h).inletIntent = .closed →
          (s.holder h).outletIntent = .opened → s.feedOf h = some d → (s.holder h).lowStop < c.height →
          (st - r.stock < n → exec (.crownReply h c) s
            = .next ((s.taken (.crownReply h c)).setHolder h { r with remainder := some (n - (st - r.stock)) }))
          ∧ (n ≤ st - r.stock → (s.holder h).next = none →
            (o.endAction = .cont → exec (.crownReply h c) s
              = .next ((s.taken (.crownReply h c)).setHolder h { r with
                remainder := some 0, terminal := true, active := none
                latches := { (s.holder h).latches with orderDone := true } }))
            ∧ (o.endAction = .stand → (s.district d).state.inService = true →
              (∀ g ∈ (s.district d).feeds, g = h ∨ (s.holder g).answering = false) → exec (.crownReply h c) s
              = .next ((s.taken (.crownReply h c)).setHolder h { r with
                remainder := some 0, terminal := true, active := none
                latches := { (s.holder h).latches with orderDone := true, forcedContinue := true } }))
            ∧ (o.endAction = .stand → ((s.district d).state.inService = false
                ∨ ∃ g ∈ (s.district d).feeds, g ≠ h ∧ (s.holder g).answering = true) → exec (.crownReply h c) s
              = .next (((s.taken (.crownReply h c)).setHolder h { r with
                remainder := some 0, terminal := true, active := none
                latches := { (s.holder h).latches with orderDone := true }, state := .changing
                changeOver := some ⟨.standing, [.leave, .closeOutlet], 0, true, none⟩ }).send
                  (.leaveNotice ⟨h, true, r.stagePressure, none, false, false⟩))))))

/-- REPEAT (03 R38, R42, R43, R49) is executed as the ORDER of the holder's last quantity order, a FILL or a DRAW, and answered as
that is: behind a change-over the copy waits as an order does (log entry 27), on a STANDING holder it builds its change-over,
or a FILL at the top stop ends SHORT, and on one DRAWING from its district it starts its tracking. Without a last quantity
order it is NO-RECORD, and WRONG-STATE in the states that take no order. RETURN puts an ISOLATED holder, or a FAULTED one with
no change-over, with both valves proved CLOSED back to STANDING and tells DIC; it is refused while a valve is not proved
CLOSED, in the other states and while an ISOLATE change-over of a FAULTED holder is in flight (03 R59). Neither finds a
record of a holder not fitted. -/
def Obligations.RepeatAndReturn : Prop :=
  ∀ (s : State) (tag : Byte) (h : HolderId), Ready s →
    (s.yard.mode = .working → (s.holder h).fitted = true → (s.holder h).takesOrders = true → (s.holder h).lastOrder = none →
      exec (.repeatOrder tag h) s = .next (withResponse s tag 0x11 .noRecord []))
    ∧ (∀ c q, s.yard.mode = .working → (s.holder h).fitted = true → (s.holder h).state = .changing →
      (s.holder h).changeOver = some c → c.target ≠ .isolated → (s.holder h).active = none →
      (s.holder h).lastOrder = some ⟨.fill, none, some q, .stand, false⟩ →
      exec (.repeatOrder tag h) s = .next (withResponse
        (s.setHolder h { s.holder h with
          active := some ⟨.fill, none, some q, .stand, false⟩, activationWaits := true
          remainder := match (s.holder h).remainder with
            | none => some q
            | some v => some v }) tag 0x11 .done []))
    ∧ ((s.holder h).fitted = true → (s.holder h).state = .isolated → (s.holder h).provedInlet = .closed →
      (s.holder h).provedOutlet = .closed →
      exec (.returnHolder tag h) s = .next (withResponse
        ((s.setHolder h { s.holder h with
          inletIntent := .closed, outletIntent := .closed, isolated := false, faulted := false, faultReason := none
          faultStep := 0, state := .standing }).send
          (.standingNotice ⟨h, (s.holder h).answering, (s.holder h).stagePressure, none, false, false⟩))
        tag 0x12 .done []))
    ∧ ((s.holder h).fitted = true → ((s.holder h).provedInlet ≠ .closed ∨ (s.holder h).provedOutlet ≠ .closed) →
      exec (.returnHolder tag h) s = .next (withResponse s tag 0x12 .wrongState []))
    ∧ (∀ n, 6 ≤ n → (s.yard.mode = .working → exec (.repeatOrder tag n) s = .next (withResponse s tag 0x11 .noRecord []))
      ∧ exec (.returnHolder tag n) s = .next (withResponse s tag 0x12 .noRecord []))
    ∧ ((s.holder h).fitted = false → (s.yard.mode = .working → exec (.repeatOrder tag h) s = .next (withResponse s tag 0x11 .noRecord []))
      ∧ exec (.returnHolder tag h) s = .next (withResponse s tag 0x12 .noRecord []))
    ∧ (s.yard.mode = .working → (s.holder h).fitted = true →
      ((s.holder h).state = .recovering ∨ (s.holder h).state = .isolated ∨ (s.holder h).state = .faulted
        ∨ ((s.holder h).state = .changing ∧ ∃ c, (s.holder h).changeOver = some c ∧ c.target = .isolated)) →
      exec (.repeatOrder tag h) s = .next (withResponse s tag 0x11 .wrongState []))
    ∧ (∀ q : Nat, s.yard.mode = .working → (s.holder h).fitted = true → 1 ≤ q → q ≤ 16000000 →
      ((s.holder h).lastOrder = some ⟨.fill, none, some q, .stand, false⟩ → ∃ t result, t.rex = s.rex
        ∧ exec (.order tag h .fill none (some q) none) s = .next (withResponse t tag 0x10 result [])
        ∧ exec (.repeatOrder tag h) s = .next (withResponse t tag 0x11 result []))
      ∧ (∀ (d : DistrictId) (e : EndAction), (s.holder h).lastOrder = some ⟨.draw, some d, some q, e, false⟩ → ∃ t result, t.rex = s.rex
        ∧ exec (.order tag h .draw (some d) (some q) (some e)) s = .next (withResponse t tag 0x10 result [])
        ∧ exec (.repeatOrder tag h) s = .next (withResponse t tag 0x11 result [])))
    ∧ (∀ q, s.yard.mode = .working → (s.holder h).fitted = true → (s.holder h).changeOver = none → (s.holder h).active = none →
      ((s.holder h).state = .standing → (s.holder h).lastOrder = some ⟨.fill, none, some q, .stand, false⟩ →
        ((s.holder h).topStop ≤ (s.holder h).height ∨ s.wasTopStop h = true → (s.holder h).next = none →
          exec (.repeatOrder tag h) s = .next (withResponse (s.setHolder h { s.holder h with
            activationWaits := false, startStock := none, remainder := some q
            latches := { (s.holder h).latches with orderShort := true } }) tag 0x11 .done []))
        ∧ ((s.holder h).height < (s.holder h).topStop → s.wasTopStop h = false → s.feedOf h = none →
          (s.holder h).inletIntent = .closed → (s.holder h).outletIntent = .closed →
          exec (.repeatOrder tag h) s = .next (withResponse ((s.setHolder h { s.holder h with
            active := some ⟨.fill, none, some q, .stand, false⟩, activationWaits := false, startStock := none, remainder := some q
            state := .changing, inletIntent := .opened
            changeOver := some ⟨.filling, [.openInlet], 0, true, some (s.holder h).travel⟩ }).setDrive h (some .inletOpen))
            tag 0x11 .done [])))
      ∧ (∀ (d : DistrictId) (e : EndAction), (s.holder h).lastOrder = some ⟨.draw, some d, some q, e, false⟩ →
        (s.district d).state ≠ .out → (s.district d).state ≠ .tripped → (s.holder h).lowStop < (s.holder h).height →
        s.wasLanding h = false →
        ((s.holder h).state = .standing → s.feedOf h = none → h ∉ (s.district d).feeds →
          (s.district d).feeds.length + joinsHeld s d < 3 → (s.holder h).inletIntent = .closed → (s.holder h).outletIntent = .closed →
          exec (.repeatOrder tag h) s = .next (withResponse
            (((s.setHolder h { s.holder h with
                active := some ⟨.draw, some d, some q, e, false⟩, activationWaits := false, startStock := none, remainder := some q
                state := .changing, outletIntent := .opened
                changeOver := some ⟨.drawing d, [.openOutlet, .join d], 0, true, some (s.holder h).travel⟩ }).setDrive h
                  (some .outletOpen)).send
              (.joinPendingNotice ⟨h, (s.holder h).answering, (s.holder h).stagePressure, none, false, false⟩ d))
            tag 0x11 .done []))
        ∧ ((s.holder h).state = .drawing → s.feedOf h = some d → h ∈ (s.district d).feeds →
          exec (.repeatOrder tag h) s = .next (withResponse (s.setHolder h { s.holder h with
            active := some ⟨.draw, some d, some q, e, false⟩, activationWaits := false, startStock := some (s.holder h).stock
            remainder := some q, terminal := false }) tag 0x11 .done []))))
    ∧ ((s.holder h).fitted = true → (s.holder h).state = .faulted → (s.holder h).changeOver = none →
      (s.holder h).provedInlet = .closed → (s.holder h).provedOutlet = .closed →
      exec (.returnHolder tag h) s = .next (withResponse
        ((s.setHolder h { s.holder h with
          inletIntent := .closed, outletIntent := .closed, isolated := false, faulted := false, faultReason := none
          faultStep := 0, state := .standing }).send
          (.standingNotice ⟨h, (s.holder h).answering, (s.holder h).stagePressure, none, false, false⟩))
        tag 0x12 .done []))
    ∧ ((s.holder h).fitted = true → ((s.holder h).state ≠ .isolated ∧ (s.holder h).state ≠ .faulted)
        ∨ ((s.holder h).state = .faulted ∧ ∃ c, (s.holder h).changeOver = some c ∧ c.target = .isolated) →
      exec (.returnHolder tag h) s = .next (withResponse s tag 0x12 .wrongState []))

/-! ### District requests -/

/-- SET-DISTRICT (04 R64, R68, R71, R72, R78 to R80), in every state of the district: each field carried is clamped into its
range, the steps of a schedule are clamped and stored by rising start minute, the compensation comes down to its maximum, the
set-point, loading and required pressure are worked again, and the answer tells whether a clamp acted. In service a changed
loading goes in flight to the governor, and the district takes the state its feeds give it, with the latch of a state it
enters. Entering SHORT or STARVED, and automatic joining turned on in one of them, are each an occasion to try a join; where
one is made it fails with no room or no candidate, or places an automatic DRAW on the first candidate of the standby list, and
a second occasion then waits (log entry 8). A number above 7 is NO-RECORD; an empty schedule or one of more than six steps, two
steps of one start minute, more than three standby holders or one named twice, and a floor above the ceiling are RANGE, and a
holder that is not there or not fitted is NO-RECORD. The order of two refusals is the model's choice (log entry 15). -/
def Obligations.SetDistrictClampsItsFields : Prop :=
  ∀ (s : State) (tag : Byte) (d : DistrictId) (f : DistrictSettings), Ready s →
    (∀ n, 8 ≤ n → exec (.setDistrict tag n f) s = .next (withResponse s tag 0x20 .noRecord []))
    ∧ (f.schedule = some [] → exec (.setDistrict tag d f) s = .next (withResponse s tag 0x20 .range []))
    ∧ (∀ l, f.schedule = some l → 6 < l.length → exec (.setDistrict tag d f) s = .next (withResponse s tag 0x20 .range []))
    ∧ ((∀ l, f.schedule = some l → 1 ≤ l.length ∧ l.length ≤ 6) →
      (∀ l, f.standby = some l → 3 < l.length →
        exec (.setDistrict tag d f) s = .next (withResponse s tag 0x20 .range []))
      ∧ (∀ l, f.standby = some l → l.length ≤ 3 →
        ((∃ n ∈ l, 6 ≤ n) → exec (.setDistrict tag d f) s = .next (withResponse s tag 0x20 .noRecord []))
        ∧ (∀ hs : List HolderId, l = hs.map Fin.val →
          ((∃ h ∈ hs, (s.holder h).fitted = false) → exec (.setDistrict tag d f) s = .next (withResponse s tag 0x20 .noRecord []))
          ∧ ((∀ h ∈ hs, (s.holder h).fitted = true) → ¬ hs.Nodup →
            exec (.setDistrict tag d f) s = .next (withResponse s tag 0x20 .range []))))
      ∧ (∀ (hs : List HolderId) (floor ceiling drop compMax : Nat),
        ((f.standby = none ∧ hs = (s.district d).standby)
          ∨ (f.standby = some (hs.map Fin.val) ∧ hs.length ≤ 3 ∧ hs.Nodup ∧ ∀ h ∈ hs, (s.holder h).fitted = true)) →
        floor = (f.floor.map (clampTo 20 150)).getD (s.district d).floor →
        ceiling = (f.ceiling.map (clampTo 20 150)).getD (s.district d).ceiling →
        drop = (f.drop.map (clampTo 0 50)).getD (s.district d).drop →
        compMax = (f.compMax.map (clampTo 0 40)).getD (s.district d).compMax →
        (∀ l, f.schedule = some l → ¬ (l.map fun t => min t.start 1439).Nodup →
          exec (.setDistrict tag d f) s = .next (withResponse s tag 0x20 .range []))
        ∧ (ceiling < floor → exec (.setDistrict tag d f) s = .next (withResponse s tag 0x20 .range []))
        ∧ (∀ (steps : List ScheduleStep) (setPoint comp loading : Nat) (st : DistrictState)
            (moved inService entered turnedOn tries : Bool) (t u : State) (result : Result),
          floor ≤ ceiling → steps.Pairwise (fun a b => a.start < b.start) →
          steps.Perm ((f.schedule.map fun l => l.map fun t => ⟨min t.start 1439, clampTo 10 150 t.setPoint⟩).getD
            (s.district d).schedule) →
          s.occasions = [] → inService = (s.district d).state.inService → (inService = true → s.attempt = none) →
          setPoint = setPointAt s.yard.minute (s.district d).setPoint steps → comp = min (s.district d).comp compMax →
          loading = clampTo floor ceiling (setPoint + comp) →
          moved = (inService && decide (loading ≠ (s.district d).loading)) →
          st = (if inService = true then stateOfFeeds s.view (s.district d).feeds (loading + drop) (s.district d).available
            else (s.district d).state) →
          entered = decide (st ≠ (s.district d).state ∧ st ≠ .serving) →
          turnedOn = (decide ((s.district d).autoJoin = false ∧ f.autoJoin = some true) && decide (st = .short ∨ st = .starved)) →
          tries = ((entered || turnedOn) && decide (s.yard.mode = .working ∧ f.autoJoin.getD (s.district d).autoJoin = true
            ∧ (s.district d).joinInHand = none)) →
          t = (s.modDistrict d fun r => { r with
            schedule := steps, standby := hs, floor := floor, ceiling := ceiling, drop := drop, compMax := compMax
            ttMin := (f.ttMin.map (clampTo 5 100)).getD r.ttMin
            ttBand := (f.ttBand.map (clampTo 1 20)).getD r.ttBand
            ttStep := (f.ttStep.map (clampTo 1 10)).getD r.ttStep
            autoJoin := f.autoJoin.getD r.autoJoin
            comp := comp, setPoint := setPoint, loading := loading, required := loading + drop
            inFlight := if moved = true then some loading else r.inFlight
            state := st
            latches := { r.latches with
              starved := r.latches.starved || (entered && decide (st = .starved))
              short := r.latches.short || (entered && decide (st = .short)) } }) →
          u = (if moved = true then t.setLoadingCommand d (some loading) else t) →
          result = (if (f.schedule.getD []).all (fun t => decide (t.start ≤ 1439) && within 10 150 t.setPoint)
              && optWithin 20 150 f.floor && optWithin 20 150 f.ceiling && optWithin 0 50 f.drop && optWithin 5 100 f.ttMin
              && optWithin 1 20 f.ttBand && optWithin 1 10 f.ttStep && optWithin 0 40 f.compMax
            then .done else .doneClamped) →
          (tries = false → exec (.setDistrict tag d f) s = .next (withResponse u tag 0x20 result []))
          ∧ (tries = true →
            (3 ≤ (s.district d).feeds.length + (s.district d).pendingJoins.length ∨ ∀ k ∈ hs, ¬ Candidate s (loading + drop) k) →
            exec (.setDistrict tag d f) s = .next (withResponse
              (u.modDistrict d fun r => { r with latches := { r.latches with autoJoinFailed := true } }) tag 0x20 result []))
          ∧ (∀ before k rest, tries = true → (s.district d).feeds.length + (s.district d).pendingJoins.length < 3 →
            hs = before ++ k :: rest → (∀ j ∈ before, ¬ Candidate s (loading + drop) j) → Candidate s (loading + drop) k →
            exec (.setDistrict tag d f) s = .next (withResponse
              { u with
                attempt := some ⟨d, k⟩, inTransit := u.inTransit ++ [.automaticDraw k d]
                occasions := if entered = true ∧ turnedOn = true then [d] else [] } tag 0x20 result [])))))

/-- DISTRICT-IN and DISTRICT-RESTORE (04 R84, R86): a district OUT with both stations, whose governor is ANSWERING and showed
no trip in its last good reply, and a TRIPPED one whose governor's last good reply shows the trip cleared, come into service:
the state its feeds give it is taken with its latch (R78), and its loading goes in flight to its governor (R72). A district in
service answers DONE, a TRIPPED one refuses DISTRICT-IN, one that is not TRIPPED refuses DISTRICT-RESTORE, as does one whose
governor has given no reply or still shows the trip; a missing station, a governor that is not ANSWERING and one that shows
the trip refuse DISTRICT-IN. That the last reply counts whatever the age of the entry's link is the model's choice (log entry
32). -/
def Obligations.DistrictComesIntoService : Prop :=
  ∀ (s : State) (tag : Byte) (d : DistrictId), Ready s →
    (∀ n, 8 ≤ n → exec (.districtIn tag n) s = .next (withResponse s tag 0x21 .noRecord [])
      ∧ exec (.districtRestore tag n) s = .next (withResponse s tag 0x23 .noRecord []))
    ∧ ((s.district d).state = .serving ∨ (s.district d).state = .short ∨ (s.district d).state = .starved →
      exec (.districtIn tag d) s = .next (withResponse s tag 0x21 .done []))
    ∧ ((s.district d).state = .tripped → exec (.districtIn tag d) s = .next (withResponse s tag 0x21 .wrongState []))
    ∧ ((s.district d).state ≠ .tripped → exec (.districtRestore tag d) s = .next (withResponse s tag 0x23 .wrongState []))
    ∧ ((s.district d).state = .out →
      (s.telltaleEntry d = none → exec (.districtIn tag d) s = .next (withResponse s tag 0x21 .wrongState []))
      ∧ (s.governorEntry d = none → exec (.districtIn tag d) s = .next (withResponse s tag 0x21 .wrongState []))
      ∧ (∀ e, s.governorEntry d = some e →
        (e.state ≠ .answering → exec (.districtIn tag d) s = .next (withResponse s tag 0x21 .wrongState []))
        ∧ (∀ g, e.last = some (.governor g) → g.trip = true →
          exec (.districtIn tag d) s = .next (withResponse s tag 0x21 .wrongState []))))
    ∧ ((s.district d).state = .tripped →
      (s.governorEntry d = none → exec (.districtRestore tag d) s = .next (withResponse s tag 0x23 .wrongState []))
      ∧ (∀ e, s.governorEntry d = some e →
        (e.last = none → exec (.districtRestore tag d) s = .next (withResponse s tag 0x23 .wrongState []))
        ∧ (∀ g, e.last = some (.governor g) → g.trip = true →
          exec (.districtRestore tag d) s = .next (withResponse s tag 0x23 .wrongState []))))
    ∧ ((s.district d).autoJoin = false → s.occasions = [] → s.attempt = none →
      ∀ e g st, s.governorEntry d = some e → e.last = some (.governor g) → g.trip = false →
        st = stateOfFeeds s.view (s.district d).feeds (s.district d).required (s.district d).available →
        ((s.district d).state = .out → (s.telltaleEntry d).isSome = true → e.state = .answering →
          exec (.districtIn tag d) s = .next (withResponse
            ((s.modDistrict d fun r => { r with
              state := st, inFlight := some r.loading
              latches := { r.latches with
                starved := r.latches.starved || decide (st = .starved), short := r.latches.short || decide (st = .short) } }
              ).setLoadingCommand d (some (s.district d).loading)) tag 0x21 .done []))
        ∧ ((s.district d).state = .tripped →
          exec (.districtRestore tag d) s = .next (withResponse
            ((s.modDistrict d fun r => { r with
              state := st, inFlight := some r.loading
              latches := { r.latches with
                starved := r.latches.starved || decide (st = .starved), short := r.latches.short || decide (st = .short) } }
              ).setLoadingCommand d (some (s.district d).loading)) tag 0x23 .done [])))

/-- DISTRICT-OUT (04 R85): a district in whose feed list or pending joins no holder stands goes OUT, its compensation cleared, its
loading worked again and withdrawn from its governor; one with a feed refuses; one that is OUT answers DONE. -/
def Obligations.DistrictOutNeedsAnEmptyFeedList : Prop :=
  ∀ (s : State) (tag : Byte) (d : DistrictId), Ready s →
    (∀ n, 8 ≤ n → exec (.districtOut tag n) s = .next (withResponse s tag 0x22 .noRecord []))
    ∧ ((s.district d).state = .out → exec (.districtOut tag d) s = .next (withResponse s tag 0x22 .done []))
    ∧ ((s.district d).state ≠ .out → (s.district d).feeds ≠ [] →
      exec (.districtOut tag d) s = .next (withResponse s tag 0x22 .wrongState []))
    ∧ ((s.district d).state ≠ .out → (s.district d).feeds = [] → (s.district d).pendingJoins = [] → s.inTransit = [] →
      exec (.districtOut tag d) s = .next (withResponse
        ((s.modDistrict d fun r => { r with
          state := .out, inFlight := none, acked := none, ttLow := false, comp := 0
          loading := clampTo r.floor r.ceiling r.setPoint
          required := clampTo r.floor r.ceiling r.setPoint + r.drop }).setLoadingCommand d none) tag 0x22 .done []))

/-- SET-CLOCK and the minute event set or raise the clock and judge every district's schedule at its minute (04 R67, R68); a
minute above 1439 is RANGE. Where the set-point changes, the loading and the required pressure are worked again (R71), a
changed loading goes in flight in a district in service and is placed on its governor (R72), and a changed required pressure
has the district take the state its feeds give it (R78); where it does not, all of these stand. -/
def Obligations.ClockJudgesEverySchedule : Prop :=
  ∀ (s : State) (tag : Byte) (day minute : Nat),
    (Ready s → 1439 < minute → exec (.setClock tag day minute) s = .next (withResponse s tag 0x24 .range []))
    ∧ (Ready s → minute ≤ 1439 → ∃ t, exec (.setClock tag day minute) s = .next t
      ∧ t.yard = { s.yard with day := day, minute := minute }
      ∧ (∀ d, (t.district d).setPoint = setPointAt minute (s.district d).setPoint (s.district d).schedule)
      ∧ (∀ d, ScheduleFollowed s t d)
      ∧ t.rex = (withResponse s tag 0x24 .done []).rex
      ∧ t.holders = s.holders ∧ t.rst = s.rst ∧ t.bke = s.bke ∧ t.balance = s.balance)
    ∧ (s.running = true → ∃ t, exec .minuteEvent s = .next t
      ∧ t.yard = { s.yard with
          minute := if s.yard.minute < 1439 then s.yard.minute + 1 else 0
          day := if s.yard.minute < 1439 then s.yard.day else if s.yard.day < 65535 then s.yard.day + 1 else 0 }
      ∧ (∀ d, (t.district d).setPoint = setPointAt t.yard.minute (s.district d).setPoint (s.district d).schedule)
      ∧ (∀ d, ScheduleFollowed s t d)
      ∧ t.rex = s.rex ∧ t.holders = s.holders ∧ t.rst = s.rst ∧ t.bke = s.bke ∧ t.balance = s.balance)

/-! ### The meter directory -/

/-- MAP-POINT (05 R102, R103): a slot or point out of range is RANGE, slot 0 is refused, RANGE first (log entry 15); else the
slot is read first, and a FREE one is NO-RECORD, a DAMAGED one WRONG-STATE. Over a sound path the whole request, with its four
accesses, writes the one leaf, flushes the booking cache and answers DONE. Where the main descriptor is INVALID the first free
point table is allocated, and where the root is, the first free main table too: each is initialised, written and then named by
its parent, whose BARRED is kept (05 R91). With a needed pool empty the request is FULL and changes nothing. A damaged point
table is initialised and keeps the one leaf alone (05 R109). -/
def Obligations.MapPointWritesOneLeaf : Prop :=
  ∀ (s : State) (tag : Byte) (p slot : Nat) (barred global : Bool), Ready s → StoreIdle s →
    (4095 < p ∨ 255 < slot → exec (.mapPoint tag p slot barred global) s = .next (withResponse s tag 0x30 .range []))
    ∧ (p ≤ 4095 → exec (.mapPoint tag p 0 barred global) s = .next (withResponse s tag 0x30 .wrongState []))
    ∧ (p ≤ 4095 → 1 ≤ slot → slot ≤ 255 →
      exec (.mapPoint tag p slot barred global) s
        = .next (startedHead s tag (.mapPoint p slot barred global) (.directory .account))
      ∧ (Clean s slot → (s.rst.account slot).state = .free →
        after [.mapPoint tag p slot barred global, .directoryAccessEnd []] s
          = .next (withResponse (accessesDone s s.rst) tag 0x30 .noRecord []))
      ∧ (s.rst.isDamaged slot = true →
        after [.mapPoint tag p slot barred global, .directoryAccessEnd []] s
          = .next (withResponse (accessesDone s s.rst) tag 0x30 .wrongState [])))
    ∧ (∀ m pt, p ≤ 4095 → 1 ≤ slot → slot ≤ 255 → s.bke.inHand = none → Clean s slot → (s.rst.account slot).state ≠ .free →
      SoundPath s p m pt →
      after [.mapPoint tag p slot barred global, .directoryAccessEnd [], .directoryAccessEnd [], .directoryAccessEnd [],
          .directoryAccessEnd []] s
        = .next (withResponse (changeDone s
            (s.rst.putLeaf pt (pointIndex p) ⟨.account slot, barred, false, false, global⟩)) tag 0x30 .done []))
    ∧ (p ≤ 4095 → 1 ≤ slot → slot ≤ 255 → s.bke.inHand = none → storesSound s.rst = true → Clean s slot →
      (s.rst.account slot).state ≠ .free →
      ((s.district (pointDistrict p)).root.table = none →
        (s.rst.freeMains = [] ∨ s.rst.freePoints = [] →
          after [.mapPoint tag p slot barred global, .directoryAccessEnd []] s
            = .next (withResponse (accessesDone s s.rst) tag 0x30 .full []))
        ∧ (∀ mt ms pt ps, s.rst.freeMains = mt :: ms → s.rst.freePoints = pt :: ps → mt ∉ ms → pt ∉ ps → mt ≤ 23 → pt ≤ 63 →
          after [.mapPoint tag p slot barred global, .directoryAccessEnd [], .directoryAccessEnd [], .directoryAccessEnd [],
              .directoryAccessEnd [], .directoryAccessEnd []] s
            = .next (withResponse (changeDone
                (s.modDistrict (pointDistrict p) fun r => { r with root := ⟨some mt, r.root.barred, false⟩ })
                (withMainTable (withPointTable s.rst pt mt (mainIndex p)
                    [(pointIndex p, ⟨.account slot, barred, false, false, global⟩)] ps)
                  mt (pointDistrict p) [(mainIndex p, ⟨some pt, false, false⟩)] ms)) tag 0x30 .done [])))
      ∧ (∀ m, (s.district (pointDistrict p)).root.table = some m → m ≤ 23 → Clean s (mainSlot m) →
        (s.rst.desc m (mainIndex p)).table = none →
        (s.rst.freePoints = [] →
          after [.mapPoint tag p slot barred global, .directoryAccessEnd [], .directoryAccessEnd []] s
            = .next (withResponse (accessesDone s s.rst) tag 0x30 .full []))
        ∧ (∀ pt ps, s.rst.freePoints = pt :: ps → pt ∉ ps → pt ≤ 63 →
          after [.mapPoint tag p slot barred global, .directoryAccessEnd [], .directoryAccessEnd [], .directoryAccessEnd [],
              .directoryAccessEnd [], .directoryAccessEnd []] s
            = .next (withResponse (changeDone s
                ((withPointTable s.rst pt m (mainIndex p)
                    [(pointIndex p, ⟨.account slot, barred, false, false, global⟩)] ps).putDesc m (mainIndex p)
                  ⟨some pt, (s.rst.desc m (mainIndex p)).barred, false⟩)) tag 0x30 .done [])))
      ∧ (∀ m pt, (s.district (pointDistrict p)).root.table = some m → Clean s (mainSlot m) →
        (s.rst.desc m (mainIndex p)).table = some pt → s.rst.isDamaged (pointSlot pt) = true →
        after [.mapPoint tag p slot barred global, .directoryAccessEnd [], .directoryAccessEnd [], .directoryAccessEnd [],
            .directoryAccessEnd [], .directoryAccessEnd []] s
          = .next (withResponse (changeDone s { s.rst with
              points := writeAt [] s.rst.points pt [(pointIndex p, ⟨.account slot, barred, false, false, global⟩)]
              flaws := writeAt 0 s.rst.flaws (pointSlot pt) 0
              damaged := writeAt false s.rst.damaged (pointSlot pt) false }) tag 0x30 .done [])))

/-- LINK-POINT (05 R104): a point out of range, or its own target, is RANGE; a target without a path is NO-RECORD. With a
target that has an ACCOUNT leaf the whole request, with its five accesses, writes an INDIRECT leaf with its flags clear. RANGE
comes before NO-RECORD (log entry 15). -/
def Obligations.LinkPointWritesAnIndirectLeaf : Prop :=
  ∀ (s : State) (tag : Byte) (p target : Nat), Ready s → StoreIdle s →
    (4095 < p ∨ 4095 < target ∨ target = p → exec (.linkPoint tag p target) s = .next (withResponse s tag 0x31 .range []))
    ∧ (p ≤ 4095 → target ≤ 4095 → target ≠ p → (s.district (pointDistrict target)).root.table = none →
      exec (.linkPoint tag p target) s = .next (withResponse s tag 0x31 .noRecord []))
    ∧ (∀ m pt tm tpt slot, p ≤ 4095 → target ≤ 4095 → target ≠ p → s.bke.inHand = none → SoundPath s p m pt →
      SoundPath s target tm tpt → (s.rst.leaf tpt (pointIndex target)).kind = .account slot →
      exec (.linkPoint tag p target) s = .next (startedHead s tag (.linkPoint p target) (.directory (.targetMain tm)))
      ∧ after [.linkPoint tag p target, .directoryAccessEnd [], .directoryAccessEnd [], .directoryAccessEnd [],
          .directoryAccessEnd [], .directoryAccessEnd []] s
        = .next (withResponse (changeDone s
            (s.rst.putLeaf pt (pointIndex p) ⟨.indirect target, false, false, false, false⟩)) tag 0x31 .done []))

/-- UNMAP-POINT over a sound path whose point table keeps another bound leaf makes the leaf INVALID, leaves the table and
answers DONE (05 R105). Where the point table is left without one, its descriptor goes INVALID with its BARRED kept and the
table joins the tail of its free list; where the main table is then left without a TABLE descriptor, the root goes INVALID with
its BARRED kept and the main table is freed too (05 R91, R105). An INVALID leaf is NO-RECORD. BAR and UNBAR set or clear the one BARRED flag of the level they name (05 R106); that of a main
descriptor is reached by a read of its table and then the write (log entry 21). -/
def Obligations.UnmapBarAndUnbarChangeOneDescriptor : Prop :=
  ∀ (s : State) (tag : Byte) (p m pt : Nat), Ready s → StoreIdle s → s.bke.inHand = none → p ≤ 4095 → SoundPath s p m pt →
    (∀ j, storesSound s.rst = true → (s.rst.leaf pt (pointIndex p)).kind ≠ .invalid → j ≠ pointIndex p →
      (s.rst.leaf pt j).kind ≠ .invalid →
      after [.unmapPoint tag p, .directoryAccessEnd [], .directoryAccessEnd [], .directoryAccessEnd [],
          .directoryAccessEnd []] s
        = .next (withResponse (changeDone s
            (s.rst.putLeaf pt (pointIndex p) ⟨.invalid, false, false, false, false⟩)) tag 0x32 .done []))
    ∧ ((s.rst.leaf pt (pointIndex p)).kind = .invalid →
      after [.unmapPoint tag p, .directoryAccessEnd [], .directoryAccessEnd []] s
        = .next (withResponse (accessesDone s s.rst) tag 0x32 .noRecord []))
    ∧ (∀ r : Rst, storesSound s.rst = true → (s.rst.leaf pt (pointIndex p)).kind ≠ .invalid → m ≤ 23 → pt ∉ s.rst.freePoints →
      (∀ q ∈ s.rst.pointTable pt, q.1 ≠ pointIndex p → q.2.kind = .invalid) →
      r = { (s.rst.putLeaf pt (pointIndex p) ⟨.invalid, false, false, false, false⟩).putDesc m (mainIndex p)
          ⟨none, (s.rst.desc m (mainIndex p)).barred, false⟩ with
        freePoints := s.rst.freePoints ++ [pt], pointAlloc := writeAt none s.rst.pointAlloc pt none } →
      ((∃ q ∈ s.rst.mainTable m, q.1 ≠ mainIndex p ∧ q.2.table ≠ none) →
        after [.unmapPoint tag p, .directoryAccessEnd [], .directoryAccessEnd [], .directoryAccessEnd [], .directoryAccessEnd [],
            .directoryAccessEnd [], .directoryAccessEnd []] s
          = .next (withResponse (changeDone s r) tag 0x32 .done []))
      ∧ ((∀ q ∈ s.rst.mainTable m, q.1 ≠ mainIndex p → q.2.table = none) → m ∉ s.rst.freeMains →
        after [.unmapPoint tag p, .directoryAccessEnd [], .directoryAccessEnd [], .directoryAccessEnd [], .directoryAccessEnd [],
            .directoryAccessEnd [], .directoryAccessEnd []] s
          = .next (withResponse (changeDone
              (s.modDistrict (pointDistrict p) fun d => { d with root := ⟨none, d.root.barred, false⟩ })
              { r with freeMains := s.rst.freeMains ++ [m], mainAlloc := writeAt none s.rst.mainAlloc m none }) tag 0x32 .done [])))
    ∧ ((s.rst.leaf pt (pointIndex p)).kind ≠ .invalid →
      after [.bar tag .point p, .directoryAccessEnd [], .directoryAccessEnd [], .directoryAccessEnd []] s
          = .next (withResponse (changeDone s
              (s.rst.putLeaf pt (pointIndex p) { s.rst.leaf pt (pointIndex p) with barred := true })) tag 0x33 .done [])
        ∧ after [.unbar tag .point p, .directoryAccessEnd [], .directoryAccessEnd [], .directoryAccessEnd []] s
          = .next (withResponse (changeDone s
              (s.rst.putLeaf pt (pointIndex p) { s.rst.leaf pt (pointIndex p) with barred := false })) tag 0x34 .done []))
    ∧ after [.bar tag .main p, .directoryAccessEnd [], .directoryAccessEnd []] s
        = .next (withResponse (changeDone s
            (s.rst.putDesc m (mainIndex p) { s.rst.desc m (mainIndex p) with barred := true })) tag 0x33 .done [])
    ∧ after [.unbar tag .main p, .directoryAccessEnd [], .directoryAccessEnd []] s
        = .next (withResponse (changeDone s
            (s.rst.putDesc m (mainIndex p) { s.rst.desc m (mainIndex p) with barred := false })) tag 0x34 .done [])
    ∧ exec (.bar tag .root p) s = .next (withResponse { s.modDistrict (pointDistrict p)
        (fun r => { r with root := { r.root with barred := true } }) with bke := { s.bke with cache := [] } } tag 0x33 .done [])
    ∧ exec (.unbar tag .root p) s = .next (withResponse { s.modDistrict (pointDistrict p)
        (fun r => { r with root := { r.root with barred := false } }) with bke := { s.bke with cache := [] } } tag 0x34 .done [])

/-- SET-ROUTE (05 R100, R101): a route above 1, or a range out of order or above 4095, is RANGE, as is an enabled route with
no slot; slot 0 is refused, RANGE first (log entry 15); a disabled route without a slot is written at once; one that names an
account is written after its read, and one that names a FREE slot is NO-RECORD, a DAMAGED one WRONG-STATE. -/
def Obligations.SetRouteWritesTheRoute : Prop :=
  ∀ (s : State) (tag : Byte) (n : Fin 2) (f : RouteSettings), Ready s → StoreIdle s → s.bke.inHand = none →
    (∀ k, 2 ≤ k → exec (.setRoute tag k f) s = .next (withResponse s tag 0x35 .range []))
    ∧ (4095 < f.low ∨ 4095 < f.high ∨ f.high < f.low → exec (.setRoute tag n f) s = .next (withResponse s tag 0x35 .range []))
    ∧ (f.low ≤ f.high → f.high ≤ 4095 → f.slot = none → f.enabled = true →
      exec (.setRoute tag n f) s = .next (withResponse s tag 0x35 .range []))
    ∧ (f.low ≤ f.high → f.high ≤ 4095 → f.slot = some 0 →
      exec (.setRoute tag n f) s = .next (withResponse s tag 0x35 .wrongState []))
    ∧ (f.low ≤ f.high → f.high ≤ 4095 → f.slot = none → f.enabled = false →
      exec (.setRoute tag n f) s = .next (withResponse
        { s with bke := { s.bke with routes := s.bke.routes.set n f, cache := [] } } tag 0x35 .done []))
    ∧ (∀ slot, f.low ≤ f.high → f.high ≤ 4095 → f.slot = some slot → 1 ≤ slot → slot ≤ 255 →
      (Clean s slot → (s.rst.account slot).state = .free → after [.setRoute tag n f, .directoryAccessEnd []] s
        = .next (withResponse (accessesDone s s.rst) tag 0x35 .noRecord []))
      ∧ (s.rst.isDamaged slot = true → after [.setRoute tag n f, .directoryAccessEnd []] s
        = .next (withResponse (accessesDone s s.rst) tag 0x35 .wrongState [])))
    ∧ (∀ slot, f.low ≤ f.high → f.high ≤ 4095 → f.slot = some slot → 1 ≤ slot → slot ≤ 255 → Clean s slot →
      (s.rst.account slot).state ≠ .free →
      exec (.setRoute tag n f) s = .next (startedHead s tag (.setRoute n f) (.directory .account))
      ∧ after [.setRoute tag n f, .directoryAccessEnd []] s = .next (withResponse
        { changeDone s s.rst with bke := { s.bke with routes := s.bke.routes.set n f, cache := [] } } tag 0x35 .done []))

/-- LOOK-POINT (05 R107): a point above 4095 is RANGE; over a sound path to an ACCOUNT leaf it makes two reads and reports the
path, changing nothing else; with the clear option a third access clears BOOKED on the leaf, the report shows the flag as it
was, and the request completes as a change (R102). The forms of the answer's fields are log entry 12, and that the first direct
route is shown by its number alone is log entry 38. -/
def Obligations.LookPointReportsThePath : Prop :=
  ∀ (s : State) (tag : Byte) (p : Nat), Ready s → StoreIdle s →
    (∀ clear, 4095 < p → exec (.lookPoint tag p clear) s = .next (withResponse s tag 0x36 .range []))
    ∧ (∀ m pt slot fields, p ≤ 4095 → SoundPath s p m pt → (s.rst.leaf pt (pointIndex p)).kind = .account slot →
      fields = pathFields ⟨(s.district (pointDistrict p)).root, some ⟨m, s.rst.desc m (mainIndex p), false⟩,
            some ⟨pt, s.rst.leaf pt (pointIndex p), false⟩⟩
          ++ [.presence false]
          ++ [.choice 0, .num 1 slot,
            .flag ((s.district (pointDistrict p)).root.barred || (s.rst.desc m (mainIndex p)).barred
              || (s.rst.leaf pt (pointIndex p)).barred), .flag (s.rst.leaf pt (pointIndex p)).global]
          ++ optField n1 (s.bke.firstRoute p) →
      exec (.lookPoint tag p false) s = .next (startedHead s tag (.lookPoint p false)
        (.lookPoint ⟨.ownMain m, ⟨(s.district (pointDistrict p)).root, none, none⟩, none⟩))
      ∧ after [.lookPoint tag p false, .lookPointRead [], .lookPointRead []] s
        = .next (withResponse (accessesDone s s.rst) tag 0x36 .done fields)
      ∧ (s.bke.inHand = none → after [.lookPoint tag p true, .lookPointRead [], .lookPointRead [], .lookPointRead []] s
        = .next (withResponse (changeDone s
            (s.rst.putLeaf pt (pointIndex p) { s.rst.leaf pt (pointIndex p) with booked := false })) tag 0x36 .done fields)))

/-! ### Accounts -/

/-- OPEN-ACCOUNT, CLOSE-ACCOUNT and REOPEN-ACCOUNT (07 R134 to R138): refused for a slot above 255, a suspense kind or an
override out of range, and for slot 0 (REOPEN answers it DONE); else the one access reads the slot and writes the account, or
refuses a slot in the wrong state; CLOSE refuses one that is damaged or whose read cannot be corrected, REOPEN one that is
damaged. REOPEN-ACCOUNT of slot 0 makes no access (log entry 21), and RANGE comes before slot 0's refusal (log entry 15). -/
def Obligations.OpenCloseAndReopenWriteTheSlot : Prop :=
  ∀ (s : State) (tag : Byte) (slot : Nat) (kind : AccountKind) (cv : Option Nat), Ready s → StoreIdle s →
    (255 < slot ∨ kind = .suspense ∨ optWithin 250 1100 cv = false →
      exec (.openAccount tag slot kind cv) s = .next (withResponse s tag 0x40 .range []))
    ∧ (255 < slot → exec (.closeAccount tag slot) s = .next (withResponse s tag 0x41 .range [])
      ∧ exec (.reopenAccount tag slot) s = .next (withResponse s tag 0x42 .range []))
    ∧ (kind ≠ .suspense → optWithin 250 1100 cv = true →
      exec (.openAccount tag 0 kind cv) s = .next (withResponse s tag 0x40 .wrongState []))
    ∧ exec (.closeAccount tag 0) s = .next (withResponse s tag 0x41 .wrongState [])
    ∧ exec (.reopenAccount tag 0) s = .next (withResponse s tag 0x42 .done [])
    ∧ (1 ≤ slot → slot ≤ 255 → Clean s slot → kind ≠ .suspense → optWithin 250 1100 cv = true →
      exec (.openAccount tag slot kind cv) s = .next (startedHead s tag (.openAccount slot kind cv) .account)
      ∧ ((s.rst.account slot).state = .free →
        after [.openAccount tag slot kind cv, .accountRequestAccess []] s = .next (withResponse (accessesDone s
          (s.rst.putAccount slot ⟨.opened, some kind, cv, s.yard.period, 0, 0, 0, 0, 0, 0, false, 0, 0, 0, ⟨0, 0, 0, 0, 0, 0⟩⟩))
          tag 0x40 .done []))
      ∧ ((s.rst.account slot).state ≠ .free →
        after [.openAccount tag slot kind cv, .accountRequestAccess []] s
          = .next (withResponse (accessesDone s s.rst) tag 0x40 .full [])))
    ∧ (1 ≤ slot → slot ≤ 255 → Clean s slot →
      exec (.closeAccount tag slot) s = .next (startedHead s tag (.closeAccount slot) .account)
      ∧ ((s.rst.account slot).state = .free →
        after [.closeAccount tag slot, .accountRequestAccess []] s
            = .next (withResponse (accessesDone s s.rst) tag 0x41 .noRecord [])
          ∧ after [.reopenAccount tag slot, .accountRequestAccess []] s
            = .next (withResponse (accessesDone s s.rst) tag 0x42 .noRecord []))
      ∧ ((s.rst.account slot).state = .opened →
        after [.closeAccount tag slot, .accountRequestAccess []] s = .next (withResponse (accessesDone s
              (s.rst.putAccount slot { s.rst.account slot with state := .closed })) tag 0x41 .done [])
          ∧ after [.reopenAccount tag slot, .accountRequestAccess []] s
            = .next (withResponse (accessesDone s s.rst) tag 0x42 .done []))
      ∧ ((s.rst.account slot).state = .closed →
        after [.closeAccount tag slot, .accountRequestAccess []] s
            = .next (withResponse (accessesDone s s.rst) tag 0x41 .done [])
          ∧ after [.reopenAccount tag slot, .accountRequestAccess []] s = .next (withResponse (accessesDone s
              (s.rst.putAccount slot { s.rst.account slot with state := .opened })) tag 0x42 .done [])))
    ∧ (1 ≤ slot → slot ≤ 255 → s.rst.isDamaged slot = true →
      after [.closeAccount tag slot, .accountRequestAccess []] s
          = .next (withResponse (accessesDone s s.rst) tag 0x41 .wrongState [])
        ∧ after [.reopenAccount tag slot, .accountRequestAccess []] s
          = .next (withResponse (accessesDone s s.rst) tag 0x42 .wrongState []))
    ∧ (1 ≤ slot → slot ≤ 255 → s.rst.isDamaged slot = false → 2 ≤ s.rst.flawsOf slot →
      after [.closeAccount tag slot, .accountRequestAccess []] s = .next (withResponse (accessesDone s
        { s.rst with
          damaged := writeAt false s.rst.damaged slot true
          damagedReads := bump 65535 s.rst.damagedReads
          lastDamaged := some slot
          damagedLatch := some ⟨slot, (s.rst.damagedLatch.map (·.reads)).getD 0 + 1⟩ }) tag 0x41 .storeFault []))

/-- RESTORE-ACCOUNT and ADJUST (07 R134, R135, R141, R142): a restore writes the contents it carries into a slot that is not
OPEN, and clears damage; an adjustment first rolls both accounts to the period, then moves the volume and the heat from one to
the other, and is RANGE where a figure would leave its range; a DAMAGED slot on either side is WRONG-STATE. Contents out of
range are RANGE for slot 0 too (log entry 15). -/
def Obligations.RestoreAndAdjustWriteAccounts : Prop :=
  ∀ (s : State) (tag : Byte), Ready s → StoreIdle s →
    (∀ slot c, 255 < slot ∨ contentsOk c = false →
      exec (.restoreAccount tag slot c) s = .next (withResponse s tag 0x44 .range []))
    ∧ (∀ c, contentsOk c = true → exec (.restoreAccount tag 0 c) s = .next (withResponse s tag 0x44 .wrongState []))
    ∧ (∀ slot c, contentsOk c = true → 1 ≤ slot → slot ≤ 255 →
      exec (.restoreAccount tag slot c) s = .next (startedHead s tag (.restoreAccount slot c) .account)
      ∧ (Clean s slot → (s.rst.account slot).state = .opened →
        after [.restoreAccount tag slot c, .accountRequestAccess []] s
          = .next (withResponse (accessesDone s s.rst) tag 0x44 .wrongState []))
      ∧ (storesSound s.rst = true → (Clean s slot ∧ (s.rst.account slot).state ≠ .opened) ∨ s.rst.isDamaged slot = true →
        ∃ t, after [.restoreAccount tag slot c, .accountRequestAccess []] s = .next t
          ∧ t = withResponse (accessesDone s t.rst) tag 0x44 .done []
          ∧ t.rst.account slot = ⟨.closed, some c.kind, c.cv, c.period, c.volume, c.volumeRes, c.heat, c.heatRes, c.bookings,
              c.clampedBookings, c.limitReached, c.prevVolume, c.prevHeat, c.prevBookings, ⟨0, 0, 0, 0, 0, 0⟩⟩
          ∧ Clean t slot
          ∧ (∀ n, n ≠ slot → t.rst.account n = s.rst.account n ∧ t.rst.isDamaged n = s.rst.isDamaged n
              ∧ t.rst.flawsOf n = s.rst.flawsOf n)
          ∧ t.rst.mains = s.rst.mains ∧ t.rst.points = s.rst.points))
    ∧ (∀ a b v h, 255 < a ∨ 255 < b ∨ 1099511627775 < v ∨ 4294967295 < h ∨ a = b →
      exec (.adjust tag a b v h) s = .next (withResponse s tag 0x45 .range []))
    ∧ (∀ a b v h, a ≤ 255 → b ≤ 255 → a ≠ b → v ≤ 1099511627775 → h ≤ 4294967295 →
      ((s.rst.isDamaged a = true ∧ Clean s b ∧ (s.rst.account b).state ≠ .free)
        ∨ (s.rst.isDamaged b = true ∧ Clean s a ∧ (s.rst.account a).state ≠ .free)
        ∨ (s.rst.isDamaged a = true ∧ s.rst.isDamaged b = true)) →
      after [.adjust tag a b v h, .accountRequestAccess []] s
        = .next (withResponse (accessesDone s s.rst) tag 0x45 .wrongState []))
    ∧ (∀ a b v h, a ≤ 255 → b ≤ 255 → a ≠ b → v ≤ 1099511627775 → h ≤ 4294967295 → Clean s a → Clean s b →
      exec (.adjust tag a b v h) s = .next (startedHead s tag (.adjust a b v h) .account)
      ∧ ((s.rst.account a).state = .free ∨ (s.rst.account b).state = .free →
        after [.adjust tag a b v h, .accountRequestAccess []] s
          = .next (withResponse (accessesDone s s.rst) tag 0x45 .noRecord []))
      ∧ ((s.rst.account a).state ≠ .free → (s.rst.account b).state ≠ .free →
        ∀ x y, x = (s.rst.account a).rolled s.yard.period → y = (s.rst.account b).rolled s.yard.period →
        (x.volume < v ∨ x.heat < h ∨ 1099511627775 < y.volume + v ∨ 4294967295 < y.heat + h →
          after [.adjust tag a b v h, .accountRequestAccess []] s
            = .next (withResponse (accessesDone s s.rst) tag 0x45 .range []))
        ∧ (v ≤ x.volume → h ≤ x.heat → y.volume + v ≤ 1099511627775 → y.heat + h ≤ 4294967295 →
          after [.adjust tag a b v h, .accountRequestAccess []] s = .next (withResponse (accessesDone s
            ((s.rst.putAccount a { x with volume := x.volume - v, heat := x.heat - h }).putAccount b
              { y with volume := y.volume + v, heat := y.heat + h })) tag 0x45 .done []))))

/-- RETIRE-ACCOUNT (07 R135, R139, R140): refused for slot 0, above 255, a FREE or OPEN account, one with totals and one a
direct route names. Its check goes on to the scan of the point tables that are allocated, one read each, or to the final access
where none is. A leaf that names the slot is IN-USE; a damaged table, and one whose read finds it damaged, hold no reference.
The final access frees a slot still CLOSED with no totals and flushes the cache entries that name it, and refuses another. A
damaged slot is WRONG-STATE, one whose read finds it damaged STORE-FAULT, and a flawed word that can be corrected stops
neither (08 R155, R157, R158). That totals or a state refuse a slot before a route that names it is log entry 15, that the
check's read that finds damage is STORE-FAULT log entry 44. -/
def Obligations.RetireFreesAnEmptyClosedAccount : Prop :=
  ∀ (s : State) (tag : Byte) (slot : Nat),
    (Ready s → 255 < slot → exec (.retireAccount tag slot) s = .next (withResponse s tag 0x43 .range []))
    ∧ (Ready s → exec (.retireAccount tag 0) s = .next (withResponse s tag 0x43 .wrongState []))
    ∧ (Ready s → StoreIdle s → 1 ≤ slot → slot ≤ 255 →
      exec (.retireAccount tag slot) s = .next (startedHead s tag (.retireAccount slot) .retireCheck))
    ∧ (∀ g, HeadAwaits s g tag (.retireAccount slot) .retireCheck →
      (∀ x, ReadsAs s slot x →
        ((s.rst.account slot).state = .free →
          exec (.retireCheckAccess []) s = .next (headAnswered x tag (.retireAccount slot) .noRecord []))
        ∧ ((s.rst.account slot).state = .opened ∨ ((s.rst.account slot).state = .closed ∧ ¬ NoTotals (s.rst.account slot)) →
          exec (.retireCheckAccess []) s = .next (headAnswered x tag (.retireAccount slot) .wrongState []))
        ∧ ((s.rst.account slot).state = .closed → NoTotals (s.rst.account slot) →
          ((s.bke.routes[0].slot = some slot ∨ s.bke.routes[1].slot = some slot →
            exec (.retireCheckAccess []) s = .next (headAnswered x tag (.retireAccount slot) .inUse []))
          ∧ (∀ tables, s.bke.routes[0].slot ≠ some slot → s.bke.routes[1].slot ≠ some slot →
            tables = (s.rst.pointAlloc.filterMap fun p => p.2.map fun _ => p.1) →
            exec (.retireCheckAccess []) s
              = .next (headContinues x (if tables = [] then .retireFinal else .retireScan tables))))))
      ∧ (s.rst.isDamaged slot = true →
        exec (.retireCheckAccess []) s = .next (headAnswered s tag (.retireAccount slot) .wrongState []))
      ∧ (Uncorrectable s slot → 1 ≤ slot → slot ≤ 255 →
        exec (.retireCheckAccess []) s = .next (headAnswered (slotDamaged s slot) tag (.retireAccount slot) .storeFault [])))
    ∧ (∀ g t left, HeadAwaits s g tag (.retireAccount slot) (.retireScan (t :: left)) →
      (∀ x, ReadsAs s (pointSlot t) x →
        ((∃ p ∈ s.rst.pointTable t, p.2.kind = .account slot) →
          exec (.retireScanRead []) s = .next (headAnswered x tag (.retireAccount slot) .inUse []))
        ∧ ((∀ p ∈ s.rst.pointTable t, p.2.kind ≠ .account slot) → exec (.retireScanRead []) s
          = .next (headContinues x (if left = [] then .retireFinal else .retireScan left))))
      ∧ (s.rst.isDamaged (pointSlot t) = true →
        exec (.retireScanRead []) s = .next (headContinues s (if left = [] then .retireFinal else .retireScan left)))
      ∧ (Uncorrectable s (pointSlot t) → exec (.retireScanRead []) s
        = .next (headContinues (slotDamaged s (pointSlot t)) (if left = [] then .retireFinal else .retireScan left))))
    ∧ (∀ g, HeadAwaits s g tag (.retireAccount slot) .retireFinal →
      (∀ x, ReadsAs s slot x →
        ((s.rst.account slot).state = .closed → NoTotals (s.rst.account slot) →
          exec (.retireFinalAccess []) s = .next (headAnswered
            { x with
              rst := x.rst.putAccount slot ⟨.free, none, none, 0, 0, 0, 0, 0, 0, 0, false, 0, 0, 0, ⟨0, 0, 0, 0, 0, 0⟩⟩
              bke := { s.bke with cache := s.bke.cache.filter fun e => decide (e.slot ≠ slot) } }
            tag (.retireAccount slot) .done []))
        ∧ ((s.rst.account slot).state ≠ .closed ∨ ¬ NoTotals (s.rst.account slot) →
          exec (.retireFinalAccess []) s = .next (headAnswered x tag (.retireAccount slot) .wrongState [])))
      ∧ (s.rst.isDamaged slot = true →
        exec (.retireFinalAccess []) s = .next (headAnswered s tag (.retireAccount slot) .wrongState []))
      ∧ (Uncorrectable s slot → 1 ≤ slot → slot ≤ 255 →
        exec (.retireFinalAccess []) s = .next (headAnswered (slotDamaged s slot) tag (.retireAccount slot) .storeFault [])))
    ∧ (Ready s → StoreIdle s → 1 ≤ slot → slot ≤ 255 → Clean s slot →
      ((s.rst.account slot).state = .free →
        after [.retireAccount tag slot, .retireCheckAccess []] s
          = .next (withResponse (accessesDone s s.rst) tag 0x43 .noRecord []))
      ∧ ((s.rst.account slot).state = .opened ∨ ((s.rst.account slot).state = .closed ∧ (s.rst.account slot).volume ≠ 0) →
        after [.retireAccount tag slot, .retireCheckAccess []] s
          = .next (withResponse (accessesDone s s.rst) tag 0x43 .wrongState []))
      ∧ ((s.rst.account slot).state = .closed → NoTotals (s.rst.account slot) →
        ((s.bke.routes[0].slot = some slot ∨ s.bke.routes[1].slot = some slot →
          after [.retireAccount tag slot, .retireCheckAccess []] s
            = .next (withResponse (accessesDone s s.rst) tag 0x43 .inUse []))
        ∧ (s.bke.routes[0].slot ≠ some slot → s.bke.routes[1].slot ≠ some slot → s.rst.pointAlloc = [] →
          after [.retireAccount tag slot, .retireCheckAccess []] s
              = .next (startedHead s tag (.retireAccount slot) .retireFinal)
            ∧ after [.retireAccount tag slot, .retireCheckAccess [], .retireFinalAccess []] s
              = .next (withResponse
                  { accessesDone s (s.rst.putAccount slot
                      ⟨.free, none, none, 0, 0, 0, 0, 0, 0, 0, false, 0, 0, 0, ⟨0, 0, 0, 0, 0, 0⟩⟩) with
                    bke := { s.bke with cache := s.bke.cache.filter fun e => decide (e.slot ≠ slot) } } tag 0x43 .done []))
        ∧ (∀ t a, s.bke.routes[0].slot ≠ some slot → s.bke.routes[1].slot ≠ some slot → s.rst.pointAlloc = [(t, some a)] →
          Clean s (pointSlot t) →
          after [.retireAccount tag slot, .retireCheckAccess []] s
              = .next (startedHead s tag (.retireAccount slot) (.retireScan [t]))
            ∧ ((∃ i, (i, (s.rst.leaf t i)) ∈ s.rst.pointTable t ∧ (s.rst.leaf t i).kind = .account slot) →
              after [.retireAccount tag slot, .retireCheckAccess [], .retireScanRead []] s
                = .next (withResponse (accessesDone s s.rst) tag 0x43 .inUse []))
            ∧ ((∀ p ∈ s.rst.pointTable t, p.2.kind ≠ .account slot) →
              after [.retireAccount tag slot, .retireCheckAccess [], .retireScanRead []] s
                = .next (startedHead s tag (.retireAccount slot) .retireFinal))))))

/-! ### Periods and the balance -/

/-- A roll (07 R145): an account of another period that the close scan reads has its totals become the previous ones, its
current counts and totals zero, its diverted counts zero on slot 0, its limit-reached flag cleared, its period the yard
period, its residues kept; any account rolled to a period reads so. -/
def Obligations.RollKeepsTheResidues : Prop :=
  (∀ (s t : State) (g : Grant) (tag : Byte) (n : Nat) (m : Sums), HeadAwaits s g tag .closePeriod (.closeScan n m) → n ≤ 254 →
    Clean s n → storesSound s.rst = true → (s.rst.account n).state ≠ .free → (s.rst.account n).period ≠ g.period →
    exec (.closeScanAccess []) s = .next t →
    ∃ a b, a = s.rst.account n ∧ b = t.rst.account n
      ∧ b.prevVolume = a.volume ∧ b.prevHeat = a.heat ∧ b.prevBookings = a.bookings
      ∧ b.volume = 0 ∧ b.heat = 0 ∧ b.bookings = 0 ∧ b.clampedBookings = 0
      ∧ (n = 0 → b.diverts = ⟨0, 0, 0, 0, 0, 0⟩)
      ∧ b.limitReached = false ∧ b.period = g.period
      ∧ b.volumeRes = a.volumeRes ∧ b.heatRes = a.heatRes
      ∧ b.state = a.state ∧ b.kind = a.kind ∧ b.cv = a.cv
      ∧ (∀ k, k ≠ n → t.rst.account k = s.rst.account k))
  ∧ ∀ (a : Account) (p : Nat), a.rolled p = if a.state = .free ∨ a.period = p then a else { a with
      prevVolume := a.volume, prevHeat := a.heat, prevBookings := a.bookings, volume := 0, heat := 0, bookings := 0
      clampedBookings := 0, diverts := ⟨0, 0, 0, 0, 0, 0⟩, limitReached := false, period := p }

/-- CLOSE-PERIOD (07 R146 to R150): its start raises the yard period, moves the start of the period and the start stocks,
clears the previous figures and flushes the cache entries that are not global; an unfinished close starts again without these.
The scan takes the slots one access at a time, the last of them slot 255, the BOOKED pass the tables and the leaves, and the
end works out the figures and answers with the period. A leaf the pass found BOOKED is cleared, by rising
index, but where it has another kind or target by then, its table is damaged, or BKE has marked it again since that read; the
clearing access is made in each case (log entry 36). -/
def Obligations.ClosePeriodGoesFromStartToFigures : Prop :=
  ∀ (s : State) (g : Grant) (tag : Byte) (n : Nat) (m : Sums),
    (Ready s → StoreIdle s → s.yard.closeUnfinished = false →
      exec (.closePeriod tag) s = .next (startedHead
        { s with
          yard := { s.yard with period := if s.yard.period < 65535 then s.yard.period + 1 else 0, closeUnfinished := true }
          balance := ⟨⟨s.yard.day, s.yard.minute⟩, s.holders.map fun r => if r.fitted then r.stock else 0, s.balance.start,
            s.balance.startStocks, ⟨⟨0, 0⟩, ⟨0, 0⟩, ⟨0, 0⟩, ⟨0, 0⟩, 0, 0⟩, ⟨0, 0⟩, ⟨0, 0⟩, true⟩
          bke := { s.bke with cache := s.bke.cache.filter (·.global) } }
        tag .closePeriod (.closeScan 0 ⟨⟨0, 0⟩, ⟨0, 0⟩, ⟨0, 0⟩, ⟨0, 0⟩, 0, 0⟩)))
    ∧ (Ready s → StoreIdle s → s.yard.closeUnfinished = true →
      exec (.closePeriod tag) s = .next (startedHead { s with bke := { s.bke with cache := s.bke.cache.filter (·.global) } }
        tag .closePeriod (.closeScan 0 ⟨⟨0, 0⟩, ⟨0, 0⟩, ⟨0, 0⟩, ⟨0, 0⟩, 0, 0⟩)))
    ∧ (HeadAwaits s g tag .closePeriod (.closeScan n m) → n ≤ 254 →
      (Clean s n → (s.rst.account n).state = .free →
        exec (.closeScanAccess []) s = .next (headContinues s (.closeScan (n + 1) m)))
      ∧ (Clean s n → (s.rst.account n).state ≠ .free →
        exec (.closeScanAccess []) s = .next (headContinues
          { s with rst := s.rst.putAccount n ((s.rst.account n).rolled g.period) }
          (.closeScan (n + 1) (m.add (s.rst.account n).kind ((s.rst.account n).rolled g.period).prevVolume
            ((s.rst.account n).rolled g.period).prevHeat))))
      ∧ (s.rst.isDamaged n = true →
        exec (.closeScanAccess []) s = .next (headContinues s (.closeScan (n + 1) { m with skipped := m.skipped + 1 }))))
    ∧ (∀ (r : Rst) (k : Sums) (tables : List Nat), HeadAwaits s g tag .closePeriod (.closeScan 255 m) →
      tables = s.rst.pointAlloc.filterMap (fun p => p.2.map fun _ => p.1) →
      ((Clean s 255 ∧ (s.rst.account 255).state = .free ∧ r = s.rst ∧ k = m)
        ∨ (Clean s 255 ∧ (s.rst.account 255).state ≠ .free ∧ r = s.rst.putAccount 255 ((s.rst.account 255).rolled g.period)
          ∧ k = m.add (s.rst.account 255).kind ((s.rst.account 255).rolled g.period).prevVolume
              ((s.rst.account 255).rolled g.period).prevHeat)
        ∨ (s.rst.isDamaged 255 = true ∧ r = s.rst ∧ k = { m with skipped := m.skipped + 1 })) →
      (tables = [] → exec (.closeScanAccess []) s
        = .next (headAnswered (closeFinished { s with rst := r } k) tag .closePeriod .done [.num 2 s.yard.period]))
      ∧ (tables ≠ [] → exec (.closeScanAccess []) s = .next (headContinues { s with rst := r } (.closePass tables [] k))))
    ∧ (∀ (t : Nat) (rest : List Nat) (leaves : List PassLeaf), HeadAwaits s g tag .closePeriod (.closePass (t :: rest) [] m) →
      ((Clean s (pointSlot t) ∧ leaves = (s.rst.pointTable t).filterMap fun p =>
          if p.2.booked && !p.2.global then some ⟨⟨t, p.1, p.2.kind⟩, false⟩ else none)
        ∨ (s.rst.isDamaged (pointSlot t) = true ∧ leaves = [])) →
      (rest = [] → leaves = [] → exec (.bookedPassAccess []) s
        = .next (headAnswered (closeFinished s m) tag .closePeriod .done [.num 2 s.yard.period]))
      ∧ ((rest ≠ [] ∨ leaves ≠ []) →
        exec (.bookedPassAccess []) s = .next (headContinues s (.closePass rest leaves m))))
    ∧ (∀ (own : LeafRef) (stands : Bool) (rest : List PassLeaf) (tables : List Nat) (r : Rst),
      HeadAwaits s g tag .closePeriod (.closePass tables (⟨own, stands⟩ :: rest) m) →
      ((Clean s (pointSlot own.table) ∧ stands = false ∧ (s.rst.leaf own.table own.index).kind = own.kind
          ∧ r = s.rst.putLeaf own.table own.index { s.rst.leaf own.table own.index with booked := false })
        ∨ (Clean s (pointSlot own.table) ∧ (stands = true ∨ (s.rst.leaf own.table own.index).kind ≠ own.kind) ∧ r = s.rst)
        ∨ (s.rst.isDamaged (pointSlot own.table) = true ∧ r = s.rst)) →
      ((tables ≠ [] ∨ rest ≠ []) →
        exec (.bookedPassAccess []) s = .next (headContinues { s with rst := r } (.closePass tables rest m)))
      ∧ (tables = [] → rest = [] → exec (.bookedPassAccess []) s
        = .next (headAnswered (closeFinished { s with rst := r } m) tag .closePeriod .done [.num 2 s.yard.period])))

/-- LOOK BALANCE (07 R151 to R153): it reads the 256 slots one access at a time, slot 255 the last, adds the totals of an
account of the present period to the figure of its kind, counts one of an earlier period with zeros, passes over a FREE slot
and skips a damaged one; its answer gives the period, the marks, the starts, and the current and the previous figures, in the
forms of log entry 12. -/
def Obligations.LookBalanceSumsTheAccounts : Prop :=
  ∀ (s : State) (g : Grant) (tag : Byte) (n : Nat) (m : Sums),
    (Ready s → StoreIdle s →
      exec (.lookBalance tag) s
        = .next (startedHead s tag .lookBalance (.balance 0 ⟨⟨0, 0⟩, ⟨0, 0⟩, ⟨0, 0⟩, ⟨0, 0⟩, 0, 0⟩)))
    ∧ (HeadAwaits s g tag .lookBalance (.balance n m) → n ≤ 254 →
      (Clean s n → (s.rst.account n).state = .free →
        exec (.balanceRead []) s = .next (headContinues s (.balance (n + 1) m)))
      ∧ (Clean s n → (s.rst.account n).state ≠ .free → (s.rst.account n).period = g.period →
        ((s.rst.account n).kind = some .receipt → exec (.balanceRead []) s = .next (headContinues s (.balance (n + 1) { m with
          counted := m.counted + 1
          receipts := ⟨m.receipts.cuft + (s.rst.account n).volume, m.receipts.therms + (s.rst.account n).heat⟩ })))
        ∧ ((s.rst.account n).kind = some .sendOut → exec (.balanceRead []) s = .next (headContinues s (.balance (n + 1) { m with
          counted := m.counted + 1
          sendOut := ⟨m.sendOut.cuft + (s.rst.account n).volume, m.sendOut.therms + (s.rst.account n).heat⟩ })))
        ∧ ((s.rst.account n).kind = some .worksUse → exec (.balanceRead []) s = .next (headContinues s (.balance (n + 1) { m with
          counted := m.counted + 1
          worksUse := ⟨m.worksUse.cuft + (s.rst.account n).volume, m.worksUse.therms + (s.rst.account n).heat⟩ })))
        ∧ ((s.rst.account n).kind = some .suspense → exec (.balanceRead []) s = .next (headContinues s (.balance (n + 1) { m with
          counted := m.counted + 1
          suspense := ⟨m.suspense.cuft + (s.rst.account n).volume, m.suspense.therms + (s.rst.account n).heat⟩ }))))
      ∧ (Clean s n → (s.rst.account n).state ≠ .free → (s.rst.account n).period ≠ g.period →
        exec (.balanceRead []) s = .next (headContinues s (.balance (n + 1) { m with counted := m.counted + 1 })))
      ∧ (s.rst.isDamaged n = true →
        exec (.balanceRead []) s = .next (headContinues s (.balance (n + 1) { m with skipped := m.skipped + 1 }))))
    ∧ (∀ (k : Sums) (stocks : Vector Nat 6) (change therms : Int), HeadAwaits s g tag .lookBalance (.balance 255 m) →
      ((Clean s 255 ∧ (s.rst.account 255).state = .free ∧ k = m)
        ∨ (Clean s 255 ∧ (s.rst.account 255).state ≠ .free ∧ (s.rst.account 255).period = g.period
          ∧ k = m.add (s.rst.account 255).kind (s.rst.account 255).volume (s.rst.account 255).heat)
        ∨ (Clean s 255 ∧ (s.rst.account 255).state ≠ .free ∧ (s.rst.account 255).period ≠ g.period
          ∧ k = { m with counted := m.counted + 1 })
        ∨ (s.rst.isDamaged 255 = true ∧ k = { m with skipped := m.skipped + 1 })) →
      stocks = s.holders.map (fun r => if r.fitted then r.stock else 0) →
      change = ((stocks.toList.sum : Nat) : Int) - (s.balance.startStocks.toList.sum : Nat) →
      therms = (change * s.yard.declaredCv + 50000) / 100000 →
      exec (.balanceRead []) s = .next (headAnswered s tag .lookBalance .done
        ([.num 2 s.yard.period, .flag s.yard.closeUnfinished, .num 2 s.balance.start.day, .num 2 s.balance.start.minute,
            .num 2 s.balance.prevStart.day, .num 2 s.balance.prevStart.minute]
          ++ s.balance.startStocks.toList.map (.num 4) ++ s.balance.prevStocks.toList.map (.num 4)
          ++ sumsFields k ⟨change, therms⟩ ⟨(k.receipts.cuft : Int) - k.sendOut.cuft - k.worksUse.cuft - change,
              (k.receipts.therms : Int) - k.sendOut.therms - k.worksUse.therms - therms⟩
          ++ sumsFields s.balance.previous s.balance.stockChange s.balance.unaccounted ++ [.flag s.balance.unfinished])))

/-! ### Looks, attention and modes -/

/-- Each look answers its record, field by field, and changes nothing else (02 R35, 04 R87, 06 R131, 07 R143, 08 R160, 09
R177, 10 R181, 11 R200): an unfitted holder shows its configuration alone, a FREE slot its state alone; a number that names no
record is NO-RECORD, a slot above 255 RANGE, and a damaged account STORE-FAULT. The forms of the fields where R201 leaves one
open, the order of the store's lists and the flag of the provisional mark behind each allocation record are log entries 12, 37
and 38, the end action of an order that has none log entry 13. That the LOOK of the link shows itself as the started head of the stack is the model's choice (log entry 21). -/
def Obligations.LooksReportAndChangeNothing : Prop :=
  ∀ (s : State) (tag : Byte), Ready s →
    (∀ h : HolderId, exec (.lookHolder tag h) s = .next (withResponse s tag 0x50 .done (holderForm s h)))
    ∧ (∀ n, 6 ≤ n → exec (.lookHolder tag n) s = .next (withResponse s tag 0x50 .noRecord []))
    ∧ (∀ d : DistrictId, exec (.lookDistrict tag d) s = .next (withResponse s tag 0x50 .done (districtForm s d)))
    ∧ (∀ n, 8 ≤ n → exec (.lookDistrict tag n) s = .next (withResponse s tag 0x50 .noRecord []))
    ∧ exec (.lookBookingEngine tag) s = .next (withResponse s tag 0x50 .done (bookingForm s))
    ∧ exec (.lookStore tag) s = .next (withResponse s tag 0x50 .done (storeForm s))
    ∧ exec (.lookLine tag none) s = .next (withResponse s tag 0x50 .done (lineForm s))
    ∧ (∀ a e, s.line.entry a = some e →
      exec (.lookLine tag (some a)) s = .next (withResponse s tag 0x50 .done (entryForm e)))
    ∧ (∀ a, s.line.entry a = none → exec (.lookLine tag (some a)) s = .next (withResponse s tag 0x50 .noRecord []))
    ∧ exec (.lookYard tag) s = .next (withResponse s tag 0x50 .done (yardForm s))
    ∧ exec (.lookLink tag) s = .next (withResponse s tag 0x50 .done
        [.num 2 s.rex.badFrames, .num 2 s.rex.aborts, .num 2 s.rex.discards, .choice (match s.rex.rx with
            | .hunt => 0
            | .frame _ => 1
            | .escaped _ => 2),
          .count 1, .num 1 tag.toNat, .num 1 0x50, .flag true, .presence false, .num 1 s.rex.responses.length])
    ∧ (∀ n, 255 < n → exec (.lookAccount tag n) s = .next (withResponse s tag 0x50 .range []))
    ∧ (∀ n, StoreIdle s → n ≤ 255 →
      exec (.lookAccount tag n) s = .next (startedHead s tag (.lookAccount n) .account)
      ∧ (Clean s n → after [.lookAccount tag n, .accountRequestAccess []] s
          = .next (withResponse (accessesDone s s.rst) tag 0x50 .done
              (if (s.rst.account n).state = .free then [.choice 0] else accountForm n (s.rst.account n))))
      ∧ (s.rst.isDamaged n = true → after [.lookAccount tag n, .accountRequestAccess []] s
          = .next (withResponse (accessesDone s s.rst) tag 0x50 .storeFault [])))

/-- READ-ATTENTION (11 R198): it lists each source that has a set latch, in the yard's priority order, with its set conditions
in rank order and their detail, gives the first source with its highest condition as the summary, and changes nothing; with no
latch set it lists none, and ATTN is released. The conditions of each source are its set latches (02 R36, 04 R88, 06 R130, 08
R160, 09 R177, 10 R190). The forms of the details are log entry 12, the numbers and the order of the diversion reasons log
entry 37. -/
def Obligations.AttentionListsTheSetConditions : Prop :=
  ∀ (s : State) (tag : Byte) (order sources : List Source), Ready s →
    order = (match s.yard.priority with
      | .a => [.yard, .district 0, .district 1, .district 2, .district 3, .district 4, .district 5, .district 6, .district 7, .holder 0,
          .holder 1, .holder 2, .holder 3, .holder 4, .holder 5, .store, .line, .booking]
      | .b => [.yard, .holder 0, .holder 1, .holder 2, .holder 3, .holder 4, .holder 5, .district 0, .district 1, .district 2,
          .district 3, .district 4, .district 5, .district 6, .district 7, .store, .line, .booking]) →
    sources = order.filter (fun x => decide (s.conditions x ≠ [])) →
    exec (.readAttention tag) s = .next (withResponse s tag 0x51 .done
      (listed (fun x : Source => [.choice x.number] ++ conditionList s x) sources
        ++ (match sources with
          | [] => [.presence false]
          | x :: _ => match s.conditions x with
            | [] => [.presence false]
            | c :: _ => [.presence true, .choice x.number, .choice c.1])))
    ∧ (s.attnLow = true ↔ sources ≠ [])
    ∧ (∀ x, x ∈ sources ↔ s.conditions x ≠ [])
    ∧ (Source.yard.number = 0 ∧ (∀ d, (Source.district d).number = d + 1) ∧ (∀ h, (Source.holder h).number = h + 9)
      ∧ Source.store.number = 15 ∧ Source.line.number = 16 ∧ Source.booking.number = 17)
    ∧ s.conditions .yard
      = (match s.yard.restarted with
        | none => []
        | some c => [(0, [.choice ([RestartCause.powerOn, .freshStart, .yardReset].idxOf c)])])
        ++ (match s.yard.holdEntered with
        | none => []
        | some c => [(1, [.choice ([HoldCause.yardHold, .lineDead].idxOf c)])])
        ++ (match s.yard.periodClosed with
        | none => []
        | some p => [(2, [.num 2 p])])
    ∧ (∀ (d : DistrictId) (l : DistrictLatches), l = (s.district d).latches → s.conditions (.district d)
      = [(l.tripped, 0), (l.starved, 1), (l.short, 2), (l.autoJoinFailed, 3), (l.governorSilent, 4), (l.telltaleLow, 5),
          (l.autoJoinStarted, 6)].filterMap fun x => if x.1 then some (x.2, []) else none)
    ∧ (∀ (h : HolderId) (l : HolderLatches), l = (s.holder h).latches → s.conditions (.holder h)
      = [(l.fault, 0), (l.orderShort, 1), (l.forcedContinue, 2), (l.lowStopWithdrawn, 3), (l.crownSilent, 4), (l.crownJump, 5),
          (l.orderStopped, 6), (l.orderDone, 7), (l.crownReturned, 8), (l.recovered, 9)].filterMap
            fun x => if x.1 then some (x.2, []) else none)
    ∧ s.conditions .store
      = (match s.rst.damagedLatch with
        | none => []
        | some x => [(0, [.num 2 x.slot, .num 2 (min x.reads 65535)])])
        ++ (match s.rst.correctedLatch with
        | none => []
        | some n => [(1, [.num 2 n])])
    ∧ (∀ l : LineLatches, l = s.line.latches → s.conditions .line
      = (if l.lineDead then [(0, [])] else [])
        ++ (match l.silent with
        | none => []
        | some a => [(1, listed (fun n => [.num 1 n]) a)])
        ++ (match l.returned with
        | none => []
        | some a => [(2, listed (fun n => [.num 1 n]) a)])
        ++ (match l.checkError with
        | none => []
        | some n => [(3, [.num 2 (min n 65535)])])
        ++ (match l.abort with
        | none => []
        | some n => [(4, [.num 2 (min n 65535)])])
        ++ (match l.unexpected with
        | none => []
        | some u => [(5, [.num 1 u.1, .num 2 (min u.2 65535)])]))
    ∧ s.conditions .booking
      = (match s.bke.diverted with
        | none => []
        | some x => [(0, listed (fun r => [.choice ([Divert.implausible, .noRoute, .barred, .closed, .damaged, .full].idxOf r)]) x.reasons
            ++ [.num 1 x.address, .num 1 x.channel, .num 2 x.point])])
        ++ (match s.bke.implausible with
        | none => []
        | some x => [(1, [.num 1 x.address, .num 1 x.channel, .num 2 x.pulses])])

/-- ACK (11 R199): in every mode it names one of the eighteen sources, an unfitted holder among them, clears every latch of it
with its detail, leaves every count and record and every other source as they stand, and lists the conditions it cleared; the
last latch cleared releases ATTN. Another number is RANGE. -/
def Obligations.AckClearsTheNamedSource : Prop :=
  ∀ (s : State) (tag : Byte), Ready s →
    (∀ n, 18 ≤ n → exec (.ack tag n) s = .next (withResponse s tag 0x52 .range []))
    ∧ (∀ x : Source, x.number < 18 ∧ ∃ t, exec (.ack tag x.number) s
          = .next (withResponse t tag 0x52 .done (listField conditionFields (s.conditions x)))
        ∧ t.conditions x = [] ∧ (∀ y, y ≠ x → t.conditions y = s.conditions y)
        ∧ ((∀ y, y ≠ x → s.conditions y = []) → t.attnLow = false))
    ∧ exec (.ack tag 0) s = .next (withResponse
        { s with yard := { s.yard with restarted := none, holdEntered := none, periodClosed := none } } tag 0x52 .done
        (listField conditionFields (s.conditions .yard)))
    ∧ (∀ d : DistrictId, exec (.ack tag (d.val + 1)) s = .next (withResponse
        (s.modDistrict d fun r => { r with latches := ⟨false, false, false, false, false, false, false⟩ }) tag 0x52 .done
        (listField conditionFields (s.conditions (.district d)))))
    ∧ (∀ h : HolderId, exec (.ack tag (h.val + 9)) s = .next (withResponse
        (s.setHolder h { s.holder h with
          latches := ⟨false, false, false, false, false, false, false, false, false, false⟩ }) tag 0x52 .done
        (listField conditionFields (s.conditions (.holder h)))))
    ∧ exec (.ack tag 15) s = .next (withResponse
        { s with rst := { s.rst with damagedLatch := none, correctedLatch := none } } tag 0x52 .done
        (listField conditionFields (s.conditions .store)))
    ∧ exec (.ack tag 16) s = .next (withResponse
        { s with line := { s.line with latches := ⟨false, none, none, none, none, none⟩ } } tag 0x52 .done
        (listField conditionFields (s.conditions .line)))
    ∧ exec (.ack tag 17) s = .next (withResponse
        { s with bke := { s.bke with diverted := none, implausible := none } } tag 0x52 .done
        (listField conditionFields (s.conditions .booking)))

/-- WORK, SETUP and RESUME (10 R184 to R187): WORK in SETUP names the first check that fails with its holder or district, or
enters WORKING; SETUP is refused while a fitted holder has an order or a change-over other than ISOLATE; RESUME in HOLD enters
WORKING unless the line is dead. The presence byte of the record named is log entry 12. -/
def Obligations.ModeRequestsChangeTheMode : Prop :=
  ∀ (s : State) (tag : Byte), Ready s →
    (s.yard.mode = .setup →
      (∀ h : HolderId, (s.holder h).fitted = true → (s.holder h).state = .recovering →
        (∀ g : HolderId, g < h → (s.holder g).fitted = true → (s.holder g).state ≠ .recovering) →
        exec (.work tag) s = .next (withResponse s tag 0x60 .wrongState [.num 1 1, .presence true, .num 1 h]))
      ∧ ((∀ h, (s.holder h).fitted = true → (s.holder h).state ≠ .recovering) →
        (∀ h : HolderId, (s.holder h).fitted = true → s.crownEntry h = none →
          (∀ g : HolderId, g < h → (s.holder g).fitted = true → (s.crownEntry g).isSome = true) →
          exec (.work tag) s = .next (withResponse s tag 0x60 .wrongState [.num 1 2, .presence true, .num 1 h]))
        ∧ ((∀ h, (s.holder h).fitted = true → (s.crownEntry h).isSome = true) →
          (∀ d : DistrictId, (s.district d).state ≠ .out → (s.governorEntry d = none ∨ s.telltaleEntry d = none) →
            (∀ e : DistrictId, e < d → (s.district e).state ≠ .out →
              (s.governorEntry e).isSome = true ∧ (s.telltaleEntry e).isSome = true) →
            exec (.work tag) s = .next (withResponse s tag 0x60 .wrongState [.num 1 3, .presence true, .num 1 d]))
          ∧ ((∀ d, (s.district d).state ≠ .out → (s.governorEntry d).isSome = true ∧ (s.telltaleEntry d).isSome = true) →
            ((∀ e ∈ s.line.entries, e.kind ≠ .barometer) →
              exec (.work tag) s = .next (withResponse s tag 0x60 .wrongState [.num 1 4, .presence false]))
            ∧ (∀ e ∈ s.line.entries, e.kind = .barometer →
              (s.line.dead = true → exec (.work tag) s = .next (withResponse s tag 0x60 .wrongState [.num 1 5, .presence false]))
              ∧ (s.line.dead = false → (∀ h, (s.holder h).changeOver = none) →
                (∀ d, (s.district d).state ≠ .short ∧ (s.district d).state ≠ .starved) → s.occasions = [] → s.attempt = none →
                exec (.work tag) s
                  = .next (withResponse { s with yard := { s.yard with mode := .working } } tag 0x60 .done [])))))))
    ∧ (s.yard.mode = .setup → exec (.setup tag) s = .next (withResponse s tag 0x61 .done []))
    ∧ (s.yard.mode ≠ .setup →
      (∀ h, (s.holder h).fitted = true → ((s.holder h).active.isSome = true ∨ (s.holder h).next.isSome = true
          ∨ ∃ c, (s.holder h).changeOver = some c ∧ c.target ≠ .isolated) →
        exec (.setup tag) s = .next (withResponse s tag 0x61 .wrongState []))
      ∧ ((∀ h, (s.holder h).fitted = true → (s.holder h).active = none ∧ (s.holder h).next = none
          ∧ ∀ c, (s.holder h).changeOver = some c → c.target = .isolated) →
        exec (.setup tag) s = .next (withResponse { s with yard := { s.yard with mode := .setup } } tag 0x61 .done [])))
    ∧ (s.yard.mode = .hold →
      (s.line.dead = true → exec (.resume tag) s = .next (withResponse s tag 0x62 .wrongState []))
      ∧ (s.line.dead = false → (∀ h, (s.holder h).changeOver = none) →
        (∀ d, (s.district d).state ≠ .short ∧ (s.district d).state ≠ .starved) → s.occasions = [] → s.attempt = none →
        exec (.resume tag) s = .next (withResponse { s with yard := { s.yard with mode := .working } } tag 0x62 .done []))
      ∧ (∀ (h : HolderId) c, s.line.dead = false → (s.holder h).changeOver = some c → c.started = false →
        c.moves[c.step]? = some .openInlet → (∀ g, g ≠ h → (s.holder g).changeOver = none) →
        (∀ d, (s.district d).state ≠ .short ∧ (s.district d).state ≠ .starved) → s.occasions = [] → s.attempt = none →
        exec (.resume tag) s = .next (withResponse
          (({ s with yard := { s.yard with mode := .working } }.setHolder h { s.holder h with
            inletIntent := .opened, changeOver := some { c with started := true, timer := some (s.holder h).travel } }).setDrive h
              (some .inletOpen)) tag 0x62 .done [])))

/-! ### The outstation line -/

/-- The END of a poll has gone out: OLDIR falls and the reply wait runs (09 R165, R171). At its end the attempt is a miss:
within the retry limit the entry is polled again with its pending command, a SILENT entry's single attempt leaves the turn to
the next, and past the limit the entry goes SILENT, its owner is told and the line judges itself, dead where every entry is
SILENT (09 R172, R175, R178). The next turn is chosen by the two classes, the fast share, the ordinary-turn count and the
class's position (R170). A frame begun before the wait's end is still received to its end, whatever the next poll (log entry
30); an expiry while the poll is being sent changes nothing (log entry 7). -/
def Obligations.UnansweredPollsEndInSilence : Prop :=
  ∀ (s : State) (x : Exchange) (e : PollEntry), s.running = true → s.line.exchange = some x →
    exec .pollSent s = .next { s with line := { s.line with
      tx := [], gaveUp := false, lateFrame := false, exchange := some { x with sending := false } } }
    ∧ (x.sending = true → exec .replyWaitExpiry s = .next s)
    ∧ (x.sending = false → x.single = false → s.line.entry x.address = some e → e.misses < e.retry → e.retry ≤ 15 →
      exec .replyWaitExpiry s = .next { s with line := { s.line with
        entries := s.line.entries.map fun y => if y.address = x.address then { y with misses := e.misses + 1 } else y
        exchange := some ⟨x.address, true, e.command, s.yard.replyWait, false⟩
        tx := pollFrame x.address e.kind e.command, gaveUp := false, lateFrame := decide (s.line.rx ≠ .hunt) } })
    ∧ (∀ h, x.sending = false → x.single = false → s.line.entries = [e] → e.address = x.address → e.kind = .crown →
      e.link = .holder h → e.state ≠ .silent → e.retry ≤ e.misses → e.misses ≤ 15 → s.line.dead = false →
      exec .replyWaitExpiry s = .next { s with
        line := { s.line with
          entries := [{ e with state := .silent, misses := e.misses + 1 }]
          ordPos := 1
          exchange := some ⟨x.address, true, e.command, s.yard.replyWait, true⟩
          tx := pollFrame x.address .crown e.command
          gaveUp := false
          lateFrame := decide (s.line.rx ≠ .hunt)
          dead := true
          latches := { s.line.latches with
            lineDead := true, silent := some (addNew (s.line.latches.silent.getD []) x.address) } }
        inTransit := s.inTransit ++ [.crownSilentNotice h, .lineDeadNotice] })
    ∧ (x.sending = false → x.single = true → s.line.entries = [e] → e.address = x.address → e.kind = .meter → e.state = .silent →
      e.misses ≤ 254 →
      exec .replyWaitExpiry s = .next { s with line := { s.line with
        entries := [{ e with misses := e.misses + 1 }]
        ordPos := 1
        exchange := some ⟨x.address, true, e.command, s.yard.replyWait, true⟩
        tx := pollFrame x.address .meter e.command, gaveUp := false, lateFrame := decide (s.line.rx ≠ .hunt) } })
    ∧ (∀ l t : Line, x.sending = false → x.single = true → s.line.entry x.address = some e → e.misses ≤ 254 →
      l = { s.line with
        entries := s.line.entries.map fun y => if y.address = x.address then { y with misses := e.misses + 1 } else y
        gaveUp := false, lateFrame := decide (s.line.rx ≠ .hunt) } →
      TurnTaken s.yard l t → exec .replyWaitExpiry s = .next { s with line := t })
    ∧ (∀ (l t : Line) (told : List Instr), x.sending = false → x.single = false → s.line.entry x.address = some e →
      e.retry ≤ e.misses → e.misses ≤ 254 → s.line.dead = false →
      (∃ y ∈ s.line.entries, y.address ≠ x.address ∧ y.state ≠ .silent) →
      ((∃ h, e.kind = .crown ∧ e.link = .holder h ∧ told = [.crownSilentNotice h])
        ∨ (∃ d, e.kind = .governor ∧ e.link = .district d ∧ told = [.governorSilentNotice d])
        ∨ (∃ d, e.kind = .telltale ∧ e.link = .district d ∧ told = [.telltaleSilentNotice d])
        ∨ ((e.kind = .meter ∨ e.kind = .barometer ∨ e.link = .none) ∧ told = [])) →
      l = { s.line with
        entries := s.line.entries.map fun y =>
          if y.address = x.address then { y with state := .silent, misses := e.misses + 1 } else y
        latches := { s.line.latches with silent := some (addNew (s.line.latches.silent.getD []) e.address) }
        gaveUp := false, lateFrame := decide (s.line.rx ≠ .hunt) } →
      TurnTaken s.yard l t → exec .replyWaitExpiry s = .next { s with line := t, inTransit := s.inTransit ++ told })

/-- A good reply to the poll that waits makes its entry ANSWERING with its misses at 0 and the reading kept, latches a return
from SILENT, ends a dead line, and is handed to the owner (09 R171 to R173, R178). Bytes that arrive while a poll is being
sent are not taken (R167), but for those of a frame begun before the wait that ended without it, which is unexpected (R171;
log entry 30); a frame with no exchange in progress is unexpected, and one that ABORT ends is counted and latched (R171, R176,
R177). That a good frame leaves the receiver in HUNT is log entry 45. -/
def Obligations.GoodRepliesAreHandedToTheirOwners : Prop :=
  ∀ (s : State) (bytes : List Byte), s.running = true →
    (s.line.tx ≠ [] → s.line.lateFrame = false → exec (.lineFrameEnd bytes) s = .next s)
    ∧ (∀ x a r, s.line.tx ≠ [] → s.line.lateFrame = true → s.line.rx = .frame [] → s.line.exchange = some x → x.sending = true →
      1 ≤ a → a ≤ 62 → readingFits r = true →
      exec (.lineFrameEnd ((replyFrame a r).drop 1)) s = .next { s with line := { s.line with
        rx := .hunt
        lateFrame := false
        unexpected := bump 65535 s.line.unexpected
        latches := { s.line.latches with unexpected := some (a, (s.line.latches.unexpected.map (·.2)).getD 0 + 1) } } })
    ∧ (∀ a : Byte, s.line.tx = [] → s.line.rx = .hunt → s.line.exchange = none → isSpecial a = false →
      exec (.lineFrameEnd [0xF1, a, 0xF4]) s = .next { s with line := { s.line with
        lateFrame := false
        aborts := bump 65535 s.line.aborts
        latches := { s.line.latches with abort := some (s.line.latches.abort.getD 0 + 1) } } })
    ∧ (∀ a : Byte, s.line.tx = [] → s.line.rx = .hunt → s.line.exchange = none → isSpecial a = false →
      exec (.lineFrameEnd [0xF1, a, 0xF2]) s = .next { s with line := { s.line with
        lateFrame := false
        checkErrors := bump 65535 s.line.checkErrors
        latches := { s.line.latches with checkError := some (s.line.latches.checkError.getD 0 + 1) } } })
    ∧ (∀ a r, s.line.tx = [] → s.line.rx = .hunt → s.line.exchange = none → 1 ≤ a → a ≤ 62 → readingFits r = true →
      exec (.lineFrameEnd (replyFrame a r)) s = .next { s with line := { s.line with
        lateFrame := false
        unexpected := bump 65535 s.line.unexpected
        latches := { s.line.latches with unexpected := some (a, (s.line.latches.unexpected.map (·.2)).getD 0 + 1) } } })
    ∧ (∀ x e r, s.line.tx = [] → s.line.rx = .hunt → s.line.exchange = some x → x.sending = false → 1 ≤ x.address →
      x.address ≤ 62 → s.line.entry x.address = some e → r.kind = e.kind → readingFits r = true →
      ∃ t, exec (.lineFrameEnd (replyFrame x.address r)) s = .next t
        ∧ t.line.entry x.address = some { e with
            state := .answering, misses := 0, last := some r
            handed := match r, e.link with
              | .crown _, .holder _ => true
              | .meter _, _ => true
              | .governor _, .district _ => true
              | .telltale _, .district _ => true
              | .barometer _, .yard => true
              | _, _ => false }
        ∧ (∀ b, b ≠ x.address → t.line.entry b = s.line.entry b)
        ∧ t.line.latches = { s.line.latches with returned :=
            (if e.state = .silent then some (addNew (s.line.latches.returned.getD []) x.address)
              else s.line.latches.returned) }
        ∧ t.line.dead = false ∧ t.line.rx = .hunt ∧ t.line.checkErrors = s.line.checkErrors
        ∧ t.line.aborts = s.line.aborts ∧ t.line.unexpected = s.line.unexpected
        ∧ t.inTransit = s.inTransit ++ (if s.line.dead then [.lineAliveNotice] else [])
            ++ (match r, e.link with
                | .crown c, .holder h => [.crownReply h c]
                | .meter c, _ => [.meterReply x.address c]
                | .governor c, .district d => [.governorReply d c]
                | .telltale p, .district d => [.telltaleReply d p]
                | .barometer b, .yard => [.barometerReply b]
                | _, _ => [])
        ∧ { t with line := s.line, inTransit := s.inTransit } = s)

/-- The words of OLC that a station is SILENT, and of the line (02 R32, 04 R70, R74, 10 R187), and the end of a move timer (03
R47, 02 R31): a silent crown clears the answering flag and latches, also of an unfitted holder, a silent governor latches, a
silent tell-tale changes nothing, a dead line puts a WORKING yard in HOLD, and a valve not proved in time makes the holder
FAULTED. The scrub timer's end asks for a check of the slot at the pointer, which judges it, corrects one flawed word and
moves on, slot 343 to slot 0 (08 R155, R161, R163). A slot it cannot correct is counted and latched: the suspense account
starts afresh, another account is marked damaged, and a table is marked damaged, with the booking cache flushed and the walk
in flight or the resolution held marked stale (05 R108, 08 R156 to R158). A timer that does not run, and a silence for a
holder that no entry links to, change nothing (log entry 7); a district takes a silence also of a station it has released since,
and a holder that of a crown entry in whose place it names another by then (log entry 42). -/
def Obligations.SilencesAndTimersAreTaken : Prop :=
  ∀ (s : State) (h : HolderId) (d : DistrictId), s.running = true →
    ((s.crownEntry h).isSome = true → (s.holder h).answering = true →
      exec (.crownSilentNotice h) s = .next ({ ((s.taken (.crownSilentNotice h)).setHolder h { s.holder h with
          answering := false, latches := { (s.holder h).latches with crownSilent := true } }) with
        inTransit := s.inTransit.erase (.crownSilentNotice h)
          ++ [.holderValuesNotice ⟨h, false, (s.holder h).stagePressure, none, false, false⟩] }))
    ∧ ((s.crownEntry h).isSome = true → (s.holder h).answering = false →
      exec (.crownSilentNotice h) s = .next ((s.taken (.crownSilentNotice h)).setHolder h { s.holder h with
        latches := { (s.holder h).latches with crownSilent := true } }))
    ∧ (s.crownEntry h = none → exec (.crownSilentNotice h) s = .next (s.taken (.crownSilentNotice h)))
    ∧ exec (.governorSilentNotice d) s = .next ((s.taken (.governorSilentNotice d)).modDistrict d fun r =>
        { r with latches := { r.latches with governorSilent := true } })
    ∧ exec (.telltaleSilentNotice d) s = .next (s.taken (.telltaleSilentNotice d))
    ∧ (s.yard.mode = .working → exec .lineDeadNotice s = .next
        { s.taken .lineDeadNotice with yard := { s.yard with mode := .hold, holdEntered := some .lineDead } })
    ∧ (s.yard.mode ≠ .working → exec .lineDeadNotice s = .next (s.taken .lineDeadNotice))
    ∧ exec .lineAliveNotice s = .next (s.taken .lineAliveNotice)
    ∧ (∀ c t, (s.holder h).changeOver = some c → c.timer = some t →
      exec (.moveTimerExpiry h) s = .next (((s.setHolder h { s.holder h with
          changeOver := none, faultStep := c.step, active := none, next := none, activationWaits := false, faulted := true
          faultReason := some .noProof, state := .faulted, latches := { (s.holder h).latches with fault := true } }).setDrive h
            none).send (.removeNotice ⟨h, (s.holder h).answering, (s.holder h).stagePressure, none, false, false⟩)))
    ∧ ((∀ c, (s.holder h).changeOver = some c → c.timer = none) → exec (.moveTimerExpiry h) s = .next s)
    ∧ (s.rst.scrubTimer = none → exec .scrubTimerExpiry s = .next s)
    ∧ (s.rst.scrubTimer.isSome = true → s.rst.scrubPending = true → exec .scrubTimerExpiry s
      = .next { s with rst := { s.rst with scrubTimer := some s.yard.scrubInterval } })
    ∧ (s.rst.scrubTimer.isSome = true → s.rst.scrubPending = false → StoreIdle s → exec .scrubTimerExpiry s
      = .next { s with rst := { s.rst with
          scrubTimer := some s.yard.scrubInterval
          scrubPending := true
          arbiter := { s.rst.arbiter with
            serving := some ⟨.scrub, s.yard.period, s.yard.barometer, s.yard.declaredCv, s.bke.staleCommit⟩ } } })
    ∧ (∀ g, Serves s g .scrub → s.rst.isDamaged s.rst.scrubPointer = true ∨ s.rst.flawsOf s.rst.scrubPointer = 0 →
      exec (.scrubCheck []) s = .next { s with rst := { s.rst with
          scrubPointer := if s.rst.scrubPointer < 343 then s.rst.scrubPointer + 1 else 0
          scrubPending := false
          arbiter := { s.rst.arbiter with serving := none } } })
    ∧ (∀ g, Serves s g .scrub → s.rst.isDamaged s.rst.scrubPointer = false → s.rst.flawsOf s.rst.scrubPointer = 1 →
      exec (.scrubCheck []) s = .next { s with rst := { s.rst with
          flaws := writeAt 0 s.rst.flaws s.rst.scrubPointer 0
          corrected := bump 65535 s.rst.corrected
          lastCorrected := some s.rst.scrubPointer
          correctedLatch := some s.rst.scrubPointer
          scrubPointer := if s.rst.scrubPointer < 343 then s.rst.scrubPointer + 1 else 0
          scrubPending := false
          arbiter := { s.rst.arbiter with serving := none } } })
    ∧ (∀ (g : Grant) (p : Nat) (r : Rst), Serves s g .scrub → p = s.rst.scrubPointer → s.rst.isDamaged p = false → 2 ≤ s.rst.flawsOf p →
      r = { s.rst with
        damagedReads := bump 65535 s.rst.damagedReads
        lastDamaged := some p
        damagedLatch := some ⟨p, (s.rst.damagedLatch.map (·.reads)).getD 0 + 1⟩
        scrubPointer := if p < 343 then p + 1 else 0
        scrubPending := false
        arbiter := { s.rst.arbiter with serving := none } } →
      (p = 0 → exec (.scrubCheck []) s = .next { s with rst := (r.putAccount 0
        ⟨.opened, some .suspense, none, g.period, 0, 0, 0, 0, 0, 0, false, 0, 0, 0, ⟨0, 0, 0, 0, 0, 0⟩⟩) })
      ∧ (1 ≤ p → p ≤ 255 → exec (.scrubCheck []) s
        = .next { s with rst := { r with damaged := writeAt false r.damaged p true } })
      ∧ (256 ≤ p → exec (.scrubCheck []) s = .next { s with
          rst := { r with damaged := writeAt false r.damaged p true }
          bke := { s.bke with
            cache := []
            inHand := s.bke.inHand.map fun h => { h with phase := match h.phase with
              | .resolving w => .resolving { w with stale := true }
              | .committing (some x) _ => .committing (some x) true
              | p => p } } }))

/-! ### Crown replies and orders that join a district -/

/-- A crown reply (02 R23 to R31, 03 R37, R46, R54, R55, 10 R189): one for a holder without a crown station is not taken (log
entry 7). The first reply after a reset settles the state by the first case that applies. Later a height within a step is
taken and the stock worked again, an implausible one is a jump candidate whose third is taken, and the landing switch forces
0; a reply that finds the answering flag clear latches CROWN-RETURNED. A valve in CONFLICT, or away from its intent with no
move driving it, is a fault, but in FAULTED. A proved valve ends its move, and a change-over reaches its target; at its low
stop a holder that gives gas, at its top stop one that takes it, is changed over and its order ends SHORT. Which notice a
reply's changes go in is log entry 6, the remainder of a NEXT order log entry 27, that a reply of a crown entry is taken where
the holder names another by then log entry 42. Recovery reads the feed lists with the notices in transit taken as given (log
entry 5). -/
def Obligations.CrownRepliesMoveTheHolder : Prop :=
  ∀ (s : State) (h : HolderId) (c : CrownReading), s.running = true →
    ((s.holder h).fitted = false ∨ s.crownEntry h = none → exec (.crownReply h c) s = .next (s.taken (.crownReply h c)))
    ∧ (∀ r : Holder, (s.holder h).fitted = true → (s.crownEntry h).isSome = true → (s.holder h).changeOver = none →
      (s.holder h).state = .recovering →
      r = ({ s.holder h with
        height := if c.landing then 0 else min c.height (totalStroke (s.holder h).lifts)
        temp := c.temp, jump := none, answering := true
        provedInlet := provedBy c.inletOpen c.inletClosed, provedOutlet := provedBy c.outletOpen c.outletClosed
        latches := { (s.holder h).latches with recovered := true } }).recompute s.yard.barometer →
      let settled (x : Holder) (m : HolderNotice → Instr) : State :=
        ((s.taken (.crownReply h c)).setHolder h x).send (m ⟨h, true, r.stagePressure, none, false, false⟩)
      let failed (reason : FaultReason) : State :=
        (((s.taken (.crownReply h c)).setHolder h { r with
          active := none, next := none, activationWaits := false, faultStep := 0, faulted := true, faultReason := some reason
          state := .faulted, latches := { r.latches with fault := true } }).setDrive h none).send
            (.removeNotice ⟨h, true, r.stagePressure, none, false, false⟩)
      (r.faulted = true → exec (.crownReply h c) s = .next (settled { r with state := .faulted } .holderValuesNotice))
      ∧ (r.faulted = false → ¬ (InletAt r ∧ OutletAt r) → exec (.crownReply h c) s = .next (failed .recoveryMismatch))
      ∧ (r.faulted = false → InletAt r → OutletAt r →
        (r.outletIntent = .opened → s.feedOf h = none → exec (.crownReply h c) s = .next (failed .orphan))
        ∧ (r.inletIntent = .closed → r.outletIntent = .closed →
          (r.isolated = true → exec (.crownReply h c) s = .next (settled { r with state := .isolated } .holderValuesNotice))
          ∧ (r.isolated = false → exec (.crownReply h c) s = .next (settled { r with state := .standing } .standingNotice)))
        ∧ (r.inletIntent = .opened → r.outletIntent = .closed →
          exec (.crownReply h c) s = .next (settled { r with state := .filling } .holderValuesNotice))
        ∧ (r.outletIntent = .opened → s.feedOf h ≠ none →
          exec (.crownReply h c) s = .next (settled
            { r with state := if r.inletIntent = .opened then .floating else .drawing } .holderValuesNotice))))
    ∧ (∀ x r : Holder, (s.holder h).fitted = true → (s.crownEntry h).isSome = true → TakesHeight (s.holder h) c x →
      r = ({ x with
        temp := c.temp, answering := true
        provedInlet := provedBy c.inletOpen c.inletClosed, provedOutlet := provedBy c.outletOpen c.outletClosed
        latches := { x.latches with crownReturned := x.latches.crownReturned || !(s.holder h).answering } }).recompute
          s.yard.barometer →
      let taken : State := (s.taken (.crownReply h c)).setHolder h r
      let told : State := if (s.holder h).answering = true ∧ r.stagePressure = (s.holder h).stagePressure then taken
        else taken.send (.holderValuesNotice ⟨h, true, r.stagePressure, none, false, false⟩)
      let failed (step : Nat) : State :=
        (((s.taken (.crownReply h c)).setHolder h { r with
          changeOver := none, active := none, next := none, activationWaits := false, faultStep := step, faulted := true
          faultReason := some .uncommanded, state := .faulted, latches := { r.latches with fault := true } }).setDrive h none).send
            (.removeNotice ⟨h, true, r.stagePressure, none, false, false⟩)
      ((s.holder h).active = none → (s.holder h).startStock = none → (s.holder h).changeOver = none →
        ((s.holder h).state = .standing ∨ (s.holder h).state = .isolated →
          (InletAt r → OutletAt r → exec (.crownReply h c) s = .next told)
          ∧ (¬ (InletAt r ∧ OutletAt r) → exec (.crownReply h c) s = .next (failed 0)))
        ∧ ((s.holder h).state = .faulted → exec (.crownReply h c) s = .next told))
      ∧ ((s.holder h).active = none → (s.holder h).startStock = none → (s.holder h).state = .changing →
        ∀ (k : ChangeOver) (m : Move) (seen goal : Proved) (rest : Prop), (s.holder h).changeOver = some k → k.started = true →
          k.moves[k.step]? = some m →
          ((m = .openInlet ∧ seen = r.provedInlet ∧ goal = .opened ∧ (rest ↔ OutletAt r))
            ∨ (m = .closeInlet ∧ seen = r.provedInlet ∧ goal = .closed ∧ (rest ↔ OutletAt r))
            ∨ (m = .openOutlet ∧ seen = r.provedOutlet ∧ goal = .opened ∧ (rest ↔ InletAt r))
            ∨ (m = .closeOutlet ∧ seen = r.provedOutlet ∧ goal = .closed ∧ (rest ↔ InletAt r))) →
          seen ≠ goal →
          (seen ≠ .conflict → rest → exec (.crownReply h c) s = .next told)
          ∧ (seen = .conflict ∨ ¬ rest → exec (.crownReply h c) s = .next (failed k.step))))
    ∧ (∀ tm, (s.holder h).fitted = true → (s.crownEntry h).isSome = true → (s.holder h).state = .changing →
      (s.holder h).changeOver = some ⟨.filling, [.openInlet], 0, true, some tm⟩ → (s.holder h).active = none →
      (s.holder h).startStock = none → (s.holder h).answering = true → (s.holder h).inletIntent = .opened →
      (s.holder h).outletIntent = .closed → c.height = (s.holder h).height →
      c.height ≤ totalStroke (s.holder h).lifts → c.height < (s.holder h).topStop → c.landing = false → c.topStop = false →
      c.inletOpen = true → c.inletClosed = false → c.outletOpen = false → c.outletClosed = true →
      ∀ r : Holder, r = ({ s.holder h with
          temp := c.temp, jump := none, provedInlet := .opened, provedOutlet := .closed }).recompute s.yard.barometer →
        r.stagePressure = (s.holder h).stagePressure →
        exec (.crownReply h c) s = .next (((s.taken (.crownReply h c)).setHolder h { r with
          changeOver := none, state := .filling }).setDrive h none))
    ∧ (∀ (d : DistrictId) (x r y : Holder) (moves : List Move), (s.holder h).fitted = true → (s.crownEntry h).isSome = true →
      (s.holder h).changeOver = none → (s.holder h).answering = true → s.yard.mode ≠ .hold → s.inTransit = [] →
      (∀ e : DistrictId, h ∈ (s.district e).feeds ↔ e = d) → (s.holder h).outletIntent = .opened →
      c.outletOpen = true → c.outletClosed = false →
      (((s.holder h).state = .drawing ∧ (s.holder h).inletIntent = .closed ∧ c.inletOpen = false ∧ c.inletClosed = true
          ∧ moves = [.leave, .closeOutlet])
        ∨ ((s.holder h).state = .floating ∧ (s.holder h).inletIntent = .opened ∧ c.inletOpen = true ∧ c.inletClosed = false
          ∧ moves = [.leave, .closeOutlet, .closeInlet])) →
      TakesHeight (s.holder h) c x → (x.height ≤ x.lowStop ∨ c.landing = true) →
      r = ({ x with temp := c.temp, provedInlet := (if c.inletOpen = true then .opened else .closed), provedOutlet := .opened
        }).recompute s.yard.barometer →
      LimitEnded (s.holder h) r { r with latches := { r.latches with lowStopWithdrawn := true } } y →
      exec (.crownReply h c) s = .next ((s.setHolder h { y with
          state := .changing, changeOver := some ⟨.standing, moves, 0, true, none⟩ }).send
        (.leaveNotice ⟨h, true, r.stagePressure, none, false, false⟩)))
    ∧ (∀ (x r y : Holder) (target : Target), (s.holder h).fitted = true → (s.crownEntry h).isSome = true →
      (s.holder h).changeOver = none → (s.holder h).answering = true → s.yard.mode ≠ .hold → s.inTransit = [] →
      (s.holder h).inletIntent = .opened → c.inletOpen = true → c.inletClosed = false →
      (((s.holder h).state = .filling ∧ (∀ e : DistrictId, h ∉ (s.district e).feeds) ∧ (s.holder h).outletIntent = .closed
          ∧ c.outletOpen = false ∧ c.outletClosed = true ∧ target = .standing)
        ∨ (∃ d : DistrictId, (s.holder h).state = .floating ∧ (∀ e : DistrictId, h ∈ (s.district e).feeds ↔ e = d)
          ∧ (s.holder h).outletIntent = .opened ∧ c.outletOpen = true ∧ c.outletClosed = false
          ∧ c.landing = false ∧ x.lowStop < x.height ∧ target = .drawing d)) →
      TakesHeight (s.holder h) c x → (x.topStop ≤ x.height ∨ c.topStop = true) →
      r = ({ x with temp := c.temp, provedInlet := .opened, provedOutlet := (if c.outletOpen = true then .opened else .closed)
        }).recompute s.yard.barometer →
      LimitEnded (s.holder h) r r y →
      exec (.crownReply h c) s = .next (
        let t := (s.setHolder h { y with
          state := .changing, inletIntent := .closed
          changeOver := some ⟨target, [.closeInlet], 0, true, some (s.holder h).travel⟩ }).setDrive h (some .inletClosed)
        if r.stagePressure = (s.holder h).stagePressure then t
        else t.send (.holderValuesNotice ⟨h, true, r.stagePressure, none, false, false⟩)))

/-- ORDER of the kinds DRAW, FLOAT and STAND (03 R39, R41, R43, R45, R46, R48, R51): no district is RANGE, one above 7
NO-RECORD, one OUT or TRIPPED WRONG-STATE, one whose feeds and joins on the way make three FULL; a DRAW or FLOAT on a STANDING
holder above its low stop opens the outlet first and tells the district of the pending join; a STAND in STANDING ends at once.
A missing district is RANGE by log entry 15; the fields a kind does not carry are passed over by log entry 13. -/
def Obligations.OrdersThatJoinADistrict : Prop :=
  ∀ (s : State) (tag : Byte) (h : HolderId) (d : DistrictId) (q : Option Nat) (e : Option EndAction), Ready s →
    s.yard.mode = .working → (s.holder h).fitted = true → (s.holder h).state = .standing → (s.holder h).changeOver = none →
    (s.holder h).active = none → (s.holder h).next = none → (s.holder h).inletIntent = .closed →
    (s.holder h).outletIntent = .closed → s.inTransit = [] → (∀ c : DistrictId, h ∉ (s.district c).feeds) →
    optWithin 1 16000000 q = true →
    exec (.order tag h .draw none q e) s = .next (withResponse s tag 0x10 .range [])
    ∧ exec (.order tag h .float none q e) s = .next (withResponse s tag 0x10 .range [])
    ∧ (∀ n, 8 ≤ n → exec (.order tag h .draw (some n) q e) s = .next (withResponse s tag 0x10 .noRecord [])
      ∧ exec (.order tag h .float (some n) q e) s = .next (withResponse s tag 0x10 .noRecord []))
    ∧ ((s.district d).state = .out ∨ (s.district d).state = .tripped →
      exec (.order tag h .draw (some d) q e) s = .next (withResponse s tag 0x10 .wrongState [])
      ∧ exec (.order tag h .float (some d) q e) s = .next (withResponse s tag 0x10 .wrongState []))
    ∧ ((s.district d).state ≠ .out → (s.district d).state ≠ .tripped →
      (3 ≤ (s.district d).feeds.length + joinsHeld s d →
        exec (.order tag h .draw (some d) q e) s = .next (withResponse s tag 0x10 .full [])
        ∧ exec (.order tag h .float (some d) q e) s = .next (withResponse s tag 0x10 .full []))
      ∧ ((s.district d).feeds.length + joinsHeld s d < 3 → (s.holder h).lowStop < (s.holder h).height →
        s.wasLanding h = false →
        exec (.order tag h .draw (some d) q e) s = .next (withResponse
          (((s.setHolder h { s.holder h with
              active := some ⟨.draw, some d, q, e.getD .stand, false⟩, activationWaits := false, startStock := none
              remainder := q
              lastOrder := if q.isSome then some ⟨.draw, some d, q, e.getD .stand, false⟩ else (s.holder h).lastOrder
              state := .changing, outletIntent := .opened
              changeOver := some ⟨.drawing d, [.openOutlet, .join d], 0, true, some (s.holder h).travel⟩ }).setDrive h
                (some .outletOpen)).send
            (.joinPendingNotice ⟨h, (s.holder h).answering, (s.holder h).stagePressure, none, false, false⟩ d))
          tag 0x10 .done [])
        ∧ exec (.order tag h .float (some d) q e) s = .next (withResponse
          (((s.setHolder h { s.holder h with
              active := some ⟨.float, some d, none, .stand, false⟩, activationWaits := false, startStock := none
              remainder := none, state := .changing, outletIntent := .opened
              changeOver := some ⟨.floating d, [.openOutlet, .openInlet, .join d], 0, true, some (s.holder h).travel⟩
              }).setDrive h (some .outletOpen)).send
            (.joinPendingNotice ⟨h, (s.holder h).answering, (s.holder h).stagePressure, none, false, false⟩ d))
          tag 0x10 .done [])))
    ∧ exec (.order tag h .stand none none none) s = .next (withResponse
        (s.setHolder h { s.holder h with
          active := none, activationWaits := false, startStock := none, remainder := none
          latches := { (s.holder h).latches with orderDone := true } }) tag 0x10 .done [])

/-- The automatic join of DIC (03 R41, R44, 04 R79, R80, R82). A standing notice is an occasion for each district with the
holder in its standby list: a SHORT or STARVED one, enabled and without a join in hand in a WORKING yard, places an automatic
DRAW on the first holder of the list that is a candidate, and fails with no room or no candidate; with an attempt in flight
the occasions wait (log entry 8). HOC answers NO-RECORD for a holder not fitted, ILLEGAL-MODE in SETUP (log entry 29) and
WRONG-STATE for one that takes no orders; on a STANDING holder it opens the outlet, tells of the pending join and answers
DONE. DIC takes the pending join before that answer: with the holder among its pending joins the join is in hand, otherwise
the attempt has failed. -/
def Obligations.AutomaticJoinsAreAnswered : Prop :=
  ∀ (s : State) (h : HolderId) (d : DistrictId), s.running = true →
    ((s.holder h).fitted = false → exec (.automaticDraw h d) s
      = .next ((s.taken (.automaticDraw h d)).send (.autoJoinAnswer h d .noRecord)))
    ∧ ((s.holder h).fitted = true → s.yard.mode = .setup → exec (.automaticDraw h d) s
      = .next ((s.taken (.automaticDraw h d)).send (.autoJoinAnswer h d .illegalMode)))
    ∧ ((s.holder h).fitted = true → s.yard.mode ≠ .setup →
      ((s.holder h).state = .recovering ∨ (s.holder h).state = .isolated ∨ (s.holder h).state = .faulted) →
      exec (.automaticDraw h d) s = .next ((s.taken (.automaticDraw h d)).send (.autoJoinAnswer h d .wrongState)))
    ∧ ((s.holder h).fitted = true → (s.holder h).state = .standing → (s.holder h).changeOver = none →
      (s.holder h).active = none → (s.holder h).next = none → (s.holder h).inletIntent = .closed →
      (s.holder h).outletIntent = .closed → s.inTransit = [.automaticDraw h d] → (∀ c : DistrictId, h ∉ (s.district c).feeds) →
      (s.district d).state ≠ .out → (s.district d).state ≠ .tripped →
      (s.district d).feeds.length + joinsHeld s d < 3 → (s.holder h).lowStop < (s.holder h).height →
      s.wasLanding h = false → s.yard.mode = .working →
      exec (.automaticDraw h d) s = .next { ((s.setHolder h { s.holder h with
            active := some ⟨.draw, some d, none, .cont, true⟩, activationWaits := false, startStock := none, remainder := none
            state := .changing, outletIntent := .opened
            changeOver := some ⟨.drawing d, [.openOutlet, .join d], 0, true, some (s.holder h).travel⟩ }).setDrive h
              (some .outletOpen)) with
          inTransit := [.joinPendingNotice ⟨h, (s.holder h).answering, (s.holder h).stagePressure, none, false, false⟩ d,
            .autoJoinAnswer h d .done] })
    ∧ (s.occasions = [] → (∀ n, .joinPendingNotice n d ∈ s.inTransit → n.holder ≠ h) →
      (h ∈ (s.district d).pendingJoins → exec (.autoJoinAnswer h d .done) s
        = .next { ((s.taken (.autoJoinAnswer h d .done)).modDistrict d fun r => { r with
            joinInHand := some h, latches := { r.latches with autoJoinStarted := true } }) with attempt := none })
      ∧ (∀ result, result ≠ .done ∨ h ∉ (s.district d).pendingJoins → exec (.autoJoinAnswer h d result) s
        = .next { ((s.taken (.autoJoinAnswer h d result)).modDistrict d fun r => { r with
            latches := { r.latches with autoJoinFailed := true } }) with attempt := none }))
    ∧ (∀ n : HolderNotice, n.holder = h → n.pend = none → n.remove = false → n.standing = false → s.occasions = [] →
      s.inTransit = [.joinPendingNotice n d, .autoJoinAnswer h d .done] → (∀ e : DistrictId, h ∉ (s.district e).feeds) →
      exec (.autoJoinAnswer h d .done) s
        = .next { ((s.setView h ⟨n.answering, n.stagePressure⟩).modDistrict d fun r => { r with
            pendingJoins := addNew r.pendingJoins h, joinInHand := some h
            latches := { r.latches with autoJoinStarted := true } }) with inTransit := [], attempt := none })
    ∧ (∀ (n : HolderNotice) (t : State), n.pend = none → n.remove = false → (∀ e : DistrictId, n.holder ∉ (s.district e).feeds) →
      t = (s.taken (.standingNotice n)).setView n.holder ⟨n.answering, n.stagePressure⟩ →
      (s.attempt.isSome = true → exec (.standingNotice n) s = .next { t with
        occasions := s.occasions ++ districtIds.filter fun e => decide (n.holder ∈ (s.district e).standby) })
      ∧ ((∀ e : DistrictId, n.holder ∉ (s.district e).standby) → s.occasions = [] → exec (.standingNotice n) s = .next t)
      ∧ ((∀ e : DistrictId, n.holder ∈ (s.district e).standby ↔ e = d) → s.occasions = [] → s.attempt = none →
        (¬ Attempts s d → exec (.standingNotice n) s = .next t)
        ∧ (Attempts s d →
          (3 ≤ (s.district d).feeds.length + (s.district d).pendingJoins.length
              ∨ (∀ k ∈ (s.district d).standby, ¬ Candidate s (s.district d).required k) →
            exec (.standingNotice n) s = .next (t.modDistrict d fun r =>
              { r with latches := { r.latches with autoJoinFailed := true } }))
          ∧ (∀ before k rest, (s.district d).feeds.length + (s.district d).pendingJoins.length < 3 →
            (s.district d).standby = before ++ k :: rest → (∀ j ∈ before, ¬ Candidate s (s.district d).required j) →
            Candidate s (s.district d).required k →
            exec (.standingNotice n) s = .next { t with
              attempt := some ⟨d, k⟩, inTransit := t.inTransit ++ [.automaticDraw k d] }))))

/-! ### Districts -/

/-- A notice of HOC with nothing riding on it (04 R75 to R78, R81, R82): DIC's view takes its values, the feed lists and
pending joins change as its kind says and no others, its join in hand ends at a join, a withdrawal or a removal, and a
district the holder fed before or feeds after has its available pressure worked again; in service it, and a district whose
join in hand ended, is judged, and one that enters SHORT or STARVED latches it. A join or leave that ends its move lets the
change-over go on (03 R48). -/
def Obligations.NoticesChangeTheFeedLists : Prop :=
  ∀ (s : State) (n : HolderNotice) (d : DistrictId), s.running = true → n.pend = none → n.remove = false → n.standing = false →
    (∀ (m : Instr) (feeds pending : DistrictId → List HolderId) (ends : DistrictId → Bool),
      (m = .holderValuesNotice n ∧ (∀ e, feeds e = (s.district e).feeds ∧ pending e = (s.district e).pendingJoins ∧ ends e = false))
      ∨ (m = .standingNotice n ∧ (∀ e, feeds e = (s.district e).feeds ∧ pending e = (s.district e).pendingJoins ∧ ends e = false))
      ∨ (m = .joinPendingNotice n d ∧ (∀ e, feeds e = (s.district e).feeds ∧ ends e = false
          ∧ pending e = if e = d then addNew (s.district e).pendingJoins n.holder else (s.district e).pendingJoins))
      ∨ (m = .joinNotice n d ∧ (∀ e, ends e = decide (e = d)
          ∧ (feeds e = if e = d then addNew (s.district e).feeds n.holder else (s.district e).feeds)
          ∧ pending e = if e = d then (s.district e).pendingJoins.filter (· ≠ n.holder) else (s.district e).pendingJoins))
      ∨ (m = .leaveNotice n ∧ (∀ e, feeds e = (s.district e).feeds.filter (· ≠ n.holder)
          ∧ pending e = (s.district e).pendingJoins ∧ ends e = false))
      ∨ (m = .withdrawPendingNotice n d ∧ (∀ e, feeds e = (s.district e).feeds ∧ ends e = decide (e = d)
          ∧ pending e = if e = d then (s.district e).pendingJoins.filter (· ≠ n.holder) else (s.district e).pendingJoins))
      ∨ (m = .removeNotice n ∧ (∀ e, feeds e = (s.district e).feeds.filter (· ≠ n.holder)
          ∧ pending e = (s.district e).pendingJoins.filter (· ≠ n.holder) ∧ ends e = true)) →
      ∃ t, exec m s = .next t
        ∧ t.view n.holder = ⟨n.answering, n.stagePressure⟩ ∧ (∀ h, h ≠ n.holder → t.view h = s.view h)
        ∧ (∀ e, (t.district e).feeds = feeds e ∧ (t.district e).pendingJoins = pending e
          ∧ (t.district e).joinInHand = (if (s.district e).joinInHand = some n.holder ∧ ends e = true then none
              else (s.district e).joinInHand)
          ∧ (n.holder ∈ (s.district e).feeds ∨ n.holder ∈ feeds e → (t.district e).available
            = (((feeds e).filter fun h => (t.view h).answering).map fun h => (t.view h).pressure).foldl max 0)
          ∧ (n.holder ∉ (s.district e).feeds → n.holder ∉ feeds e → (t.district e).available = (s.district e).available)
          ∧ (t.district e).state = (if (s.district e).state.inService = true ∧ (n.holder ∈ (s.district e).feeds ∨ n.holder ∈ feeds e
              ∨ ((s.district e).joinInHand = some n.holder ∧ ends e = true)) then
                stateOfFeeds t.view (feeds e) (s.district e).required (t.district e).available
              else (s.district e).state)
          ∧ (t.district e).latches.starved = ((s.district e).latches.starved
              || decide ((t.district e).state = .starved ∧ (s.district e).state ≠ .starved))
          ∧ (t.district e).latches.short = ((s.district e).latches.short
              || decide ((t.district e).state = .short ∧ (s.district e).state ≠ .short))
          ∧ (t.district e).latches.tripped = (s.district e).latches.tripped
          ∧ (t.district e).latches.governorSilent = (s.district e).latches.governorSilent
          ∧ (t.district e).latches.telltaleLow = (s.district e).latches.telltaleLow
          ∧ (t.district e).required = (s.district e).required ∧ (t.district e).setPoint = (s.district e).setPoint
          ∧ (t.district e).loading = (s.district e).loading ∧ (t.district e).root = (s.district e).root)
        ∧ t.yard = s.yard ∧ t.balance = s.balance ∧ t.bke = s.bke ∧ t.rst = s.rst ∧ t.rex = s.rex
        ∧ ((∀ e, m ≠ .joinNotice n e) → m ≠ .leaveNotice n → t.holders = s.holders ∧ t.line = s.line))
    ∧ (∀ tm, (s.holder n.holder).changeOver = some ⟨.drawing d, [.openOutlet, .join d], 1, true, tm⟩ →
      (s.holder n.holder).active = none → ∃ t, exec (.joinNotice n d) s = .next t
        ∧ t.holder n.holder = { s.holder n.holder with changeOver := none, state := .drawing }
        ∧ ∀ h, h ≠ n.holder → t.holder h = s.holder h)
    ∧ (∀ tm, (s.holder n.holder).changeOver = some ⟨.standing, [.leave, .closeOutlet], 0, true, tm⟩ → s.yard.mode = .working →
      ∃ t, exec (.leaveNotice n) s = .next t
        ∧ t.holder n.holder = { s.holder n.holder with
            outletIntent := .closed
            changeOver := some ⟨.standing, [.leave, .closeOutlet], 1, true, some (s.holder n.holder).travel⟩ }
        ∧ ∀ h, h ≠ n.holder → t.holder h = s.holder h)

/-- Good replies of the stations (04 R69, R71, R73, R83, 01 R3): a governor's echo of the loading in flight acknowledges it,
one that differs from the loading in force in service has it placed again, and a trip takes the district from service; at a
district OUT or TRIPPED with nothing in flight neither echo nor trip is judged; a tell-tale below its minimum raises the compensation and marks the district low, one above its band lowers it; a barometer
value is held as received. A district takes a reply also of a station it has released since (log entry 42). That an echo of no
loading differs from the loading in force is log entry 25. -/
def Obligations.StationRepliesAreTaken : Prop :=
  ∀ (s : State) (d : DistrictId) (g : GovernorReading) (p v : Nat), s.running = true →
    (∀ l, (s.district d).inFlight = some l → g.trip = false ∨ (s.district d).state.inService = false →
      (g.echo = some l → exec (.governorReply d g) s = .next (((s.taken (.governorReply d g)).modDistrict d fun r =>
        { r with acked := some l, inFlight := none }).setLoadingCommand d none))
      ∧ (g.echo ≠ some l → exec (.governorReply d g) s = .next (s.taken (.governorReply d g))))
    ∧ ((s.district d).inFlight = none → (s.district d).state.inService = true → g.trip = false →
      (g.echo = some (s.district d).loading → exec (.governorReply d g) s = .next (s.taken (.governorReply d g)))
      ∧ (g.echo ≠ some (s.district d).loading → exec (.governorReply d g) s
        = .next (((s.taken (.governorReply d g)).modDistrict d fun r => { r with inFlight := some r.loading }).setLoadingCommand d
            (some (s.district d).loading))))
    ∧ (∀ l, (s.district d).inFlight = some l → (s.district d).state.inService = true → g.trip = true →
      exec (.governorReply d g) s = .next (((s.taken (.governorReply d g)).modDistrict d fun r =>
        { r with state := .tripped, latches := { r.latches with tripped := true }, inFlight := none
                 acked := if g.echo = some l then some l else r.acked }).setLoadingCommand d none))
    ∧ ((s.district d).inFlight = none → (s.district d).state.inService = true → g.trip = true →
      g.echo = some (s.district d).loading →
      exec (.governorReply d g) s = .next (((s.taken (.governorReply d g)).modDistrict d fun r =>
        { r with state := .tripped, latches := { r.latches with tripped := true }, inFlight := none }).setLoadingCommand d none))
    ∧ ((s.district d).inFlight = none → (s.district d).state = .out ∨ (s.district d).state = .tripped →
      exec (.governorReply d g) s = .next (s.taken (.governorReply d g)))
    ∧ ((s.district d).state.inService = false → exec (.telltaleReply d p) s = .next (s.taken (.telltaleReply d p)))
    ∧ (∀ comp, (s.district d).state.inService = true →
      comp = (if p < (s.district d).ttMin then min ((s.district d).comp + (s.district d).ttStep) (s.district d).compMax
        else if p ≤ (s.district d).ttMin + (s.district d).ttBand then (s.district d).comp
        else (s.district d).comp - (s.district d).ttStep) →
      ∃ t, exec (.telltaleReply d p) s = .next t
        ∧ (t.district d).comp = comp ∧ (t.district d).ttLow = decide (p < (s.district d).ttMin)
        ∧ (t.district d).latches.telltaleLow
            = ((s.district d).latches.telltaleLow || (decide (p < (s.district d).ttMin) && !(s.district d).ttLow))
        ∧ (comp ≠ (s.district d).comp →
          (t.district d).loading = clampTo (s.district d).floor (s.district d).ceiling ((s.district d).setPoint + comp)
          ∧ (t.district d).required = (t.district d).loading + (s.district d).drop
          ∧ ((t.district d).loading ≠ (s.district d).loading → (t.district d).inFlight = some (t.district d).loading))
        ∧ (comp = (s.district d).comp → t.districts = (s.modDistrict d fun r => { r with
            ttLow := decide (p < r.ttMin)
            latches := { r.latches with telltaleLow := r.latches.telltaleLow || (decide (p < r.ttMin) && !r.ttLow) } }).districts)
        ∧ (∀ e, e ≠ d → (t.district e).comp = (s.district e).comp ∧ (t.district e).loading = (s.district e).loading)
        ∧ t.holders = s.holders ∧ t.yard = s.yard ∧ t.rst = s.rst ∧ t.bke = s.bke ∧ t.rex = s.rex ∧ t.balance = s.balance)
    ∧ exec (.barometerReply v) s
        = .next { s.taken (.barometerReply v) with yard := { s.yard with barometer := v, barometerTaken := true } }

/-! ### Booking -/

/-- A meter reply (06 R112, R113, R115, R116, R118, R119): it is taken only for a METER entry (log entry 7), and only for enabled
channels. The first count is the channel's base; a count equal to the base books nothing; a channel already queued has its
entry brought up to date in its place; another joins the queue behind the rest, or waits where it is full; an idle engine takes
it in hand at once, and resolves it by a route, by the cache or by a walk, but for one above its limit, which goes to commit,
and one with no pulses, which ends at once. Four channels join in the order of their numbers. -/
def Obligations.MeterRepliesQueueBookings : Prop :=
  ∀ (s : State) (a : Nat) (r : MeterReading) (e : PollEntry) (c : Channel) (k : Fin 4) (w : State), s.running = true →
    (s.line.entry a = none → exec (.meterReply a r) s = .next (s.taken (.meterReply a r)))
    ∧ (s.line.entry a = some e → e.kind ≠ .meter → exec (.meterReply a r) s = .next (s.taken (.meterReply a r)))
    ∧ (s.line.entry a = some e → e.kind = .meter → c = e.channels[k] → (∀ j : Fin 4, j ≠ k → (e.channels[j]).enabled = false) →
      w = (s.taken (.meterReply a r)).modChannel a k (fun x => { x with latest := some r.counts[k], waiting := false }) →
      (c.enabled = false → exec (.meterReply a r) s = .next (s.taken (.meterReply a r)))
      ∧ (c.enabled = true → c.baseTaken = false → exec (.meterReply a r) s
        = .next ((s.taken (.meterReply a r)).modChannel a k fun x =>
            { x with latest := some r.counts[k], base := r.counts[k], baseTaken := true }))
      ∧ (c.enabled = true → c.baseTaken = true → (∀ q ∈ s.bke.queue, ¬ (q.address = a ∧ q.channel = k)) →
        (r.counts[k] = c.base → exec (.meterReply a r) s
          = .next ((s.taken (.meterReply a r)).modChannel a k fun x => { x with latest := some r.counts[k] }))
        ∧ (r.counts[k] ≠ c.base → 16 ≤ s.bke.queue.length → exec (.meterReply a r) s
          = .next ((s.taken (.meterReply a r)).modChannel a k fun x => { x with latest := some r.counts[k], waiting := true }))
        ∧ (r.counts[k] ≠ c.base → s.bke.queue.length < 16 → s.bke.inHand.isSome = true → exec (.meterReply a r) s
          = .next { w with bke := { s.bke with queue := s.bke.queue ++ [⟨a, k, r.counts[k], r.pressure, r.temp⟩] } })
        ∧ (∀ n, r.counts[k] ≠ c.base → s.bke.queue = [] → s.bke.inHand = none → StoreIdle s →
          n = (r.counts[k] % 65536 + 65536 - c.base % 65536) % 65536 →
          (n = 0 → exec (.meterReply a r) s = .next w)
          ∧ (c.limit < n → exec (.meterReply a r) s = .next { w with
              bke := { s.bke with inHand := some ⟨a, k, r.counts[k], r.pressure, r.temp, c.point, c.constant, c.limit, n,
                .committing none false⟩ }
              rst := { s.rst with arbiter := { s.rst.arbiter with
                serving := some ⟨.bke, s.yard.period, s.yard.barometer, s.yard.declaredCv, false⟩
                count := bump s.yard.bookingShare s.rst.arbiter.count } } })
          ∧ (1 ≤ n → n ≤ c.limit → exec (.meterReply a r) s = .next (resolvedTo w
              ⟨a, k, r.counts[k], r.pressure, r.temp, c.point, c.constant, c.limit, n, .committing none false⟩))))
      ∧ (∀ before q behind, c.enabled = true → c.baseTaken = true → s.bke.queue = before ++ q :: behind → q.address = a →
        q.channel = k → (∀ x ∈ before ++ behind, ¬ (x.address = a ∧ x.channel = k)) → exec (.meterReply a r) s
        = .next { ((s.taken (.meterReply a r)).modChannel a k fun x => { x with latest := some r.counts[k] }) with
            bke := { s.bke with
              queue := before ++ { q with target := r.counts[k], pressure := r.pressure, temp := r.temp } :: behind } }))
    ∧ (s.line.entry a = some e → e.kind = .meter → s.bke.inHand.isSome = true → s.bke.queue.length ≤ 12 →
      (∀ q ∈ s.bke.queue, q.address ≠ a) →
      (∀ j : Fin 4, (e.channels[j]).enabled = true ∧ (e.channels[j]).baseTaken = true ∧ r.counts[j] ≠ (e.channels[j]).base) →
      exec (.meterReply a r) s = .next { ([0, 1, 2, 3] : List (Fin 4)).foldl (fun t j => t.modChannel a j fun x =>
          { x with latest := some r.counts[j], waiting := false }) (s.taken (.meterReply a r)) with
        bke := { s.bke with queue := s.bke.queue
          ++ ([0, 1, 2, 3] : List (Fin 4)).map fun j => ⟨a, j, r.counts[j], r.pressure, r.temp⟩ } })

/-- The walk of the directory (05 R94 to R98, 06 R119, R120): a read of a main table goes on to its point table, setting USED
first where it was clear; a read of a point table ends at an ACCOUNT leaf, whose resolution is cached, and the booking goes to
COMMITTING; an INVALID descriptor and a damaged main table are NO-ROUTE outcomes. BARRED adds up on the way. The flag access
that ends a booking's cycle sets BOOKED on the leaf it walked to, where the leaf is still as it was and its table is not
damaged (05 R92, 06 R127); that mark stands before a BOOKED pass that has yet to clear the leaf (07 R148, log entry 36). On
the path of an INDIRECT leaf's target an INVALID descriptor or a second INDIRECT leaf is BAD-INDIRECT, and the latter is not
passed, so that its USED is not set (log entry 41), and an ACCOUNT leaf is cached for the walked point and marked on the
INDIRECT leaf (05 R95, R98). A flag access, on the point's own path and on its target's, sets USED where the descriptor still
names what it named, and changes nothing where it does not or its table is damaged; the walk goes on as it was read (05 R92,
R96, R97). A read or flag access that finds its table damaged itself ends the walk NO-ROUTE, not stale by it (05 R97, 08
R158). A walk that has become stale is worked again whatever its outcome (06 R122). -/
def Obligations.WalksGoDownTheDirectory : Prop :=
  (∀ (s : State) (g : Grant) (h : InHand) (w : Walk) (t next : Nat), Serves s g .bke → s.bke.inHand = some h →
    h.phase = .resolving w → w.stale = false → w.target = none → w.own = none → w.point ≤ 4095 →
    (w.level = .mainRead t → Clean s (mainSlot t) →
      ((s.rst.desc t (mainIndex w.point)).table = some next → (s.rst.desc t (mainIndex w.point)).used = true →
        exec (.walkTableRead []) s = .next (bookingContinues s h (.resolving { w with
          level := .pointRead next, barred := w.barred || (s.rst.desc t (mainIndex w.point)).barred })))
      ∧ ((s.rst.desc t (mainIndex w.point)).table = some next → (s.rst.desc t (mainIndex w.point)).used = false →
        exec (.walkTableRead []) s = .next (bookingContinues s h (.resolving { w with
          level := .mainFlag t next, barred := w.barred || (s.rst.desc t (mainIndex w.point)).barred })))
      ∧ ((s.rst.desc t (mainIndex w.point)).table = none →
        exec (.walkTableRead []) s
          = .next (bookingContinues s h (.committing (some (.noRoute .invalidMain)) false))))
    ∧ (w.level = .mainRead t → s.rst.isDamaged (mainSlot t) = true →
      exec (.walkTableRead []) s = .next (bookingContinues s h (.committing (some (.noRoute .damaged)) false)))
    ∧ (w.level = .mainFlag t next → Clean s (mainSlot t) → (s.rst.desc t (mainIndex w.point)).table = some next →
      exec (.walkFlagAccess []) s = .next (bookingContinues
        { s with rst := s.rst.putDesc t (mainIndex w.point) { s.rst.desc t (mainIndex w.point) with used := true } } h
        (.resolving { w with level := .pointRead next })))
    ∧ (w.level = .pointRead t → Clean s (pointSlot t) →
      (∀ l, l = s.rst.leaf t (pointIndex w.point) →
        (∀ slot, l.kind = .account slot → l.used = true → exec (.walkTableRead []) s = .next (bookingContinues
            { s with bke := { s.bke with cache := ⟨w.point, slot, w.barred || l.barred, l.global⟩
                :: (s.bke.cache.filter fun e => decide (e.point ≠ w.point)).take 15 } } h
            (.committing (some (.account slot (w.barred || l.barred) l.global
              (.walk ⟨t, pointIndex w.point, .account slot⟩))) false)))
        ∧ (∀ slot, l.kind = .account slot → l.used = false → exec (.walkTableRead []) s = .next (bookingContinues s h
            (.resolving { w with level := .leafFlag t l, barred := w.barred || l.barred })))
        ∧ (∀ p u, l.kind = .indirect p → l.used = true → p ≤ 4095 →
          (s.district (pointDistrict p)).root.table = some u → exec (.walkTableRead []) s = .next (bookingContinues
            (s.modDistrict (pointDistrict p) fun r => { r with root := { r.root with used := true } }) h
            (.resolving { w with
              level := .mainRead u, target := some p, own := some ⟨t, pointIndex w.point, .indirect p⟩
              barred := w.barred || l.barred || (s.district (pointDistrict p)).root.barred })))
        ∧ (∀ p, l.kind = .indirect p → l.used = true → p ≤ 4095 → (s.district (pointDistrict p)).root.table = none →
          exec (.walkTableRead []) s = .next (bookingContinues s h (.committing (some (.noRoute .badIndirect)) false)))
        ∧ (∀ p, l.kind = .indirect p → l.used = false → exec (.walkTableRead []) s = .next (bookingContinues s h
            (.resolving { w with level := .leafFlag t l, barred := w.barred || l.barred })))
        ∧ (l.kind = .invalid → exec (.walkTableRead []) s
            = .next (bookingContinues s h (.committing (some (.noRoute .invalidLeaf)) false)))))
    ∧ (∀ slot l, w.level = .leafFlag t l → Clean s (pointSlot t) → (s.rst.leaf t (pointIndex w.point)).kind = .account slot →
      l.kind = .account slot → exec (.walkFlagAccess []) s = .next (bookingContinues
        { s with
          rst := s.rst.putLeaf t (pointIndex w.point) { s.rst.leaf t (pointIndex w.point) with used := true }
          bke := { s.bke with cache := ⟨w.point, slot, w.barred, l.global⟩
            :: (s.bke.cache.filter fun e => decide (e.point ≠ w.point)).take 15 } } h
        (.committing (some (.account slot w.barred l.global (.walk ⟨t, pointIndex w.point, .account slot⟩))) false))))
  ∧ (∀ (s : State) (g : Grant) (h : InHand) (w : Walk) (t p : Nat) (own : LeafRef), Serves s g .bke → s.bke.inHand = some h →
    h.phase = .resolving w → w.stale = false → w.target = some p → w.own = some own → p ≤ 4095 →
    (w.level = .mainRead t → Clean s (mainSlot t) → (s.rst.desc t (mainIndex p)).table = none →
      exec (.walkTableRead []) s = .next (bookingContinues s h (.committing (some (.noRoute .badIndirect)) false)))
    ∧ (∀ u, w.level = .mainRead t → Clean s (mainSlot t) → (s.rst.desc t (mainIndex p)).table = some u →
      exec (.walkTableRead []) s = .next (bookingContinues s h (.resolving { w with
        level := if (s.rst.desc t (mainIndex p)).used = true then .pointRead u else .mainFlag t u
        barred := w.barred || (s.rst.desc t (mainIndex p)).barred })))
    ∧ (w.level = .mainRead t → s.rst.isDamaged (mainSlot t) = true →
      exec (.walkTableRead []) s = .next (bookingContinues s h (.committing (some (.noRoute .damaged)) false)))
    ∧ (w.level = .pointRead t → s.rst.isDamaged (pointSlot t) = true →
      exec (.walkTableRead []) s = .next (bookingContinues s h (.committing (some (.noRoute .damaged)) false)))
    ∧ (w.level = .pointRead t → Clean s (pointSlot t) → (∀ slot, (s.rst.leaf t (pointIndex p)).kind ≠ .account slot) →
      exec (.walkTableRead []) s = .next (bookingContinues s h (.committing (some (.noRoute .badIndirect)) false)))
    ∧ (∀ slot l, w.level = .pointRead t → Clean s (pointSlot t) → l = s.rst.leaf t (pointIndex p) → l.kind = .account slot →
      (l.used = true → exec (.walkTableRead []) s = .next (bookingContinues
        { s with bke := { s.bke with cache := ⟨w.point, slot, w.barred || l.barred, l.global⟩
            :: (s.bke.cache.filter fun e => decide (e.point ≠ w.point)).take 15 } } h
        (.committing (some (.account slot (w.barred || l.barred) l.global (.walk own))) false)))
      ∧ (l.used = false → exec (.walkTableRead []) s = .next (bookingContinues s h
        (.resolving { w with level := .leafFlag t l, barred := w.barred || l.barred })))))
  ∧ (∀ (s x : State) (g : Grant) (h : InHand) (w : Walk) (t here : Nat), Serves s g .bke → s.bke.inHand = some h →
    h.phase = .resolving w → w.stale = false → here = w.target.getD w.point →
    (∀ next, w.level = .mainFlag t next →
      ((∃ y, ReadsAs s (mainSlot t) y ∧ (s.rst.desc t (mainIndex here)).table = some next
          ∧ x = { y with rst := y.rst.putDesc t (mainIndex here) { s.rst.desc t (mainIndex here) with used := true } })
        ∨ (ReadsAs s (mainSlot t) x ∧ (s.rst.desc t (mainIndex here)).table ≠ some next)
        ∨ (s.rst.isDamaged (mainSlot t) = true ∧ x = s)) →
      exec (.walkFlagAccess []) s = .next (bookingContinues x h (.resolving { w with level := .pointRead next })))
    ∧ (∀ l, w.level = .leafFlag t l →
      ((∃ y, ReadsAs s (pointSlot t) y ∧ (s.rst.leaf t (pointIndex here)).kind = l.kind
          ∧ x = { y with rst := y.rst.putLeaf t (pointIndex here) { s.rst.leaf t (pointIndex here) with used := true } })
        ∨ (ReadsAs s (pointSlot t) x ∧ (s.rst.leaf t (pointIndex here)).kind ≠ l.kind)
        ∨ (s.rst.isDamaged (pointSlot t) = true ∧ x = s)) →
      (∀ slot, l.kind = .account slot → exec (.walkFlagAccess []) s = .next (bookingContinues
        { x with bke := { s.bke with cache := ⟨w.point, slot, w.barred, l.global⟩
            :: (s.bke.cache.filter fun e => decide (e.point ≠ w.point)).take 15 } } h
        (.committing (some (.account slot w.barred l.global (.walk (w.own.getD ⟨t, pointIndex here, .account slot⟩)))) false)))
      ∧ (∀ p u, w.target = none → l.kind = .indirect p → (s.district (pointDistrict p)).root.table = some u →
        exec (.walkFlagAccess []) s = .next (bookingContinues
          (x.modDistrict (pointDistrict p) fun r => { r with root := { r.root with used := true } }) h
          (.resolving { w with
            level := .mainRead u, target := some p, own := some ⟨t, pointIndex w.point, .indirect p⟩
            barred := w.barred || (s.district (pointDistrict p)).root.barred })))
      ∧ (∀ p, w.target = none → l.kind = .indirect p → (s.district (pointDistrict p)).root.table = none →
        exec (.walkFlagAccess []) s = .next (bookingContinues x h (.committing (some (.noRoute .badIndirect)) false))))
    ∧ (x = slotDamaged s (mainSlot t) → Uncorrectable s (mainSlot t) →
      (w.level = .mainRead t → exec (.walkTableRead []) s
        = .next (bookingContinues x h (.committing (some (.noRoute .damaged)) false)))
      ∧ (∀ next, w.level = .mainFlag t next → exec (.walkFlagAccess []) s
        = .next (bookingContinues x h (.committing (some (.noRoute .damaged)) false))))
    ∧ (x = slotDamaged s (pointSlot t) → Uncorrectable s (pointSlot t) →
      (w.level = .pointRead t → exec (.walkTableRead []) s
        = .next (bookingContinues x h (.committing (some (.noRoute .damaged)) false)))
      ∧ (∀ l, w.level = .leafFlag t l → exec (.walkFlagAccess []) s
        = .next (bookingContinues x h (.committing (some (.noRoute .damaged)) false)))))
  ∧ (∀ (s : State) (g : Grant) (h : InHand) (w : Walk) (t : Nat), Serves s g .bke → s.bke.inHand = some h →
    h.phase = .resolving w → w.stale = true →
    (w.level = .mainRead t → (s.rst.isDamaged (mainSlot t) = true
        ∨ (Clean s (mainSlot t) ∧ (s.rst.desc t (mainIndex (w.target.getD w.point))).table = none)) →
      exec (.walkTableRead []) s = .next (resolvedTo s h))
    ∧ (w.level = .pointRead t → (s.rst.isDamaged (pointSlot t) = true
        ∨ (Clean s (pointSlot t) ∧ (s.rst.leaf t (pointIndex (w.target.getD w.point))).kind = .invalid)
        ∨ (Clean s (pointSlot t) ∧ (s.rst.leaf t (pointIndex (w.target.getD w.point))).used = true
          ∧ ∃ slot, (s.rst.leaf t (pointIndex (w.target.getD w.point))).kind = .account slot)) →
      exec (.walkTableRead []) s = .next (resolvedTo s h)))
  ∧ ∀ (s : State) (g : Grant) (h : InHand) (slot : Nat) (barred : Bool) (own : LeafRef) (told : Rex), Serves s g .bke →
    s.bke.inHand = some h → h.phase = .marking slot barred own → s.bke.queue = [] →
    told = { s.rex with work := match s.rex.work with
      | some (.closePass tables leaves m) => some (.closePass tables
          (leaves.map fun p => if p.own = own then { p with stands := true } else p) m)
      | w => w } →
    (Clean s (pointSlot own.table) → (s.rst.leaf own.table own.index).kind = own.kind →
      exec (.bookedFlagAccess []) s = .next { storeFree
        { s with rst := s.rst.putLeaf own.table own.index { s.rst.leaf own.table own.index with booked := true } } with
          bke := { s.bke with inHand := none }, rex := told })
    ∧ (s.rst.isDamaged (pointSlot own.table) = true ∨
        (Clean s (pointSlot own.table) ∧ (s.rst.leaf own.table own.index).kind ≠ own.kind) →
      exec (.bookedFlagAccess []) s = .next { storeFree s with bke := { s.bke with inHand := none }, rex := told })

/-- The commit (01 R7 to R12, 06 R122 to R127, 08 R156, R157): a booking in range of an OPEN account adds its volume and heat,
residues with them, counts it and moves the channel's base on; one barred, implausible or without a route, and one whose
account is CLOSED, DAMAGED or full, or FREE, which counts as CLOSED (log entry 24), or whose account's read meets a flaw that
cannot be corrected and so becomes DAMAGED, goes to suspense with its reason counted, and one that suspense cannot take, being
full or unreadable, leaves the base; an unreadable suspense account starts afresh. A committed booking that walked to a leaf
that is not global sets BOOKED there; else its cycle ends. A resolution that is stale at the grant is worked again, and nothing
is booked; one marked stale only after the grant is committed as it stood. -/
def Obligations.CommitsAddOrDivertBookings : Prop :=
  ∀ (s : State) (g : Grant) (h : InHand) (r : Option Resolution) (st : Bool) (dv : Nat), Serves s g .bke →
    s.bke.inHand = some h → h.phase = .committing r st → s.bke.queue = [] → storesSound s.rst = true →
    dv = h.pulses * h.constant * correction g.barometer h.pressure h.temp →
    (∀ x, r = some x → g.stale = true → exec (.commitAccess []) s = .next (resolvedTo s h))
    ∧ (∀ slot global origin a, g.stale = false → r = some (.account slot false global origin) → 1 ≤ slot → slot ≤ 255 →
      Readable s slot → a = (s.rst.account slot).rolled g.period → a.state = .opened →
      RoomFor a dv (a.cv.getD g.declaredCv) →
      ∃ t, exec (.commitAccess []) s = .next t
        ∧ t.rst.account slot
          = withBooking a (bookingClamped g.barometer h.pressure h.temp) dv (a.cv.getD g.declaredCv)
        ∧ (∀ k, k ≠ slot → t.rst.account k = s.rst.account k)
        ∧ (∀ c, s.channel h.address h.channel = some c → t.channel h.address h.channel = some { c with base := h.target })
        ∧ (∀ own, origin = .walk own → global = false →
          t.bke = { s.bke with inHand := some { h with phase := .marking slot false own } }
          ∧ t.rst.arbiter.serving = some ⟨.bke, s.yard.period, s.yard.barometer, s.yard.declaredCv, false⟩)
        ∧ ((global = true ∨ ∀ own, origin ≠ .walk own) →
          t.bke = { s.bke with inHand := none } ∧ t.rst.arbiter = { s.rst.arbiter with serving := none })
        ∧ t.yard = s.yard ∧ t.holders = s.holders ∧ t.districts = s.districts ∧ t.rex = s.rex ∧ t.inTransit = s.inTransit
        ∧ t.rst.mains = s.rst.mains ∧ t.rst.points = s.rst.points)
    ∧ (∀ (reason : Divert) (a : Account) (own : Nat → Account) (marks : Option Phase), g.stale = false →
      ((r = none ∧ reason = .implausible ∧ own = s.rst.account ∧ marks = none)
        ∨ (∃ why, r = some (.noRoute why) ∧ reason = (if why = .damaged then .damaged else .noRoute) ∧ own = s.rst.account
          ∧ marks = none)
        ∨ (∃ slot barred global origin, r = some (.account slot barred global origin)
          ∧ marks = (match origin with
            | .walk leaf => if global then none else some (.marking slot barred leaf)
            | _ => none)
          ∧ ((barred = true ∧ reason = .barred ∧ own = s.rst.account)
            ∨ (barred = false ∧ 1 ≤ slot ∧ (s.rst.isDamaged slot = true ∨ (Uncorrectable s slot ∧ slot ≤ 255)) ∧ reason = .damaged
              ∧ own = s.rst.account)
            ∨ (barred = false ∧ 1 ≤ slot ∧ Readable s slot ∧ (s.rst.account slot).state ≠ .opened ∧ reason = .closed
              ∧ own = fun k => if k = slot then (s.rst.account slot).rolled g.period else s.rst.account k)
            ∨ (barred = false ∧ 1 ≤ slot ∧ Readable s slot ∧ (s.rst.account slot).state = .opened ∧ reason = .full
              ∧ ¬ RoomFor ((s.rst.account slot).rolled g.period) dv ((s.rst.account slot).cv.getD g.declaredCv)
              ∧ own = fun k => if k = slot then { (s.rst.account slot).rolled g.period with limitReached := true }
                  else s.rst.account k)))) →
      a = (s.rst.account 0).rolled g.period →
      (Readable s 0 → RoomFor a dv g.declaredCv →
        ∃ t, exec (.commitAccess []) s = .next t
          ∧ t.rst.account 0 = { withBooking a (bookingClamped g.barometer h.pressure h.temp) dv g.declaredCv with
              diverts := a.diverts.raise reason }
          ∧ (∀ k, k ≠ 0 → t.rst.account k = own k)
          ∧ (∀ c, s.channel h.address h.channel = some c → t.channel h.address h.channel = some { c with base := h.target })
          ∧ t.bke.inHand = marks.map (fun p => { h with phase := p })
          ∧ (marks = none → t.rst.arbiter = { s.rst.arbiter with serving := none })
          ∧ (marks ≠ none →
            t.rst.arbiter.serving = some ⟨.bke, s.yard.period, s.yard.barometer, s.yard.declaredCv, false⟩)
          ∧ (reason = .implausible → t.bke.implausible = some ⟨h.address, h.channel, h.pulses⟩ ∧ t.bke.diverted = s.bke.diverted)
          ∧ (reason ≠ .implausible → t.bke.implausible = s.bke.implausible ∧ t.bke.diverted = some
              ⟨addNew ((s.bke.diverted.map (·.reasons)).getD []) reason, h.address, h.channel, h.point⟩)
          ∧ (∀ slot global origin, r = some (.account slot false global origin) → Uncorrectable s slot → 1 ≤ slot →
            t.rst.isDamaged slot = true))
      ∧ (∀ (suspense : Account) (why : Divert),
        ((Readable s 0 ∧ ¬ RoomFor a dv g.declaredCv ∧ suspense = { a with limitReached := true } ∧ why = .full)
          ∨ (Uncorrectable s 0 ∧ suspense = Account.suspense g.period ∧ why = .damaged)) →
        ∃ t, exec (.commitAccess []) s = .next t
          ∧ t.rst.account 0 = suspense
          ∧ (∀ k, k ≠ 0 → t.rst.account k = own k)
          ∧ (∀ c, s.channel h.address h.channel = some c → t.channel h.address h.channel = some { c with waiting := true })
          ∧ t.bke.inHand = none ∧ t.rst.arbiter = { s.rst.arbiter with serving := none }
          ∧ t.bke.diverted = some
              ⟨addNew ((s.bke.diverted.map (·.reasons)).getD []) why, h.address, h.channel, h.point⟩))

/-! ### Arithmetic -/

/-- Gauge pressure converted to mercury, rounded half up, and the absolute pressure and temperature it gives, with their
clamps (01 R1, R4, R5); the correction factor worked from them, rounded half up, lies in 50,919 to 94,010 (01 R6); and the
values a holder's record takes from its height: the geometric volume of its lifts, the stage and its pressure, the stock at
that pressure and the holder's temperature, and the mark that a clamp acted (01 R15 to R18). -/
def Obligations.PressuresAndFactorLieInTheirRanges : Prop :=
  (∀ gauge : Nat,
    gaugeToMercury (clampGauge gauge) = (clampGauge gauge * 50 + 34) / 68
    ∧ (2 * gaugeToMercury (clampGauge gauge)) * 34 ≤ 2 * (clampGauge gauge * 25) + 34
    ∧ 2 * (clampGauge gauge * 25) + 34 < (2 * gaugeToMercury (clampGauge gauge) + 2) * 34
    ∧ gaugeToMercury (clampGauge gauge) ≤ 441)
  ∧ gaugeToMercury 0 = 0 ∧ gaugeToMercury 45 = 33 ∧ gaugeToMercury 60 = 44 ∧ gaugeToMercury 75 = 55 ∧ gaugeToMercury 600 = 441
  ∧ (∀ (barometer gauge : Nat) (temp : Int), ∃ pa tr : Nat,
    pa = clampBarometer barometer + gaugeToMercury (clampGauge gauge) ∧ 2600 ≤ pa ∧ pa ≤ 3641
    ∧ (tr : Int) = clampTemp temp + 4597 ∧ 4397 ≤ tr ∧ tr ≤ 5797
    ∧ correction barometer gauge temp = (2 * pa * 5197 * 65536 + 3000 * tr) / (2 * 3000 * tr)
    ∧ 50919 ≤ correction barometer gauge temp ∧ correction barometer gauge temp ≤ 94010)
  ∧ correction 2600 0 1200 = 50919 ∧ correction 3000 0 600 = 65536 ∧ correction 3200 600 (-200) = 94010
  ∧ correction 9999 9999 (-9999) = 94010
  ∧ (∀ (r : Holder) (barometer height below stage pressure : Nat) (base : Nat → Nat),
    (∀ i, base i = ((r.lifts.take i).map (·.stroke)).sum) → height = min r.height (base r.lifts.length) →
    stage = ((List.range r.lifts.length).filter fun i => decide (base i < height)).length →
    pressure = (if stage = 0 then 0 else ((r.lifts.map (·.pressure))[stage - 1]?).getD 0) →
    below = ((List.range r.lifts.length).map fun i => ((r.lifts.map (·.area))[i]?).getD 0
      * (min height (base (i + 1)) - base i)).sum →
    r.recompute barometer = { r with
      gv := r.landed + below / 100
      stage := stage
      stagePressure := pressure
      stock := ((r.landed + below / 100) * correction barometer pressure r.temp + 32768) / 65536
      stockClamped := decide (barometer < 2600 ∨ 3200 < barometer ∨ r.temp < -200 ∨ 1200 < r.temp ∨ height < r.height) })
end

