-- ==== Sys2Proof/Laws/State.lean ====
section
/-! SUPPORT. One lemma per field per update of the state, and the records read back. -/

namespace Sys2Proof.Machine

/-! ### modYard -/

@[simp] theorem State.modYard_yard (s : State) (f : Yard → Yard) : (s.modYard f).yard = f s.yard := rfl
@[simp] theorem State.modYard_balance (s : State) (f : Yard → Yard) : (s.modYard f).balance = s.balance := rfl
@[simp] theorem State.modYard_holders (s : State) (f : Yard → Yard) : (s.modYard f).holders = s.holders := rfl
@[simp] theorem State.modYard_districts (s : State) (f : Yard → Yard) : (s.modYard f).districts = s.districts := rfl
@[simp] theorem State.modYard_views (s : State) (f : Yard → Yard) : (s.modYard f).views = s.views := rfl
@[simp] theorem State.modYard_occasions (s : State) (f : Yard → Yard) : (s.modYard f).occasions = s.occasions := rfl
@[simp] theorem State.modYard_attempt (s : State) (f : Yard → Yard) : (s.modYard f).attempt = s.attempt := rfl
@[simp] theorem State.modYard_line (s : State) (f : Yard → Yard) : (s.modYard f).line = s.line := rfl
@[simp] theorem State.modYard_bke (s : State) (f : Yard → Yard) : (s.modYard f).bke = s.bke := rfl
@[simp] theorem State.modYard_rst (s : State) (f : Yard → Yard) : (s.modYard f).rst = s.rst := rfl
@[simp] theorem State.modYard_rex (s : State) (f : Yard → Yard) : (s.modYard f).rex = s.rex := rfl
@[simp] theorem State.modYard_inTransit (s : State) (f : Yard → Yard) : (s.modYard f).inTransit = s.inTransit := rfl
@[simp] theorem State.modYard_running (s : State) (f : Yard → Yard) : (s.modYard f).running = s.running := rfl
@[simp] theorem State.modYard_pending (s : State) (f : Yard → Yard) : (s.modYard f).pending = s.pending := rfl

/-! ### modBalance -/

@[simp] theorem State.modBalance_yard (s : State) (f : Balance → Balance) : (s.modBalance f).yard = s.yard := rfl
@[simp] theorem State.modBalance_balance (s : State) (f : Balance → Balance) : (s.modBalance f).balance = f s.balance := rfl
@[simp] theorem State.modBalance_holders (s : State) (f : Balance → Balance) : (s.modBalance f).holders = s.holders := rfl
@[simp] theorem State.modBalance_districts (s : State) (f : Balance → Balance) : (s.modBalance f).districts = s.districts := rfl
@[simp] theorem State.modBalance_views (s : State) (f : Balance → Balance) : (s.modBalance f).views = s.views := rfl
@[simp] theorem State.modBalance_occasions (s : State) (f : Balance → Balance) : (s.modBalance f).occasions = s.occasions := rfl
@[simp] theorem State.modBalance_attempt (s : State) (f : Balance → Balance) : (s.modBalance f).attempt = s.attempt := rfl
@[simp] theorem State.modBalance_line (s : State) (f : Balance → Balance) : (s.modBalance f).line = s.line := rfl
@[simp] theorem State.modBalance_bke (s : State) (f : Balance → Balance) : (s.modBalance f).bke = s.bke := rfl
@[simp] theorem State.modBalance_rst (s : State) (f : Balance → Balance) : (s.modBalance f).rst = s.rst := rfl
@[simp] theorem State.modBalance_rex (s : State) (f : Balance → Balance) : (s.modBalance f).rex = s.rex := rfl
@[simp] theorem State.modBalance_inTransit (s : State) (f : Balance → Balance) : (s.modBalance f).inTransit = s.inTransit := rfl
@[simp] theorem State.modBalance_running (s : State) (f : Balance → Balance) : (s.modBalance f).running = s.running := rfl
@[simp] theorem State.modBalance_pending (s : State) (f : Balance → Balance) : (s.modBalance f).pending = s.pending := rfl

/-! ### modLine -/

@[simp] theorem State.modLine_yard (s : State) (f : Line → Line) : (s.modLine f).yard = s.yard := rfl
@[simp] theorem State.modLine_balance (s : State) (f : Line → Line) : (s.modLine f).balance = s.balance := rfl
@[simp] theorem State.modLine_holders (s : State) (f : Line → Line) : (s.modLine f).holders = s.holders := rfl
@[simp] theorem State.modLine_districts (s : State) (f : Line → Line) : (s.modLine f).districts = s.districts := rfl
@[simp] theorem State.modLine_views (s : State) (f : Line → Line) : (s.modLine f).views = s.views := rfl
@[simp] theorem State.modLine_occasions (s : State) (f : Line → Line) : (s.modLine f).occasions = s.occasions := rfl
@[simp] theorem State.modLine_attempt (s : State) (f : Line → Line) : (s.modLine f).attempt = s.attempt := rfl
@[simp] theorem State.modLine_line (s : State) (f : Line → Line) : (s.modLine f).line = f s.line := rfl
@[simp] theorem State.modLine_bke (s : State) (f : Line → Line) : (s.modLine f).bke = s.bke := rfl
@[simp] theorem State.modLine_rst (s : State) (f : Line → Line) : (s.modLine f).rst = s.rst := rfl
@[simp] theorem State.modLine_rex (s : State) (f : Line → Line) : (s.modLine f).rex = s.rex := rfl
@[simp] theorem State.modLine_inTransit (s : State) (f : Line → Line) : (s.modLine f).inTransit = s.inTransit := rfl
@[simp] theorem State.modLine_running (s : State) (f : Line → Line) : (s.modLine f).running = s.running := rfl
@[simp] theorem State.modLine_pending (s : State) (f : Line → Line) : (s.modLine f).pending = s.pending := rfl

/-! ### modBke -/

@[simp] theorem State.modBke_yard (s : State) (f : Bke → Bke) : (s.modBke f).yard = s.yard := rfl
@[simp] theorem State.modBke_balance (s : State) (f : Bke → Bke) : (s.modBke f).balance = s.balance := rfl
@[simp] theorem State.modBke_holders (s : State) (f : Bke → Bke) : (s.modBke f).holders = s.holders := rfl
@[simp] theorem State.modBke_districts (s : State) (f : Bke → Bke) : (s.modBke f).districts = s.districts := rfl
@[simp] theorem State.modBke_views (s : State) (f : Bke → Bke) : (s.modBke f).views = s.views := rfl
@[simp] theorem State.modBke_occasions (s : State) (f : Bke → Bke) : (s.modBke f).occasions = s.occasions := rfl
@[simp] theorem State.modBke_attempt (s : State) (f : Bke → Bke) : (s.modBke f).attempt = s.attempt := rfl
@[simp] theorem State.modBke_line (s : State) (f : Bke → Bke) : (s.modBke f).line = s.line := rfl
@[simp] theorem State.modBke_bke (s : State) (f : Bke → Bke) : (s.modBke f).bke = f s.bke := rfl
@[simp] theorem State.modBke_rst (s : State) (f : Bke → Bke) : (s.modBke f).rst = s.rst := rfl
@[simp] theorem State.modBke_rex (s : State) (f : Bke → Bke) : (s.modBke f).rex = s.rex := rfl
@[simp] theorem State.modBke_inTransit (s : State) (f : Bke → Bke) : (s.modBke f).inTransit = s.inTransit := rfl
@[simp] theorem State.modBke_running (s : State) (f : Bke → Bke) : (s.modBke f).running = s.running := rfl
@[simp] theorem State.modBke_pending (s : State) (f : Bke → Bke) : (s.modBke f).pending = s.pending := rfl

/-! ### modRst -/

@[simp] theorem State.modRst_yard (s : State) (f : Rst → Rst) : (s.modRst f).yard = s.yard := rfl
@[simp] theorem State.modRst_balance (s : State) (f : Rst → Rst) : (s.modRst f).balance = s.balance := rfl
@[simp] theorem State.modRst_holders (s : State) (f : Rst → Rst) : (s.modRst f).holders = s.holders := rfl
@[simp] theorem State.modRst_districts (s : State) (f : Rst → Rst) : (s.modRst f).districts = s.districts := rfl
@[simp] theorem State.modRst_views (s : State) (f : Rst → Rst) : (s.modRst f).views = s.views := rfl
@[simp] theorem State.modRst_occasions (s : State) (f : Rst → Rst) : (s.modRst f).occasions = s.occasions := rfl
@[simp] theorem State.modRst_attempt (s : State) (f : Rst → Rst) : (s.modRst f).attempt = s.attempt := rfl
@[simp] theorem State.modRst_line (s : State) (f : Rst → Rst) : (s.modRst f).line = s.line := rfl
@[simp] theorem State.modRst_bke (s : State) (f : Rst → Rst) : (s.modRst f).bke = s.bke := rfl
@[simp] theorem State.modRst_rst (s : State) (f : Rst → Rst) : (s.modRst f).rst = f s.rst := rfl
@[simp] theorem State.modRst_rex (s : State) (f : Rst → Rst) : (s.modRst f).rex = s.rex := rfl
@[simp] theorem State.modRst_inTransit (s : State) (f : Rst → Rst) : (s.modRst f).inTransit = s.inTransit := rfl
@[simp] theorem State.modRst_running (s : State) (f : Rst → Rst) : (s.modRst f).running = s.running := rfl
@[simp] theorem State.modRst_pending (s : State) (f : Rst → Rst) : (s.modRst f).pending = s.pending := rfl

/-! ### modRex -/

@[simp] theorem State.modRex_yard (s : State) (f : Rex → Rex) : (s.modRex f).yard = s.yard := rfl
@[simp] theorem State.modRex_balance (s : State) (f : Rex → Rex) : (s.modRex f).balance = s.balance := rfl
@[simp] theorem State.modRex_holders (s : State) (f : Rex → Rex) : (s.modRex f).holders = s.holders := rfl
@[simp] theorem State.modRex_districts (s : State) (f : Rex → Rex) : (s.modRex f).districts = s.districts := rfl
@[simp] theorem State.modRex_views (s : State) (f : Rex → Rex) : (s.modRex f).views = s.views := rfl
@[simp] theorem State.modRex_occasions (s : State) (f : Rex → Rex) : (s.modRex f).occasions = s.occasions := rfl
@[simp] theorem State.modRex_attempt (s : State) (f : Rex → Rex) : (s.modRex f).attempt = s.attempt := rfl
@[simp] theorem State.modRex_line (s : State) (f : Rex → Rex) : (s.modRex f).line = s.line := rfl
@[simp] theorem State.modRex_bke (s : State) (f : Rex → Rex) : (s.modRex f).bke = s.bke := rfl
@[simp] theorem State.modRex_rst (s : State) (f : Rex → Rex) : (s.modRex f).rst = s.rst := rfl
@[simp] theorem State.modRex_rex (s : State) (f : Rex → Rex) : (s.modRex f).rex = f s.rex := rfl
@[simp] theorem State.modRex_inTransit (s : State) (f : Rex → Rex) : (s.modRex f).inTransit = s.inTransit := rfl
@[simp] theorem State.modRex_running (s : State) (f : Rex → Rex) : (s.modRex f).running = s.running := rfl
@[simp] theorem State.modRex_pending (s : State) (f : Rex → Rex) : (s.modRex f).pending = s.pending := rfl

/-! ### setHolder -/

@[simp] theorem State.setHolder_yard (s : State) (h : HolderId) (r : Holder) : (s.setHolder h r).yard = s.yard := rfl
@[simp] theorem State.setHolder_balance (s : State) (h : HolderId) (r : Holder) : (s.setHolder h r).balance = s.balance := rfl
@[simp] theorem State.setHolder_holders (s : State) (h : HolderId) (r : Holder) : (s.setHolder h r).holders = s.holders.set h r := rfl
@[simp] theorem State.setHolder_districts (s : State) (h : HolderId) (r : Holder) : (s.setHolder h r).districts = s.districts := rfl
@[simp] theorem State.setHolder_views (s : State) (h : HolderId) (r : Holder) : (s.setHolder h r).views = s.views := rfl
@[simp] theorem State.setHolder_occasions (s : State) (h : HolderId) (r : Holder) : (s.setHolder h r).occasions = s.occasions := rfl
@[simp] theorem State.setHolder_attempt (s : State) (h : HolderId) (r : Holder) : (s.setHolder h r).attempt = s.attempt := rfl
@[simp] theorem State.setHolder_line (s : State) (h : HolderId) (r : Holder) : (s.setHolder h r).line = s.line := rfl
@[simp] theorem State.setHolder_bke (s : State) (h : HolderId) (r : Holder) : (s.setHolder h r).bke = s.bke := rfl
@[simp] theorem State.setHolder_rst (s : State) (h : HolderId) (r : Holder) : (s.setHolder h r).rst = s.rst := rfl
@[simp] theorem State.setHolder_rex (s : State) (h : HolderId) (r : Holder) : (s.setHolder h r).rex = s.rex := rfl
@[simp] theorem State.setHolder_inTransit (s : State) (h : HolderId) (r : Holder) : (s.setHolder h r).inTransit = s.inTransit := rfl
@[simp] theorem State.setHolder_running (s : State) (h : HolderId) (r : Holder) : (s.setHolder h r).running = s.running := rfl
@[simp] theorem State.setHolder_pending (s : State) (h : HolderId) (r : Holder) : (s.setHolder h r).pending = s.pending := rfl

/-! ### modHolder -/

@[simp] theorem State.modHolder_yard (s : State) (h : HolderId) (f : Holder → Holder) : (s.modHolder h f).yard = s.yard := rfl
@[simp] theorem State.modHolder_balance (s : State) (h : HolderId) (f : Holder → Holder) : (s.modHolder h f).balance = s.balance := rfl
@[simp] theorem State.modHolder_holders (s : State) (h : HolderId) (f : Holder → Holder) : (s.modHolder h f).holders = s.holders.set h (f (s.holder h)) := rfl
@[simp] theorem State.modHolder_districts (s : State) (h : HolderId) (f : Holder → Holder) : (s.modHolder h f).districts = s.districts := rfl
@[simp] theorem State.modHolder_views (s : State) (h : HolderId) (f : Holder → Holder) : (s.modHolder h f).views = s.views := rfl
@[simp] theorem State.modHolder_occasions (s : State) (h : HolderId) (f : Holder → Holder) : (s.modHolder h f).occasions = s.occasions := rfl
@[simp] theorem State.modHolder_attempt (s : State) (h : HolderId) (f : Holder → Holder) : (s.modHolder h f).attempt = s.attempt := rfl
@[simp] theorem State.modHolder_line (s : State) (h : HolderId) (f : Holder → Holder) : (s.modHolder h f).line = s.line := rfl
@[simp] theorem State.modHolder_bke (s : State) (h : HolderId) (f : Holder → Holder) : (s.modHolder h f).bke = s.bke := rfl
@[simp] theorem State.modHolder_rst (s : State) (h : HolderId) (f : Holder → Holder) : (s.modHolder h f).rst = s.rst := rfl
@[simp] theorem State.modHolder_rex (s : State) (h : HolderId) (f : Holder → Holder) : (s.modHolder h f).rex = s.rex := rfl
@[simp] theorem State.modHolder_inTransit (s : State) (h : HolderId) (f : Holder → Holder) : (s.modHolder h f).inTransit = s.inTransit := rfl
@[simp] theorem State.modHolder_running (s : State) (h : HolderId) (f : Holder → Holder) : (s.modHolder h f).running = s.running := rfl
@[simp] theorem State.modHolder_pending (s : State) (h : HolderId) (f : Holder → Holder) : (s.modHolder h f).pending = s.pending := rfl

/-! ### modDistrict -/

@[simp] theorem State.modDistrict_yard (s : State) (d : DistrictId) (f : District → District) : (s.modDistrict d f).yard = s.yard := rfl
@[simp] theorem State.modDistrict_balance (s : State) (d : DistrictId) (f : District → District) : (s.modDistrict d f).balance = s.balance := rfl
@[simp] theorem State.modDistrict_holders (s : State) (d : DistrictId) (f : District → District) : (s.modDistrict d f).holders = s.holders := rfl
@[simp] theorem State.modDistrict_districts (s : State) (d : DistrictId) (f : District → District) : (s.modDistrict d f).districts = s.districts.set d (f (s.district d)) := rfl
@[simp] theorem State.modDistrict_views (s : State) (d : DistrictId) (f : District → District) : (s.modDistrict d f).views = s.views := rfl
@[simp] theorem State.modDistrict_occasions (s : State) (d : DistrictId) (f : District → District) : (s.modDistrict d f).occasions = s.occasions := rfl
@[simp] theorem State.modDistrict_attempt (s : State) (d : DistrictId) (f : District → District) : (s.modDistrict d f).attempt = s.attempt := rfl
@[simp] theorem State.modDistrict_line (s : State) (d : DistrictId) (f : District → District) : (s.modDistrict d f).line = s.line := rfl
@[simp] theorem State.modDistrict_bke (s : State) (d : DistrictId) (f : District → District) : (s.modDistrict d f).bke = s.bke := rfl
@[simp] theorem State.modDistrict_rst (s : State) (d : DistrictId) (f : District → District) : (s.modDistrict d f).rst = s.rst := rfl
@[simp] theorem State.modDistrict_rex (s : State) (d : DistrictId) (f : District → District) : (s.modDistrict d f).rex = s.rex := rfl
@[simp] theorem State.modDistrict_inTransit (s : State) (d : DistrictId) (f : District → District) : (s.modDistrict d f).inTransit = s.inTransit := rfl
@[simp] theorem State.modDistrict_running (s : State) (d : DistrictId) (f : District → District) : (s.modDistrict d f).running = s.running := rfl
@[simp] theorem State.modDistrict_pending (s : State) (d : DistrictId) (f : District → District) : (s.modDistrict d f).pending = s.pending := rfl

/-! ### setView -/

@[simp] theorem State.setView_yard (s : State) (h : HolderId) (v : View) : (s.setView h v).yard = s.yard := rfl
@[simp] theorem State.setView_balance (s : State) (h : HolderId) (v : View) : (s.setView h v).balance = s.balance := rfl
@[simp] theorem State.setView_holders (s : State) (h : HolderId) (v : View) : (s.setView h v).holders = s.holders := rfl
@[simp] theorem State.setView_districts (s : State) (h : HolderId) (v : View) : (s.setView h v).districts = s.districts := rfl
@[simp] theorem State.setView_views (s : State) (h : HolderId) (v : View) : (s.setView h v).views = s.views.set h v := rfl
@[simp] theorem State.setView_occasions (s : State) (h : HolderId) (v : View) : (s.setView h v).occasions = s.occasions := rfl
@[simp] theorem State.setView_attempt (s : State) (h : HolderId) (v : View) : (s.setView h v).attempt = s.attempt := rfl
@[simp] theorem State.setView_line (s : State) (h : HolderId) (v : View) : (s.setView h v).line = s.line := rfl
@[simp] theorem State.setView_bke (s : State) (h : HolderId) (v : View) : (s.setView h v).bke = s.bke := rfl
@[simp] theorem State.setView_rst (s : State) (h : HolderId) (v : View) : (s.setView h v).rst = s.rst := rfl
@[simp] theorem State.setView_rex (s : State) (h : HolderId) (v : View) : (s.setView h v).rex = s.rex := rfl
@[simp] theorem State.setView_inTransit (s : State) (h : HolderId) (v : View) : (s.setView h v).inTransit = s.inTransit := rfl
@[simp] theorem State.setView_running (s : State) (h : HolderId) (v : View) : (s.setView h v).running = s.running := rfl
@[simp] theorem State.setView_pending (s : State) (h : HolderId) (v : View) : (s.setView h v).pending = s.pending := rfl

/-! ### send -/

@[simp] theorem State.send_yard (s : State) (m : Instr) : (s.send m).yard = s.yard := rfl
@[simp] theorem State.send_balance (s : State) (m : Instr) : (s.send m).balance = s.balance := rfl
@[simp] theorem State.send_holders (s : State) (m : Instr) : (s.send m).holders = s.holders := rfl
@[simp] theorem State.send_districts (s : State) (m : Instr) : (s.send m).districts = s.districts := rfl
@[simp] theorem State.send_views (s : State) (m : Instr) : (s.send m).views = s.views := rfl
@[simp] theorem State.send_occasions (s : State) (m : Instr) : (s.send m).occasions = s.occasions := rfl
@[simp] theorem State.send_attempt (s : State) (m : Instr) : (s.send m).attempt = s.attempt := rfl
@[simp] theorem State.send_line (s : State) (m : Instr) : (s.send m).line = s.line := rfl
@[simp] theorem State.send_bke (s : State) (m : Instr) : (s.send m).bke = s.bke := rfl
@[simp] theorem State.send_rst (s : State) (m : Instr) : (s.send m).rst = s.rst := rfl
@[simp] theorem State.send_rex (s : State) (m : Instr) : (s.send m).rex = s.rex := rfl
@[simp] theorem State.send_inTransit (s : State) (m : Instr) : (s.send m).inTransit = s.inTransit ++ [m] := rfl
@[simp] theorem State.send_running (s : State) (m : Instr) : (s.send m).running = s.running := rfl
@[simp] theorem State.send_pending (s : State) (m : Instr) : (s.send m).pending = s.pending := rfl

/-! ### taken -/

@[simp] theorem State.taken_yard (s : State) (m : Instr) : (s.taken m).yard = s.yard := rfl
@[simp] theorem State.taken_balance (s : State) (m : Instr) : (s.taken m).balance = s.balance := rfl
@[simp] theorem State.taken_holders (s : State) (m : Instr) : (s.taken m).holders = s.holders := rfl
@[simp] theorem State.taken_districts (s : State) (m : Instr) : (s.taken m).districts = s.districts := rfl
@[simp] theorem State.taken_views (s : State) (m : Instr) : (s.taken m).views = s.views := rfl
@[simp] theorem State.taken_occasions (s : State) (m : Instr) : (s.taken m).occasions = s.occasions := rfl
@[simp] theorem State.taken_attempt (s : State) (m : Instr) : (s.taken m).attempt = s.attempt := rfl
@[simp] theorem State.taken_line (s : State) (m : Instr) : (s.taken m).line = s.line := rfl
@[simp] theorem State.taken_bke (s : State) (m : Instr) : (s.taken m).bke = s.bke := rfl
@[simp] theorem State.taken_rst (s : State) (m : Instr) : (s.taken m).rst = s.rst := rfl
@[simp] theorem State.taken_rex (s : State) (m : Instr) : (s.taken m).rex = s.rex := rfl
@[simp] theorem State.taken_inTransit (s : State) (m : Instr) : (s.taken m).inTransit = s.inTransit.erase m := rfl
@[simp] theorem State.taken_running (s : State) (m : Instr) : (s.taken m).running = s.running := rfl
@[simp] theorem State.taken_pending (s : State) (m : Instr) : (s.taken m).pending = s.pending := rfl

/-! ### Records read back -/

@[simp] theorem State.holder_setHolder_self (s : State) (h : HolderId) (r : Holder) : (s.setHolder h r).holder h = r := by
  simp [State.holder, State.setHolder]

theorem State.holder_setHolder_ne (s : State) {h g : HolderId} (r : Holder) (hne : g ≠ h) :
    (s.setHolder h r).holder g = s.holder g := by
  have : (h : Nat) ≠ g := fun e => hne (Fin.ext e.symm)
  simp [State.holder, State.setHolder, this]

@[simp] theorem State.holder_modHolder_self (s : State) (h : HolderId) (f : Holder → Holder) :
    (s.modHolder h f).holder h = f (s.holder h) := by
  simp [State.modHolder]

theorem State.holder_modHolder_ne (s : State) {h g : HolderId} (f : Holder → Holder) (hne : g ≠ h) :
    (s.modHolder h f).holder g = s.holder g := State.holder_setHolder_ne s _ hne

@[simp] theorem State.district_modDistrict_self (s : State) (d : DistrictId) (f : District → District) :
    (s.modDistrict d f).district d = f (s.district d) := by
  simp [State.district, State.modDistrict]

theorem State.district_modDistrict_ne (s : State) {d e : DistrictId} (f : District → District) (hne : e ≠ d) :
    (s.modDistrict d f).district e = s.district e := by
  have : (d : Nat) ≠ e := fun x => hne (Fin.ext x.symm)
  simp [State.district, State.modDistrict, this]

@[simp] theorem State.view_setView_self (s : State) (h : HolderId) (v : View) : (s.setView h v).view h = v := by
  simp [State.view, State.setView]

theorem State.view_setView_ne (s : State) {h g : HolderId} (v : View) (hne : g ≠ h) :
    (s.setView h v).view g = s.view g := by
  have : (h : Nat) ≠ g := fun e => hne (Fin.ext e.symm)
  simp [State.view, State.setView, this]

/-! ### Two updates of one record -/

/-- A second record of one holder replaces the first. -/
@[simp] theorem State.setHolder_setHolder (s : State) (h : HolderId) (r r' : Holder) :
    (s.setHolder h r).setHolder h r' = s.setHolder h r' := by
  simp [State.setHolder]

/-- A holder's own record put back changes nothing. -/
@[simp] theorem State.setHolder_holder (s : State) (h : HolderId) : s.setHolder h (s.holder h) = s := by
  simp [State.setHolder, State.holder]

/-- A change of a holder's record replaces it with the changed one. -/
theorem State.modHolder_eq (s : State) (h : HolderId) (f : Holder → Holder) :
    s.modHolder h f = s.setHolder h (f (s.holder h)) := rfl

/-- Two changes of one district's record are one. -/
@[simp] theorem State.modDistrict_modDistrict (s : State) (d : DistrictId) (f g : District → District) :
    (s.modDistrict d f).modDistrict d g = s.modDistrict d fun r => g (f r) := by
  simp [State.modDistrict, State.district]

/-! ### Reads that an update of another record leaves -/

@[simp] theorem State.holder_modYard (s : State) (f : Yard → Yard) (h : HolderId) : (s.modYard f).holder h = s.holder h := rfl
@[simp] theorem State.district_modYard (s : State) (f : Yard → Yard) (d : DistrictId) : (s.modYard f).district d = s.district d := rfl
@[simp] theorem State.view_modYard (s : State) (f : Yard → Yard) (h : HolderId) : (s.modYard f).view h = s.view h := rfl
@[simp] theorem State.holder_modBalance (s : State) (f : Balance → Balance) (h : HolderId) : (s.modBalance f).holder h = s.holder h := rfl
@[simp] theorem State.district_modBalance (s : State) (f : Balance → Balance) (d : DistrictId) : (s.modBalance f).district d = s.district d := rfl
@[simp] theorem State.view_modBalance (s : State) (f : Balance → Balance) (h : HolderId) : (s.modBalance f).view h = s.view h := rfl
@[simp] theorem State.holder_modLine (s : State) (f : Line → Line) (h : HolderId) : (s.modLine f).holder h = s.holder h := rfl
@[simp] theorem State.district_modLine (s : State) (f : Line → Line) (d : DistrictId) : (s.modLine f).district d = s.district d := rfl
@[simp] theorem State.view_modLine (s : State) (f : Line → Line) (h : HolderId) : (s.modLine f).view h = s.view h := rfl
@[simp] theorem State.holder_modBke (s : State) (f : Bke → Bke) (h : HolderId) : (s.modBke f).holder h = s.holder h := rfl
@[simp] theorem State.district_modBke (s : State) (f : Bke → Bke) (d : DistrictId) : (s.modBke f).district d = s.district d := rfl
@[simp] theorem State.view_modBke (s : State) (f : Bke → Bke) (h : HolderId) : (s.modBke f).view h = s.view h := rfl
@[simp] theorem State.holder_modRst (s : State) (f : Rst → Rst) (h : HolderId) : (s.modRst f).holder h = s.holder h := rfl
@[simp] theorem State.district_modRst (s : State) (f : Rst → Rst) (d : DistrictId) : (s.modRst f).district d = s.district d := rfl
@[simp] theorem State.view_modRst (s : State) (f : Rst → Rst) (h : HolderId) : (s.modRst f).view h = s.view h := rfl
@[simp] theorem State.holder_modRex (s : State) (f : Rex → Rex) (h : HolderId) : (s.modRex f).holder h = s.holder h := rfl
@[simp] theorem State.district_modRex (s : State) (f : Rex → Rex) (d : DistrictId) : (s.modRex f).district d = s.district d := rfl
@[simp] theorem State.view_modRex (s : State) (f : Rex → Rex) (h : HolderId) : (s.modRex f).view h = s.view h := rfl
@[simp] theorem State.district_setHolder (s : State) (h : HolderId) (r : Holder) (d : DistrictId) : (s.setHolder h r).district d = s.district d := rfl
@[simp] theorem State.view_setHolder (s : State) (k : HolderId) (r : Holder) (h : HolderId) : (s.setHolder k r).view h = s.view h := rfl
@[simp] theorem State.district_modHolder (s : State) (h : HolderId) (f : Holder → Holder) (d : DistrictId) : (s.modHolder h f).district d = s.district d := rfl
@[simp] theorem State.view_modHolder (s : State) (k : HolderId) (f : Holder → Holder) (h : HolderId) : (s.modHolder k f).view h = s.view h := rfl
@[simp] theorem State.holder_modDistrict (s : State) (e : DistrictId) (f : District → District) (h : HolderId) : (s.modDistrict e f).holder h = s.holder h := rfl
@[simp] theorem State.view_modDistrict (s : State) (d : DistrictId) (f : District → District) (h : HolderId) : (s.modDistrict d f).view h = s.view h := rfl
@[simp] theorem State.holder_setView (s : State) (k : HolderId) (v : View) (h : HolderId) : (s.setView k v).holder h = s.holder h := rfl
@[simp] theorem State.district_setView (s : State) (h : HolderId) (v : View) (d : DistrictId) : (s.setView h v).district d = s.district d := rfl
@[simp] theorem State.holder_send (s : State) (m : Instr) (h : HolderId) : (s.send m).holder h = s.holder h := rfl
@[simp] theorem State.district_send (s : State) (m : Instr) (d : DistrictId) : (s.send m).district d = s.district d := rfl
@[simp] theorem State.view_send (s : State) (m : Instr) (h : HolderId) : (s.send m).view h = s.view h := rfl
@[simp] theorem State.holder_taken (s : State) (m : Instr) (h : HolderId) : (s.taken m).holder h = s.holder h := rfl
@[simp] theorem State.district_taken (s : State) (m : Instr) (d : DistrictId) : (s.taken m).district d = s.district d := rfl
@[simp] theorem State.view_taken (s : State) (m : Instr) (h : HolderId) : (s.taken m).view h = s.view h := rfl

/-! ### A running part -/

/-- A command of a running part answers the state its function gives. -/
theorem whenRunning_of_running {s : State} (f : State → State) (h : s.running = true) :
    whenRunning s f = .next (f s) := by
  simp [whenRunning, h]

/-- A command of a part that does not run changes nothing. -/
theorem whenRunning_of_stopped {s : State} (f : State → State) (h : s.running = false) : whenRunning s f = .next s := by
  simp [whenRunning, h]

/-- A command answers a next state either way. -/
theorem whenRunning_next (s : State) (f : State → State) :
    whenRunning s f = .next (if s.running then f s else s) := by
  unfold whenRunning
  split <;> rfl

end Sys2Proof.Machine
end

