-- ==== Sys2Proof/Laws/Link.lean ====
section
/-! SUPPORT. What the arrival of a request and the end of one of its accesses can do (11 R192, R194), said once. -/

namespace Sys2Proof.Machine

/-! ### The arbiter -/

/-- An idle arbiter grants what is asked of it at once (08 R163). -/
theorem request_rex_of_idle {s : State} (hs : s.rst.arbiter.serving = none) (hb : s.rst.arbiter.bkeWaits = false) :
    request .rex s = s.modRst fun r => { r with arbiter := { r.arbiter with
      serving := some ⟨.rex, s.yard.period, s.yard.barometer, s.yard.declaredCv, s.bke.staleCommit⟩
      bkeWaits := false
      rexWaits := false
      count := 0 } } := by
  simp [request, arbitrate, grant, State.modRst, hs, hb]

/-- An access asked for while another is served waits (08 R163). -/
theorem request_rex_of_serving {s : State} (hs : s.rst.arbiter.serving.isSome = true) :
    request .rex s = s.modRst fun r => { r with arbiter := { r.arbiter with rexWaits := true } } := by
  simp [request, arbitrate, State.modRst, hs]

/-- An access ends with none waiting: the arbiter is idle (08 R163). -/
theorem release_of_none_waits {s : State} (hb : s.rst.arbiter.bkeWaits = false) (hr : s.rst.arbiter.rexWaits = false)
    (hk : s.rst.arbiter.scrubWaits = false) :
    release s = s.modRst fun r => { r with arbiter := { r.arbiter with serving := none } } := by
  simp [release, arbitrate, State.modRst, hb, hr, hk]

/-- An access ends with REX's next one waiting alone: it is granted (08 R163). -/
theorem release_of_rex_waits {s : State} (hb : s.rst.arbiter.bkeWaits = false) (hr : s.rst.arbiter.rexWaits = true) :
    release s = s.modRst fun r => { r with arbiter := { r.arbiter with
      serving := some ⟨.rex, s.yard.period, s.yard.barometer, s.yard.declaredCv, s.bke.staleCommit⟩
      bkeWaits := false
      rexWaits := false
      count := 0 } } := by
  simp [release, arbitrate, grant, State.modRst, hb, hr]

/-- An access ends with BKE's next one waiting alone: it is granted (08 R163). -/
theorem release_of_bke_waits {s : State} (hb : s.rst.arbiter.bkeWaits = true) (hr : s.rst.arbiter.rexWaits = false) :
    release s = s.modRst fun r => { r with arbiter := { r.arbiter with
      serving := some ⟨.bke, s.yard.period, s.yard.barometer, s.yard.declaredCv, s.bke.staleCommit⟩
      bkeWaits := false
      rexWaits := false
      count := bump s.yard.bookingShare r.arbiter.count } } := by
  simp [release, arbitrate, grant, State.modRst, hb, hr]

/-! ### Reads -/

/-- A read of a clean slot gives its contents and changes nothing (08 R155). -/
theorem judge_of_clean {s : State} {own : Bool} {period n : Nat} (hd : s.rst.isDamaged n = false)
    (hf : s.rst.flawsOf n = 0) : judge own period n s = (.contents, s) := by
  simp [judge, hd, hf]

/-- A read of a slot marked damaged gives no contents and changes nothing (08 R155). -/
theorem judge_of_damaged {s : State} {own : Bool} {period n : Nat} (hd : s.rst.isDamaged n = true) :
    judge own period n s = (.damaged, s) := by
  simp [judge, hd]

/-- One flawed word is corrected, counted and latched (08 R155, R160). -/
theorem judge_of_correctable {s : State} {own : Bool} {period n : Nat} (hd : s.rst.isDamaged n = false)
    (hf : s.rst.flawsOf n = 1) :
    judge own period n s = (.contents, s.modRst fun r => (r.setFlaws n 0).noteCorrected n) := by
  simp [judge, hd, hf]

/-- Two flawed words or more are an uncorrectable read (08 R155). -/
theorem judge_of_uncorrectable {s : State} {own : Bool} {period n : Nat} (hd : s.rst.isDamaged n = false)
    (hf : 2 ≤ s.rst.flawsOf n) : judge own period n s = (.uncorrectable, takeDamage own period n s) := by
  unfold judge
  rw [hd]
  split
  · contradiction
  · split
    · omega
    · omega
    · rfl

/-! ### Drives -/

/-- The drive of a move in flight is that of the valve the move drives (03 R46). -/
theorem driveInFlight_eq (r : Holder) : Safety.driveInFlight r = r.driven.map fun p => driveOf p.1 p.2 := by
  unfold Safety.driveInFlight Holder.driven ChangeOver.current
  cases r.changeOver with
  | none => rfl
  | some c =>
    by_cases h : c.started = true
    · simp only [Option.bind_some, h, if_true]
      cases c.moves[c.step]? with
      | none => simp
      | some m => cases m <;> rfl
    · simp [h]

/-! ### Arrival of a request -/

/-- Every request command is the arrival of its request (11 R192). -/
theorem exec_of_request {i : Instr} {s : State} {tag : Byte} {q : Request} (h : i.request = some (tag, q)) :
    exec i s = whenRunning s (requestArrives tag q) := by
  cases i <;> simp only [Instr.request, Option.some.injEq, Prod.mk.injEq, reduceCtorEq] at h <;> obtain ⟨rfl, rfl⟩ := h <;>
    rfl

/-- A full response queue discards the frame (11 R192). -/
theorem requestArrives_of_full {s : State} {tag : Byte} {q : Request} (h : 4 ≤ s.rex.responses.length) :
    requestArrives tag q s = discardFrame s := by
  simp [requestArrives, State.noRoom, Config.responseRoom, h]

/-- An immediate request acts at once (11 R196). -/
theorem requestArrives_of_immediate {s t : State} {tag : Byte} {q : Request} (h : s.rex.responses.length < 4)
    (hi : immediate tag q s = some t) : requestArrives tag q s = t := by
  have : ¬ 4 ≤ s.rex.responses.length := by omega
  simp [requestArrives, State.noRoom, Config.responseRoom, this, hi]

/-- A stacked request on an empty stack is at once the head (11 R194). -/
theorem requestArrives_of_empty {s : State} {tag : Byte} {q : Request} (h : s.rex.responses.length < 4)
    (hk : s.rex.stack = []) (hi : immediate tag q s = none) :
    requestArrives tag q s = runStack 2 (s.modRex fun x => { x with stack := [⟨tag, q, false⟩] }) := by
  have : ¬ 4 ≤ s.rex.responses.length := by omega
  simp [requestArrives, State.noRoom, Config.responseRoom, this, hi, stackRequest, hk, Config.maxStack, State.modRex]

/-- The state in which a lone head is handed to its owner (11 R194). -/
def headState (s : State) (tag : Byte) (q : Request) : State :=
  s.modRex fun x => { x with stack := [⟨tag, q, true⟩] }

/-- A request that its group refuses is answered ILLEGAL-MODE and changes nothing else (11 R195). -/
theorem requestArrives_of_illegal {s : State} {tag : Byte} {q : Request} (h : s.rex.responses.length < 4)
    (hk : s.rex.stack = []) (hw : s.rex.work = none) (hi : immediate tag q s = none) (ha : admits q s.yard.mode = false) :
    requestArrives tag q s = respond tag q.code .illegalMode [] s := by
  rw [requestArrives_of_empty h hk hi]
  simp [runStack, startHead, State.modRex, ha, refuse, answerHead, respond]
  exact ⟨hk, hw.symm⟩

/-- A lone request that is answered at its start (11 R194). -/
theorem requestArrives_of_answered {s t : State} {tag : Byte} {q : Request} {result : Result} {fields : List Field}
    (h : s.rex.responses.length < 4) (hk : s.rex.stack = []) (hi : immediate tag q s = none)
    (ha : admits q s.yard.mode = true) (hs : startRequest q (headState s tag q) = (.answered result fields, t))
    (ht : t.rex.stack = [⟨tag, q, true⟩]) :
    requestArrives tag q s
      = respond tag q.code result fields (t.modRex fun x => { x with stack := [], work := none }) := by
  rw [requestArrives_of_empty h hk hi]
  have hm : markStarted (s.modRex fun x => { x with stack := [⟨tag, q, false⟩] }) = headState s tag q := rfl
  simp only [runStack, startHead, State.modRex_rex, State.modRex_yard, ha, if_true, hm, hs]
  simp [answerHead, State.modRex, ht, respond]

/-- A lone request that awaits a store access at its start (11 R194). -/
theorem requestArrives_of_awaits {s t : State} {tag : Byte} {q : Request} {w : HeadWork}
    (h : s.rex.responses.length < 4) (hk : s.rex.stack = []) (hi : immediate tag q s = none)
    (ha : admits q s.yard.mode = true) (hs : startRequest q (headState s tag q) = (.awaits w, t)) :
    requestArrives tag q s = request .rex (t.modRex fun x => { x with work := some w }) := by
  rw [requestArrives_of_empty h hk hi]
  have hm : markStarted (s.modRex fun x => { x with stack := [⟨tag, q, false⟩] }) = headState s tag q := rfl
  simp only [runStack, startHead, State.modRex_rex, State.modRex_yard, ha, if_true, hm, hs]
  rfl

/-- A request command of a part that is ready, answered at its start by a state that leaves REX's link side alone (11 R194). -/
theorem exec_of_answered {i : Instr} {tag : Byte} {q : Request} {s t : State} {result : Result} {fields : List Field}
    (hi : i.request = some (tag, q)) (h : Safety.Ready s) (him : immediate tag q s = none)
    (ha : admits q s.yard.mode = true) (hs : startRequest q (headState s tag q) = (.answered result fields, headState t tag q))
    (ht : t.rex = s.rex) : exec i s = .next (Safety.withResponse t tag q.code result fields) := by
  obtain ⟨⟨hr, hl⟩, hk, hw⟩ := h
  rw [exec_of_request hi, whenRunning_of_running _ hr, requestArrives_of_answered hl hk him ha hs rfl]
  have : (headState t tag q).modRex (fun x => { x with stack := [], work := none }) = t := by
    simp only [headState, State.modRex]
    rw [← hk, ← hw, ← ht]
  rw [this]
  rfl

/-- A request command of a part that is ready, which awaits its first store access at an idle arbiter (11 R194, 08 R163). -/
theorem exec_of_awaits {i : Instr} {tag : Byte} {q : Request} {s : State} {w : HeadWork}
    (hi : i.request = some (tag, q)) (h : Safety.Ready s) (hst : Safety.StoreIdle s) (him : immediate tag q s = none)
    (ha : admits q s.yard.mode = true) (hs : startRequest q (headState s tag q) = (.awaits w, headState s tag q)) :
    exec i s = .next (Safety.startedHead s tag q w) := by
  obtain ⟨⟨hr, hl⟩, hk, hw⟩ := h
  obtain ⟨h1, h2, h3, h4⟩ := hst
  rw [exec_of_request hi, whenRunning_of_running _ hr, requestArrives_of_awaits hl hk him ha hs,
    request_rex_of_idle (by simpa [headState] using h1) (by simpa [headState] using h2)]
  simp [headState, State.modRex, State.modRst, Safety.startedHead, ← h2]

/-! ### The end of an access of the head -/

/-- REX's access ends where the head awaits one of the command's kind (11 R194). -/
theorem headAccessEnds_of_awaits {s : State} {kind : HeadWork → Bool} {g : Grant} {h : Stacked} {rest : List Stacked}
    {w : HeadWork} (hg : s.rst.arbiter.serving = some g) (hq : g.requester = .rex) (hk : s.rex.stack = h :: rest)
    (hw : s.rex.work = some w) (hm : kind w = true) :
    headAccessEnds kind s = release (headGoesOn h (workAccess g h.request w s)) := by
  simp [headAccessEnds, State.served, State.headWork, hg, hq, hk, hw, hm, Option.filter]

/-- BKE's access ends where its booking in hand is in a phase of the command's kind (06; 08 R163). -/
theorem bookingAccessEnds_of_serves {s : State} {kind : Phase → Bool} {work : Grant → InHand → State → State} {g : Grant}
    {h : InHand} (hg : s.rst.arbiter.serving = some g) (hq : g.requester = .bke) (hh : s.bke.inHand = some h)
    (hm : kind h.phase = true) : bookingAccessEnds kind work s = release (work g h s) := by
  simp [bookingAccessEnds, State.served, hg, hq, hh, hm, Option.filter]

/-- An access that is answered leaves an empty stack behind a lone head (11 R194). -/
theorem headGoesOn_answered {t : State} {h : Stacked} {result : Result} {fields : List Field} (hk : t.rex.stack = [h]) :
    headGoesOn h (.answered result fields, t)
      = respond h.tag h.request.code result fields (t.modRex fun x => { x with stack := [], work := none }) := by
  simp [headGoesOn, answerHead, runStack, Config.maxStack, State.modRex, hk, respond]

/-- An access behind which another is awaited (11 R194). -/
theorem headGoesOn_awaits {t : State} {h : Stacked} {w : HeadWork} :
    headGoesOn h (.awaits w, t) = request .rex (t.modRex fun x => { x with work := some w }) := rfl

end Sys2Proof.Machine
end

