-- ==== Sys2Proof/Laws/Access.lean ====
section
/-! SUPPORT. The accesses of a lone request, one after another: from its start at an idle arbiter each access either leads to the next
or ends it (11 R194, 08 R163); and what BKE's marks do to the BOOKED pass (07 R148). -/

namespace Sys2Proof.Machine

open Safety

/-- A store command without flaws, of a running part. -/
theorem storeCommand_nil {s : State} (f : State → State) (h : s.running = true) : storeCommand [] s f = .next (f s) := by
  have : (s.modRst fun r => r.addFlaws []) = s := rfl
  rw [storeCommand, this, whenRunning_of_running _ h]

/-- What REX's grant takes from outside the store (08 R163). -/
def rexGrant (s : State) : Grant := ⟨.rex, s.yard.period, s.yard.barometer, s.yard.declaredCv, s.bke.staleCommit⟩

/-- An access of a lone head that is answered by a state which leaves REX's link side and the arbiter alone. -/
theorem headAccessEnds_answered {s t : State} {kind : HeadWork → Bool} {g : Grant} {tag : Byte} {q : Request} {w : HeadWork}
    {result : Result} {fields : List Field} (h : HeadAwaits s g tag q w) (hm : kind w = true)
    (hw : workAccess g q w s = (.answered result fields, t)) (hx : t.rex = s.rex) (ha : t.rst.arbiter = s.rst.arbiter) :
    headAccessEnds kind s = headAnswered t tag q result fields := by
  obtain ⟨⟨_, hg, hq, hb, hr, hk⟩, hs, hwk⟩ := h
  rw [headAccessEnds_of_awaits hg hq hs hwk hm]
  simp only [hw]
  rw [headGoesOn_answered (by rw [hx, hs]), release_of_none_waits]
  · simp [headAnswered, respond, State.modRex, State.modRst]
  · simpa [respond, ha] using hb
  · simpa [respond, ha] using hr
  · simpa [respond, ha] using hk

/-- An access of a lone head behind which it awaits another, through a state which leaves the arbiter alone. -/
theorem headAccessEnds_awaits {s t : State} {kind : HeadWork → Bool} {g : Grant} {tag : Byte} {q : Request} {w w' : HeadWork}
    (h : HeadAwaits s g tag q w) (hm : kind w = true) (hw : workAccess g q w s = (.awaits w', t))
    (ha : t.rst.arbiter = s.rst.arbiter) : headAccessEnds kind s = headContinues t w' := by
  obtain ⟨⟨_, hg, hq, hb, hr, hk⟩, hs, hwk⟩ := h
  rw [headAccessEnds_of_awaits hg hq hs hwk hm]
  simp only [hw]
  rw [headGoesOn_awaits, request_rex_of_serving (by simp [ha, hg]), release_of_rex_waits (by simp [ha, hb]) (by simp)]
  simp [headContinues, State.modRex, State.modRst, ha, hb, hr]

/-- The started head of an idle store awaits its access. -/
theorem headAwaits_startedHead {s : State} (tag : Byte) (q : Request) (w : HeadWork) (h : Ready s) (hi : StoreIdle s) :
    HeadAwaits (startedHead s tag q w) (rexGrant s) tag q w :=
  ⟨⟨h.1.1, rfl, rfl, hi.2.1, rfl, hi.2.2.2⟩, rfl, rfl⟩

/-- The next access of a head started at an idle store, behind one that changed nothing. -/
theorem headContinues_startedHead (s : State) (tag : Byte) (q : Request) (w w' : HeadWork) :
    headContinues (startedHead s tag q w) w' = startedHead s tag q w' := rfl

/-- A read of a clean slot by a started head changes nothing. -/
theorem judge_startedHead {s : State} {tag : Byte} {q : Request} {w : HeadWork} {own : Bool} {period n : Nat}
    (h : Clean s n) : judge own period n (startedHead s tag q w) = (.contents, startedHead s tag q w) :=
  judge_of_clean h.1 h.2

/-! ### The BOOKED pass and BKE's marks -/

/-- A mark of BKE changes only what a BOOKED pass has yet to do (07 R148). -/
theorem standMark_eq (own : LeafRef) (s : State) :
    standMark own s = { s with rex := { s.rex with work := s.rex.work.map (·.mark own) } } := rfl
@[simp] theorem HeadWork.mark_closePass (own : LeafRef) (tables : List Nat) (leaves : List PassLeaf) (m : Sums) :
    (HeadWork.closePass tables leaves m).mark own = .closePass tables (leaves.map (·.mark own)) m := rfl

/-- With no pass under way there is none to tell. -/
theorem standMark_of_no_pass {s : State} (own : LeafRef) (h : ∀ tables leaves m, s.rex.work ≠ some (.closePass tables leaves m)) :
    standMark own s = s := by
  have : s.rex.work.map (·.mark own) = s.rex.work := by
    match hw : s.rex.work with
    | some (.closePass tables leaves m) => exact absurd hw (h tables leaves m)
    | none | some .account | some .retireCheck | some (.retireScan _) | some .retireFinal | some (.closeScan ..)
    | some (.balance ..) | some (.lookPoint _) | some (.directory _) => rfl
  rw [standMark_eq, this]

/-- What a mark makes of a leaf of the pass. -/
theorem PassLeaf.mark_eq (own : LeafRef) (p : PassLeaf) : p.mark own = if p.own = own then { p with stands := true } else p := by
  by_cases h : p.own = own <;> simp [PassLeaf.mark, h]

/-- A mark that stands is left by the pass; another is cleared where the leaf is still as it was read (07 R148, 05 R92). -/
theorem clearMark_eq (p : PassLeaf) (r : Rst) :
    clearMark p r = if p.stands = false ∧ (r.leaf p.own.table p.own.index).kind = p.own.kind
      then r.putLeaf p.own.table p.own.index { r.leaf p.own.table p.own.index with booked := false } else r := by
  cases h : p.stands <;> simp [clearMark, flagLeaf, h]

/-! ### Abandoned plans -/

/-- A plan that does not start with freeing frees nothing: no later write of an abandoned request is made (11 R196). -/
theorem actFrees_of_writes {plan : List DirAction} (s : State) (h : ∀ a ∈ plan.head?, a.frees = false) : actFrees plan s = s := by
  cases plan with
  | nil => rfl
  | cons a plan => simp [actFrees, List.takeWhile, h a rfl]

/-- A plan frees its first table, and then what stands behind it (05 R91). -/
theorem actFrees_cons {a : DirAction} (plan : List DirAction) (s : State) (h : a.frees = true) :
    actFrees (a :: plan) s = actFrees plan ((actAtOnce a s).getD s) := by
  simp [actFrees, List.takeWhile, h]

end Sys2Proof.Machine
end

