-- ==== Sys2Proof/Laws/Ops.lean ====
section
/-! SUPPORT. The laws of the sparse stores: a read after a write, and the canonical form that every write keeps. -/

namespace Sys2Proof.Machine

variable {α : Type} [DecidableEq α] {blank : α}

omit [DecidableEq α] in
/-- Numbers above a greater one lie above the lesser. -/
theorem allAbove_of_lt {m : Sparse α} {j k : Nat} (h : j < k) (ha : allAbove k m = true) : allAbove j m = true := by
  induction m with
  | nil => rfl
  | cons p m ih =>
    obtain ⟨n, v⟩ := p
    simp only [allAbove, Bool.and_eq_true, decide_eq_true_eq] at ha ⊢
    exact ⟨by omega, ih ha.2⟩

omit [DecidableEq α] in
/-- A number below every listed one reads as the blank record. -/
theorem readAt_of_allAbove {m : Sparse α} {k n : Nat} (ha : allAbove k m = true) (h : n ≤ k) : readAt blank m n = blank := by
  induction m with
  | nil => rfl
  | cons p m ih =>
    obtain ⟨j, v⟩ := p
    simp only [allAbove, Bool.and_eq_true, decide_eq_true_eq] at ha
    simp only [readAt]
    rw [if_neg (by omega)]
    exact ih ha.2

/-- A write keeps the listed numbers above a bound that the number written lies above. -/
theorem allAbove_writeAt {m : Sparse α} {k n : Nat} {v : α} (h : k < n) (ha : allAbove k m = true) :
    allAbove k (writeAt blank m n v) = true := by
  induction m with
  | nil => simp only [writeAt]; split <;> simp [allAbove, h]
  | cons p m ih =>
    obtain ⟨j, w⟩ := p
    simp only [allAbove, Bool.and_eq_true, decide_eq_true_eq] at ha
    simp only [writeAt]
    split <;> try split
    all_goals try split
    all_goals simp_all [allAbove]

/-- Every write keeps the canonical form. -/
theorem canonical_writeAt {m : Sparse α} (n : Nat) (v : α) (hc : canonical blank m = true) :
    canonical blank (writeAt blank m n v) = true := by
  induction m with
  | nil => simp only [writeAt]; split <;> simp_all [canonical, allAbove]
  | cons p m ih =>
    obtain ⟨j, w⟩ := p
    simp only [canonical, Bool.and_eq_true, decide_eq_true_eq] at hc
    obtain ⟨⟨hw, ha⟩, hm⟩ := hc
    simp only [writeAt]
    split
    · rename_i hlt
      split
      · simp [canonical, hw, ha, hm]
      · rename_i hv
        simp [canonical, allAbove, hw, hv, ha, hm, hlt, allAbove_of_lt hlt ha]
    · split
      · split
        · exact hm
        · rename_i hv; simp [canonical, hv, ha, hm]
      · rename_i h1 h2
        have : j < n := by omega
        simp [canonical, hw, ih hm, allAbove_writeAt this ha]

/-- A read after a write to the same number gives what was written. -/
theorem readAt_writeAt_self {m : Sparse α} (n : Nat) (v : α) (hc : canonical blank m = true) :
    readAt blank (writeAt blank m n v) n = v := by
  induction m with
  | nil => simp only [writeAt]; split <;> simp_all [readAt]
  | cons p m ih =>
    obtain ⟨j, w⟩ := p
    simp only [canonical, Bool.and_eq_true, decide_eq_true_eq] at hc
    obtain ⟨⟨hw, ha⟩, hm⟩ := hc
    simp only [writeAt]
    split
    · rename_i hlt
      split
      · rename_i hv
        subst hv
        simp only [readAt]
        rw [if_neg (by omega)]
        exact readAt_of_allAbove ha (by omega)
      · simp [readAt]
    · split
      · rename_i hn
        split
        · rename_i hv
          subst hv
          exact readAt_of_allAbove ha (by omega)
        · simp [readAt, hn]
      · rename_i h1 h2
        simp [readAt, h2, ih hm]

/-- A write leaves every other number as it was. -/
theorem readAt_writeAt_ne {m : Sparse α} {n k : Nat} (v : α) (hk : k ≠ n) :
    readAt blank (writeAt blank m n v) k = readAt blank m k := by
  induction m with
  | nil => simp only [writeAt]; split <;> simp_all [readAt]
  | cons p m ih =>
    obtain ⟨j, w⟩ := p
    simp only [writeAt]
    split
    · split
      · rfl
      · simp [readAt, hk]
    · split
      · rename_i hn
        subst hn
        split <;> simp [readAt, hk]
      · simp [readAt, ih]

/-- A write below every listed number stands before them. -/
theorem writeAt_of_allAbove {m : Sparse α} {n : Nat} (v : α) (ha : allAbove n m = true) :
    writeAt blank m n v = if v = blank then m else (n, v) :: m := by
  cases m with
  | nil => rfl
  | cons p m =>
    simp only [allAbove, Bool.and_eq_true, decide_eq_true_eq] at ha
    simp [writeAt, ha.1]

/-- Of two writes to the same number the second stands. -/
theorem writeAt_writeAt {m : Sparse α} (n : Nat) (v w : α) (hc : canonical blank m = true) :
    writeAt blank (writeAt blank m n v) n w = writeAt blank m n w := by
  induction m with
  | nil => by_cases hv : v = blank <;> simp [writeAt, hv]
  | cons p m ih =>
    obtain ⟨j, x⟩ := p
    simp only [canonical, Bool.and_eq_true, decide_eq_true_eq] at hc
    obtain ⟨⟨_, ha⟩, hm⟩ := hc
    rcases Nat.lt_trichotomy n j with hlt | rfl | hgt
    · by_cases hv : v = blank <;> simp [writeAt, hv, hlt]
    · by_cases hv : v = blank
      · simp [writeAt, hv, writeAt_of_allAbove w ha]
      · simp [writeAt, hv]
    · simp [writeAt, show ¬ n < j by omega, show n ≠ j by omega, ih hm]

end Sys2Proof.Machine
end

