-- ==== Sys2Proof/Laws/Booking.lean ====
section
/-! SUPPORT. What a commit access and the accounts it reads can do (06 R122 to R127, 08 R155 to R157), and how BKE goes on from it
(06 R118, R119), each said once. -/

namespace Sys2Proof.Machine

open Safety

/-! ### Accounts -/

/-- An account takes a booking it has room for, and no other (01 R8 to R11, 06 R125). -/
theorem Account.add_eq (a : Account) (dv cv : Nat) (clamped : Bool) :
    a.add dv (bookedHeat dv cv) clamped = if RoomFor a dv cv then some (withBooking a clamped dv cv) else none := rfl

@[simp] theorem Account.rolled_state (a : Account) (p : Nat) : (a.rolled p).state = a.state := by
  unfold Account.rolled; split <;> rfl
@[simp] theorem Account.rolled_cv (a : Account) (p : Nat) : (a.rolled p).cv = a.cv := by
  unfold Account.rolled; split <;> rfl

/-- A slot reads as it was written, and every other slot as before (07 R131). -/
theorem Rst.account_putAccount {r : Rst} (h : canonical Account.free r.accounts = true) (n k : Nat) (a : Account) :
    (r.putAccount n a).account k = if k = n then a else r.account k := by
  by_cases hk : k = n
  · subst hk; simp [Rst.account, Rst.putAccount, Rst.setFlaws, readAt_writeAt_self _ _ h]
  · simp [Rst.account, Rst.putAccount, Rst.setFlaws, readAt_writeAt_ne _ hk, hk]

/-- A read that gives contents touches only the flaws and the counters and latch of corrected reads (08 R155, R160). -/
theorem judge_of_readable {s : State} {own : Bool} {period n : Nat} (h : Readable s n) :
    ∃ flaws count last latch, judge own period n s = (.contents, { s with rst := { s.rst with
        flaws := flaws, corrected := count, lastCorrected := last, correctedLatch := latch } })
      ∧ ∀ k, k ≠ n → readAt 0 flaws k = s.rst.flawsOf k := by
  obtain ⟨hd, hf⟩ := h
  rcases (by omega : s.rst.flawsOf n = 0 ∨ s.rst.flawsOf n = 1) with h0 | h1
  · exact ⟨_, _, _, _, judge_of_clean hd h0, fun _ _ => rfl⟩
  · exact ⟨_, _, _, _, judge_of_correctable hd h1, fun k hk => readAt_writeAt_ne _ hk⟩

/-- What suspense makes of a booking it can read and has room for, or not (06 R125, R126). -/
theorem toSuspense_of_readable {s : State} {g : Grant} {q : Quantity} {reason : Divert} (h : Readable s 0) :
    ∃ x, judge false g.period 0 s = (.contents, x) ∧ toSuspense g q reason s
      = (let a := (x.rst.account 0).rolled g.period
        if RoomFor a q.volume g.declaredCv then
          (.suspense reason, x.modRst fun r => r.putAccount 0
            { withBooking a q.clamped q.volume g.declaredCv with diverts := a.diverts.raise reason })
        else (.refused .full, x.modRst fun r => r.putAccount 0 { a with limitReached := true })) := by
  obtain ⟨_, _, _, _, hj, -⟩ := judge_of_readable (own := false) (period := g.period) h
  refine ⟨_, hj, ?_⟩
  simp only [toSuspense, hj, Account.add_eq]
  split <;> rename_i ha <;> split at ha <;> cases ha <;> rename_i hr <;> first | rw [if_pos hr]; rfl | rw [if_neg hr]

/-- An unreadable suspense account starts afresh and takes no booking (06 R126, 08 R157). -/
theorem toSuspense_of_uncorrectable {s : State} {g : Grant} {q : Quantity} {reason : Divert} (h : Uncorrectable s 0) :
    toSuspense g q reason s = (.refused .damaged, takeDamage false g.period 0 s) := by
  simp only [toSuspense, judge_of_uncorrectable h.1 h.2]

/-! ### Channels -/

/-- A channel that is there reads as it was changed (06 R110). -/
theorem channel_modChannel {s : State} {a : Nat} {k : Fin 4} {c : Channel} (f : Channel → Channel) (h : s.channel a k = some c) :
    (s.modChannel a k f).channel a k = some (f c) := by
  simp only [State.channel, State.modChannel, State.modLine, Line.entry, Line.modEntry, Option.map_eq_some_iff] at h ⊢
  obtain ⟨e, he, rfl⟩ := h
  have : ((fun x : PollEntry => x.address == a)
      ∘ fun e => if e.address = a then { e with channels := e.channels.set k (f e.channels[k]) } else e) = fun x => x.address == a := by
    funext x; simp only [Function.comp]; split <;> simp
  have ha := List.find?_some he
  simp only [beq_iff_eq] at ha
  rw [List.find?_map, this, he]
  exact ⟨_, rfl, by simp [ha]⟩

/-! ### How the access ends -/

/-- A commit access of a booking in COMMITTING (06 R122, R123). -/
theorem exec_commitAccess {s : State} {g : Grant} {h : InHand} {r : Option Resolution} {st : Bool} (hs : Serves s g .bke)
    (hh : s.bke.inHand = some h) (hp : h.phase = .committing r st) :
    exec (.commitAccess []) s = .next (release (commitEnds g h r s)) := by
  show execCommitAccess [] s = _
  rw [execCommitAccess, storeCommand_nil _ hs.1, bookingAccessEnds_of_serves hs.2.1 hs.2.2.1 hh (by simp [hp, commits])]
  simp [commitWork, hp]

/-- A cycle ends with no booking and no access waiting (06 R118, 08 R163). -/
theorem release_endCycle {t : State} (hq : t.bke.queue = []) (hb : t.rst.arbiter.bkeWaits = false)
    (hr : t.rst.arbiter.rexWaits = false) (hk : t.rst.arbiter.scrubWaits = false) :
    release (endCycle t) = { t with
      bke := { t.bke with inHand := none }, rst := { t.rst with arbiter := { t.rst.arbiter with serving := none } } } := by
  have : endCycle t = { t with bke := { t.bke with inHand := none } } := by simp only [endCycle, hq, takeHeads, State.modBke]
  rw [this, release_of_none_waits] <;> first | rfl | assumption

/-- BKE goes on to another access with none of REX's waiting: it is granted, and takes no stale mark (06 R122, 08 R163). -/
theorem release_setPhase {t : State} {h : InHand} {p : Phase} (hs : t.rst.arbiter.serving.isSome = true)
    (hb : t.rst.arbiter.bkeWaits = false) (hr : t.rst.arbiter.rexWaits = false)
    (hp : ∀ x st, p = .committing (some x) st → st = false) :
    release (request .bke (setPhase h p t)) = bookingContinues t h p := by
  obtain ⟨g, hg⟩ := Option.isSome_iff_exists.1 hs
  have hq : request .bke (setPhase h p t)
      = (setPhase h p t).modRst fun r => { r with arbiter := { r.arbiter with bkeWaits := true } } := by
    simp [request, arbitrate, setPhase, State.modRst, State.modBke, hg]
  have hm : ({ t.bke with inHand := some { h with phase := p } } : Bke).staleCommit = false := by
    simp only [Bke.staleCommit]
    split <;> [exact hp _ _ rfl; rfl]
  rw [hq, release_of_bke_waits rfl (by simpa [setPhase, State.modRst, State.modBke] using hr)]
  simp [setPhase, State.modRst, State.modBke, bookingContinues, hm, hb, hr]

/-- A direct route's resolution of a point (05 R100). -/
theorem routeHit_eq (f : RouteSettings) (p : Nat) :
    routeHit f p = if (f.enabled && decide (f.low ≤ p) && decide (p ≤ f.high) && f.slot.isSome) = true then
      some (.account (f.slot.getD 0) f.barred false .route) else none := by
  unfold routeHit
  cases f.slot <;> simp [and_assoc]

/-- BKE resolves a booking with none of REX's accesses waiting: by a route, by the cache or by a walk (05 R94, R100, 06 R119). -/
theorem release_resolve {s : State} {h : InHand} (hs : s.rst.arbiter.serving.isSome = true)
    (hb : s.rst.arbiter.bkeWaits = false) (hr : s.rst.arbiter.rexWaits = false) : release (resolve h s) = resolvedTo s h := by
  have hc : ∀ r (t : State), t.rst = s.rst → release (conclude h r t) = bookingContinues t h (.committing r false) :=
    fun r t ht => release_setPhase (by rw [ht]; exact hs) (by rw [ht]; exact hb) (by rw [ht]; exact hr) fun _ _ he => by cases he; rfl
  simp only [resolve, resolvedTo, Bke.routed, routeHit_eq, Bke.cached]
  by_cases h0 : (s.bke.routes[0].enabled && decide (s.bke.routes[0].low ≤ h.point) && decide (h.point ≤ s.bke.routes[0].high)
      && s.bke.routes[0].slot.isSome) = true
  · rw [if_pos h0, if_pos h0]
    exact hc _ _ rfl
  rw [if_neg h0, if_neg h0, Option.orElse_none]
  by_cases h1 : (s.bke.routes[1].enabled && decide (s.bke.routes[1].low ≤ h.point) && decide (h.point ≤ s.bke.routes[1].high)
      && s.bke.routes[1].slot.isSome) = true
  · rw [if_pos h1, if_pos h1]
    exact hc _ _ rfl
  rw [if_neg h1, if_neg h1]
  cases he : s.bke.cache.find? fun e => decide (e.point = h.point) with
  | some e =>
    have hp := List.find?_some he
    simp only [decide_eq_true_eq] at hp
    refine (hc _ (s.modBke (·.remember e)) rfl).trans ?_
    simp only [Bke.remember, State.modBke, hp]
    rfl
  | none =>
    cases hroot : (s.district (pointDistrict h.point)).root.table with
    | none => exact hc _ s rfl
    | some t => exact release_setPhase (t := useRoot (pointDistrict h.point) s) hs hb hr fun _ _ he => by cases he

end Sys2Proof.Machine
end

