-- ==== Sys2Proof/Laws/Line.lean ====
section
/-! SUPPORT. What the operations of the line can do (09), said once: the turns touch only what is being sent, and a command placed
on an entry touches only its command. -/

namespace Sys2Proof.Machine

/-! ### Turns -/

/-- An attempt that starts touches only the exchange, the poll being sent and its marks (09 R171). -/
theorem startAttempt_eq (gaveUp : Bool) (e : PollEntry) (single : Bool) (s : State) :
    startAttempt gaveUp e single s = { s with line := { s.line with
      exchange := some ⟨e.address, true, e.command, s.yard.replyWait, single⟩
      tx := pollFrame e.address e.kind e.command
      gaveUp := gaveUp
      lateFrame := false } } := rfl

/-- A turn touches only the positions, the ordinary-turn count, the exchange, the poll being sent and its marks (09 R170). -/
theorem nextTurn_eq (gaveUp : Bool) (s : State) :
    ∃ o f c x tx, nextTurn gaveUp s
      = { s with line := { s.line with
          ordPos := o, fastPos := f, turnCount := c, exchange := x, tx := tx, gaveUp := gaveUp, lateFrame := false } } := by
  unfold nextTurn
  dsimp only
  split
  · exact ⟨_, _, _, _, _, rfl⟩
  · split
    · exact ⟨_, _, _, _, _, rfl⟩
    · split
      · exact ⟨_, _, _, _, _, rfl⟩
      · split <;> exact ⟨_, _, _, _, _, rfl⟩

/-- The next turn of an empty poll list sends nothing new (09 R170). -/
theorem nextTurn_of_empty (gaveUp : Bool) {s : State} (h : s.line.entries = []) :
    nextTurn gaveUp s
      = { s with line := { s.line with exchange := none, tx := [], gaveUp := gaveUp, lateFrame := false } } := by
  simp [nextTurn, chooseClass, h, State.modLine]

/-- A late frame touches only its mark (09 R171). -/
theorem leaveLate_eq (late : Bool) (s : State) :
    leaveLate late s
      = { s with line := { s.line with lateFrame := late && !s.line.tx.isEmpty && decide (s.line.rx ≠ .hunt) } } := rfl

/-- With the receiver in HUNT no frame has begun, so none is late (09 R167). -/
theorem leaveLate_of_hunt (late : Bool) {s : State} (h : s.line.rx = .hunt) : (leaveLate late s).line.lateFrame = false := by
  simp [leaveLate, State.modLine, h]

/-! ### Line status -/

/-- The line's judgement of itself as its entries give it (09 R178). -/
def Line.judged (l : Line) : Bool := !l.entries.isEmpty && l.entries.all fun e => decide (e.state = .silent)

/-- A judgement that stands changes nothing (09 R178). -/
theorem judgeDead_of_same {s : State} (h : s.line.judged = s.line.dead) : judgeDead s = s := by
  unfold judgeDead
  simp only [Line.judged] at h
  rw [if_pos h]

/-- The line comes to life: REX is told (09 R178). -/
theorem judgeDead_of_alive {s : State} (h : s.line.judged = false) (hd : s.line.dead = true) :
    judgeDead s = (s.modLine fun l => { l with dead := false }).send .lineAliveNotice := by
  unfold judgeDead
  simp only [Line.judged] at h
  simp [h, hd]

/-- The line dies: LINE-DEAD is latched and REX is told (09 R178). -/
theorem judgeDead_of_dead {s : State} (h : s.line.judged = true) (hd : s.line.dead = false) :
    judgeDead s
      = (s.modLine fun l => { l with dead := true, latches := { l.latches with lineDead := true } }).send .lineDeadNotice := by
  unfold judgeDead
  simp only [Line.judged] at h
  simp [h, hd]

/-- A judgement touches only the dead mark, the LINE-DEAD latch and the message to REX (09 R178). -/
theorem judgeDead_eq (s : State) :
    ∃ dead latch msgs, judgeDead s
      = { s with
          line := { s.line with dead := dead, latches := { s.line.latches with lineDead := latch } }
          inTransit := s.inTransit ++ msgs } := by
  unfold judgeDead
  dsimp only
  split
  · exact ⟨s.line.dead, s.line.latches.lineDead, [], by simp⟩
  · split
    · exact ⟨true, true, [_], rfl⟩
    · exact ⟨false, s.line.latches.lineDead, [_], rfl⟩

/-! ### Commands on entries -/

/-- Placing a command twice on the same entry leaves the second (09 R174). -/
theorem setCommand_setCommand (s : State) (kind : EntryKind) (link : Link) (c c' : Option Command) :
    (s.setCommand kind link c).setCommand kind link c' = s.setCommand kind link c' := by
  simp only [State.setCommand, State.modLine, Line.modLinked, List.map_map]
  congr 2
  apply List.map_congr_left
  intro e _
  simp only [Function.comp]
  split <;> simp_all

@[simp] theorem setDrive_setDrive (s : State) (h : HolderId) (c c' : Option Drive) :
    (s.setDrive h c).setDrive h c' = s.setDrive h c' := setCommand_setCommand _ _ _ _ _

@[simp] theorem setLoadingCommand_setLoadingCommand (s : State) (d : DistrictId) (c c' : Option Nat) :
    (s.setLoadingCommand d c).setLoadingCommand d c' = s.setLoadingCommand d c' := setCommand_setCommand _ _ _ _ _

/-- The drives and the records of holders do not meet. -/
@[simp] theorem setHolder_setDrive (s : State) (h g : HolderId) (r : Holder) (c : Option Drive) :
    (s.setDrive h c).setHolder g r = (s.setHolder g r).setDrive h c := rfl

/-- The records of holders and the messages do not meet. -/
@[simp] theorem setHolder_send (s : State) (g : HolderId) (r : Holder) (m : Instr) :
    (s.send m).setHolder g r = (s.setHolder g r).send m := rfl

/-- The drives and the messages do not meet. -/
@[simp] theorem setDrive_send (s : State) (h : HolderId) (c : Option Drive) (m : Instr) :
    (s.send m).setDrive h c = (s.setDrive h c).send m := rfl

/-- The linked entry of a kind is found again, with its command, once a command has been placed (09 R174). -/
theorem linked_modLinked (l : Line) (kind : EntryKind) (link : Link) (c : Option Command) (k : EntryKind) (m : Link) :
    (l.modLinked kind link fun e => { e with command := c }).linked k m
      = (l.linked k m).map fun e => if e.kind = kind ∧ e.link = link then { e with command := c } else e := by
  simp only [Line.linked, Line.modLinked, List.find?_map]
  congr 1
  congr 1
  funext e
  simp only [Function.comp]
  split <;> rfl

/-- A holder's crown entry keeps its last values and state when a drive is placed (09 R174). -/
theorem crownEntry_setDrive (s : State) (h g : HolderId) (c : Option Drive) :
    (s.setDrive h c).crownEntry g
      = (s.crownEntry g).map fun e => if e.kind = .crown ∧ e.link = .holder h
          then { e with command := c.map Command.drive } else e := linked_modLinked ..

@[simp] theorem setDrive_yard (s : State) (h : HolderId) (c : Option Drive) : (s.setDrive h c).yard = s.yard := rfl
@[simp] theorem setDrive_holder (s : State) (h g : HolderId) (c : Option Drive) : (s.setDrive h c).holder g = s.holder g := rfl
@[simp] theorem setDrive_district (s : State) (h : HolderId) (d : DistrictId) (c : Option Drive) :
    (s.setDrive h c).district d = s.district d := rfl
@[simp] theorem setDrive_inTransit (s : State) (h : HolderId) (c : Option Drive) :
    (s.setDrive h c).inTransit = s.inTransit := rfl
@[simp] theorem setDrive_rex (s : State) (h : HolderId) (c : Option Drive) : (s.setDrive h c).rex = s.rex := rfl
@[simp] theorem setLoadingCommand_yard (s : State) (d : DistrictId) (c : Option Nat) :
    (s.setLoadingCommand d c).yard = s.yard := rfl
@[simp] theorem setLoadingCommand_district (s : State) (d e : DistrictId) (c : Option Nat) :
    (s.setLoadingCommand d c).district e = s.district e := rfl
@[simp] theorem setLoadingCommand_view (s : State) (d : DistrictId) (h : HolderId) (c : Option Nat) :
    (s.setLoadingCommand d c).view h = s.view h := rfl
@[simp] theorem setLoadingCommand_holder (s : State) (d : DistrictId) (h : HolderId) (c : Option Nat) :
    (s.setLoadingCommand d c).holder h = s.holder h := rfl
@[simp] theorem setLoadingCommand_rex (s : State) (d : DistrictId) (c : Option Nat) :
    (s.setLoadingCommand d c).rex = s.rex := rfl

/-! ### Links -/

/-- A link that changes touches only the entries: the one before is released with its command, the one named is linked (02 R19,
04 R63). -/
theorem relink_entries {l : Line} {kind : EntryKind} {link : Link} {named : Option Nat}
    (h : (l.linked kind link).map (·.address) ≠ named) :
    l.relink kind link named = { l with
      entries := l.entries.map fun e =>
        let x := if e.kind = kind ∧ e.link = link then { e with link := .none, command := none, handed := false } else e
        if named = some e.address then { x with link := link, handed := false } else x } := by
  unfold Line.relink
  rw [if_neg h]
  cases named with
  | none => simp [Line.release, Line.modLinked]
  | some a =>
    simp only [Line.release, Line.modLinked, Line.modEntry, List.map_map]
    congr 1
    apply List.map_congr_left
    intro e _
    have ha : (if e.kind = kind ∧ e.link = link then { e with link := .none, command := none, handed := false } else e).address
        = e.address := by split <;> rfl
    simp only [Function.comp, ha]
    by_cases h : a = e.address <;> simp [h, eq_comm]

/-- A link to the entry linked already changes nothing (02 R19, 04 R63). -/
theorem relink_of_same {l : Line} {kind : EntryKind} {link : Link} {named : Option Nat}
    (h : (l.linked kind link).map (·.address) = named) : l.relink kind link named = l := by
  simp [Line.relink, h]

/-- In a list with no two entries of one address, an entry of an address is the one that polls it (09 R168). -/
theorem entry_unique {l : Line} {a : Nat} {e x : PollEntry} (h : (l.entries.map (·.address)).Nodup) (he : l.entry a = some e)
    (hx : x ∈ l.entries) (ha : x.address = a) : x = e :=
  List.inj_on_of_nodup_map h hx (List.mem_of_find?_eq_some he) (by have := List.find?_some he; simp only [beq_iff_eq] at this; exact ha.trans this.symm)

/-! ### The poll list -/

/-- Changing one entry keeps every address. -/
@[simp] theorem modEntry_addresses (l : Line) (a : Nat) (f : PollEntry → PollEntry) (h : ∀ e, (f e).address = e.address) :
    (l.modEntry a f).entries.map (·.address) = l.entries.map (·.address) := by
  simp only [Line.modEntry, List.map_map]
  apply List.map_congr_left
  intro e _
  simp only [Function.comp]
  split <;> simp [h]

/-- Changing the linked entries keeps every address. -/
@[simp] theorem modLinked_addresses (l : Line) (k : EntryKind) (m : Link) (f : PollEntry → PollEntry)
    (h : ∀ e, (f e).address = e.address) : (l.modLinked k m f).entries.map (·.address) = l.entries.map (·.address) := by
  simp only [Line.modLinked, List.map_map]
  apply List.map_congr_left
  intro e _
  simp only [Function.comp]
  split <;> simp [h]

end Sys2Proof.Machine
end

