-- ==== Sys2Proof/Laws/PerInstr.lean ====
section
/-! SUPPORT. A statement of the commands as syntax, with one lemma per constructor: the frame of a well-formed request command is
one the link receiver admits. -/

namespace Sys2Proof.Laws.FrameAdmitted

open Sys2Proof.Machine

/-- The body of a well-formed request command's frame is its header of four bytes and at most 128 field bytes, and its length
bytes tell how many (11 R191, "Link request frame"). -/
def Statement (i : Instr) : Prop :=
  i.wellFormed = true → ∀ tag r, i.request = some (tag, r) →
    (requestBody tag r).length = 4 + (fieldBytes r.fields).length ∧ (fieldBytes r.fields).length ≤ linkForm.maxLength
      ∧ linkForm.length (requestBody tag r) = (fieldBytes r.fields).length

/-- A well-formed request has at most 128 field bytes. -/
theorem fields_length_of_wellFormed {r : Request} (h : r.wellFormed = true) : (fieldBytes r.fields).length ≤ 128 := by
  cases r <;> simp_all [Request.wellFormed]

/-- Two length bytes give back a length of at most 128. -/
theorem length_bytes : ∀ n ≤ 128, bytesNum (numBytes 2 n) = n := by decide

/-- The statement holds of every command. -/
theorem all (i : Instr) : Statement i := by
  intro hw tag r hr
  have hr' : r.wellFormed = true := by simpa [Instr.wellFormed, hr] using hw
  have hl := fields_length_of_wellFormed hr'
  refine ⟨by simp [requestBody, numBytes]; omega, hl, ?_⟩
  have := length_bytes _ hl
  simpa [Form.length, requestBody, linkForm, numBytes] using this

theorem powerOn : ∀ a0 a1, Statement (.powerOn a0 a1) := fun _ _ => all _
theorem supplyFail : Statement .supplyFail := all _
theorem linkFrame : ∀ a0, Statement (.linkFrame a0) := fun _ => all _
theorem responseSent : Statement .responseSent := all _
theorem yardReset : ∀ a0, Statement (.yardReset a0) := fun _ => all _
theorem lineReset : ∀ a0, Statement (.lineReset a0) := fun _ => all _
theorem yardHold : ∀ a0, Statement (.yardHold a0) := fun _ => all _
theorem stop : ∀ a0 a1, Statement (.stop a0 a1) := fun _ _ => all _
theorem isolate : ∀ a0 a1, Statement (.isolate a0 a1) := fun _ _ => all _
theorem setYard : ∀ a0 a1, Statement (.setYard a0 a1) := fun _ _ => all _
theorem setHolder : ∀ a0 a1 a2, Statement (.setHolder a0 a1 a2) := fun _ _ _ => all _
theorem setDistrictStations : ∀ a0 a1 a2 a3, Statement (.setDistrictStations a0 a1 a2 a3) := fun _ _ _ _ => all _
theorem setOutstation : ∀ a0 a1 a2 a3 a4, Statement (.setOutstation a0 a1 a2 a3 a4) := fun _ _ _ _ _ => all _
theorem setChannel : ∀ a0 a1 a2 a3 a4 a5 a6, Statement (.setChannel a0 a1 a2 a3 a4 a5 a6) := fun _ _ _ _ _ _ _ => all _
theorem order : ∀ a0 a1 a2 a3 a4 a5, Statement (.order a0 a1 a2 a3 a4 a5) := fun _ _ _ _ _ _ => all _
theorem repeatOrder : ∀ a0 a1, Statement (.repeatOrder a0 a1) := fun _ _ => all _
theorem returnHolder : ∀ a0 a1, Statement (.returnHolder a0 a1) := fun _ _ => all _
theorem setDistrict : ∀ a0 a1 a2, Statement (.setDistrict a0 a1 a2) := fun _ _ _ => all _
theorem districtIn : ∀ a0 a1, Statement (.districtIn a0 a1) := fun _ _ => all _
theorem districtOut : ∀ a0 a1, Statement (.districtOut a0 a1) := fun _ _ => all _
theorem districtRestore : ∀ a0 a1, Statement (.districtRestore a0 a1) := fun _ _ => all _
theorem setClock : ∀ a0 a1 a2, Statement (.setClock a0 a1 a2) := fun _ _ _ => all _
theorem mapPoint : ∀ a0 a1 a2 a3 a4, Statement (.mapPoint a0 a1 a2 a3 a4) := fun _ _ _ _ _ => all _
theorem linkPoint : ∀ a0 a1 a2, Statement (.linkPoint a0 a1 a2) := fun _ _ _ => all _
theorem unmapPoint : ∀ a0 a1, Statement (.unmapPoint a0 a1) := fun _ _ => all _
theorem bar : ∀ a0 a1 a2, Statement (.bar a0 a1 a2) := fun _ _ _ => all _
theorem unbar : ∀ a0 a1 a2, Statement (.unbar a0 a1 a2) := fun _ _ _ => all _
theorem setRoute : ∀ a0 a1 a2, Statement (.setRoute a0 a1 a2) := fun _ _ _ => all _
theorem lookPoint : ∀ a0 a1 a2, Statement (.lookPoint a0 a1 a2) := fun _ _ _ => all _
theorem openAccount : ∀ a0 a1 a2 a3, Statement (.openAccount a0 a1 a2 a3) := fun _ _ _ _ => all _
theorem closeAccount : ∀ a0 a1, Statement (.closeAccount a0 a1) := fun _ _ => all _
theorem reopenAccount : ∀ a0 a1, Statement (.reopenAccount a0 a1) := fun _ _ => all _
theorem retireAccount : ∀ a0 a1, Statement (.retireAccount a0 a1) := fun _ _ => all _
theorem restoreAccount : ∀ a0 a1 a2, Statement (.restoreAccount a0 a1 a2) := fun _ _ _ => all _
theorem adjust : ∀ a0 a1 a2 a3 a4, Statement (.adjust a0 a1 a2 a3 a4) := fun _ _ _ _ _ => all _
theorem closePeriod : ∀ a0, Statement (.closePeriod a0) := fun _ => all _
theorem lookHolder : ∀ a0 a1, Statement (.lookHolder a0 a1) := fun _ _ => all _
theorem lookDistrict : ∀ a0 a1, Statement (.lookDistrict a0 a1) := fun _ _ => all _
theorem lookAccount : ∀ a0 a1, Statement (.lookAccount a0 a1) := fun _ _ => all _
theorem lookBalance : ∀ a0, Statement (.lookBalance a0) := fun _ => all _
theorem lookBookingEngine : ∀ a0, Statement (.lookBookingEngine a0) := fun _ => all _
theorem lookStore : ∀ a0, Statement (.lookStore a0) := fun _ => all _
theorem lookLine : ∀ a0 a1, Statement (.lookLine a0 a1) := fun _ _ => all _
theorem lookYard : ∀ a0, Statement (.lookYard a0) := fun _ => all _
theorem lookLink : ∀ a0, Statement (.lookLink a0) := fun _ => all _
theorem readAttention : ∀ a0, Statement (.readAttention a0) := fun _ => all _
theorem ack : ∀ a0 a1, Statement (.ack a0 a1) := fun _ _ => all _
theorem work : ∀ a0, Statement (.work a0) := fun _ => all _
theorem setup : ∀ a0, Statement (.setup a0) := fun _ => all _
theorem resume : ∀ a0, Statement (.resume a0) := fun _ => all _
theorem pollSent : Statement .pollSent := all _
theorem lineFrameEnd : ∀ a0, Statement (.lineFrameEnd a0) := fun _ => all _
theorem replyWaitExpiry : Statement .replyWaitExpiry := all _
theorem lineDeadNotice : Statement .lineDeadNotice := all _
theorem lineAliveNotice : Statement .lineAliveNotice := all _
theorem crownReply : ∀ a0 a1, Statement (.crownReply a0 a1) := fun _ _ => all _
theorem moveTimerExpiry : ∀ a0, Statement (.moveTimerExpiry a0) := fun _ => all _
theorem crownSilentNotice : ∀ a0, Statement (.crownSilentNotice a0) := fun _ => all _
theorem automaticDraw : ∀ a0 a1, Statement (.automaticDraw a0 a1) := fun _ _ => all _
theorem autoJoinAnswer : ∀ a0 a1 a2, Statement (.autoJoinAnswer a0 a1 a2) := fun _ _ _ => all _
theorem holderValuesNotice : ∀ a0, Statement (.holderValuesNotice a0) := fun _ => all _
theorem joinPendingNotice : ∀ a0 a1, Statement (.joinPendingNotice a0 a1) := fun _ _ => all _
theorem joinNotice : ∀ a0 a1, Statement (.joinNotice a0 a1) := fun _ _ => all _
theorem leaveNotice : ∀ a0, Statement (.leaveNotice a0) := fun _ => all _
theorem withdrawPendingNotice : ∀ a0 a1, Statement (.withdrawPendingNotice a0 a1) := fun _ _ => all _
theorem removeNotice : ∀ a0, Statement (.removeNotice a0) := fun _ => all _
theorem standingNotice : ∀ a0, Statement (.standingNotice a0) := fun _ => all _
theorem minuteEvent : Statement .minuteEvent := all _
theorem governorReply : ∀ a0 a1, Statement (.governorReply a0 a1) := fun _ _ => all _
theorem telltaleReply : ∀ a0 a1, Statement (.telltaleReply a0 a1) := fun _ _ => all _
theorem governorSilentNotice : ∀ a0, Statement (.governorSilentNotice a0) := fun _ => all _
theorem telltaleSilentNotice : ∀ a0, Statement (.telltaleSilentNotice a0) := fun _ => all _
theorem barometerReply : ∀ a0, Statement (.barometerReply a0) := fun _ => all _
theorem meterReply : ∀ a0 a1, Statement (.meterReply a0 a1) := fun _ _ => all _
theorem walkTableRead : ∀ a0, Statement (.walkTableRead a0) := fun _ => all _
theorem walkFlagAccess : ∀ a0, Statement (.walkFlagAccess a0) := fun _ => all _
theorem commitAccess : ∀ a0, Statement (.commitAccess a0) := fun _ => all _
theorem bookedFlagAccess : ∀ a0, Statement (.bookedFlagAccess a0) := fun _ => all _
theorem directoryAccessEnd : ∀ a0, Statement (.directoryAccessEnd a0) := fun _ => all _
theorem accountRequestAccess : ∀ a0, Statement (.accountRequestAccess a0) := fun _ => all _
theorem retireScanRead : ∀ a0, Statement (.retireScanRead a0) := fun _ => all _
theorem retireFinalAccess : ∀ a0, Statement (.retireFinalAccess a0) := fun _ => all _
theorem closeScanAccess : ∀ a0, Statement (.closeScanAccess a0) := fun _ => all _
theorem bookedPassAccess : ∀ a0, Statement (.bookedPassAccess a0) := fun _ => all _
theorem balanceRead : ∀ a0, Statement (.balanceRead a0) := fun _ => all _
theorem lookPointRead : ∀ a0, Statement (.lookPointRead a0) := fun _ => all _
theorem scrubTimerExpiry : Statement .scrubTimerExpiry := all _
theorem scrubCheck : ∀ a0, Statement (.scrubCheck a0) := fun _ => all _
theorem retireCheckAccess : ∀ a0, Statement (.retireCheckAccess a0) := fun _ => all _

end Sys2Proof.Laws.FrameAdmitted
end

