-- ==== Sys2Proof/Tests/Slice0.lean ====
section
/-! SUPPORT. Tests: the well-formedness smoke, values worked in the spec, and for each statement with hypotheses a witness that they
can be met. Expected values are the spec's own (01, "Worked case"; 02 and 04, "Worked sequence"), each named at its test. -/

namespace Sys2Proof.Tests

open Sys2Proof Sys2Proof.Machine Sys2Proof.Safety

-- one theorem after another: a hundred kernel evaluations waiting side by side would each hold a thread
set_option Elab.async false

/-! ### Well-formedness: each check refuses an ill-formed term -/

theorem smoke_byte_too_wide : (Instr.stop 1 256).wellFormed = false ∧ (Instr.stop 1 255).wellFormed = true := by decide
theorem smoke_word_too_wide : (Instr.setClock 1 65536 0).wellFormed = false ∧ (Instr.setClock 1 65535 0).wellFormed = true := by
  decide
theorem smoke_volume_too_wide : (Instr.adjust 1 0 1 (2 ^ 40) 0).wellFormed = false := by decide
theorem smoke_count_too_big :
    (Instr.setDistrict 1 0 ⟨none, none, none, none, none, none, none, none, none, some (List.replicate 256 0)⟩).wellFormed = false := by
  decide +kernel
theorem smoke_fields_too_long :
    (Instr.setHolder 1 0 ⟨true, List.replicate 25 ⟨1, 1, 1⟩, 0, 0, 0, 0, none, none⟩).wellFormed = false := by decide +kernel
theorem smoke_out_of_range : (Request.outOfRange 0x01).wellFormed = false := by decide
theorem smoke_crown_height : (Instr.crownReply 0 ⟨65536, 0, false, false, false, false, false, false⟩).wellFormed = false := by decide
theorem smoke_crown_temperature : (Instr.crownReply 0 ⟨0, 32768, false, false, false, false, false, false⟩).wellFormed = false := by
  decide
theorem smoke_meter_count : (Instr.meterReply 1 ⟨0, 0, #v[0, 0, 0, 65536]⟩).wellFormed = false := by decide
theorem smoke_meter_address : (Instr.meterReply 63 ⟨0, 0, #v[0, 0, 0, 0]⟩).wellFormed = false
    ∧ (Instr.meterReply 0 ⟨0, 0, #v[0, 0, 0, 0]⟩).wellFormed = false := by decide
theorem smoke_governor_echo : (Instr.governorReply 0 ⟨0, some 0, false⟩).wellFormed = false := by decide
theorem smoke_telltale_pressure : (Instr.telltaleReply 0 65536).wellFormed = false := by decide
theorem smoke_barometer_value : (Instr.barometerReply 65536).wellFormed = false := by decide
theorem smoke_notice_pressure : (Instr.holderValuesNotice ⟨0, true, 601, none, false, false⟩).wellFormed = false := by decide
theorem smoke_flaw_slot : (Instr.scrubCheck [⟨344, 1⟩]).wellFormed = false ∧ (Instr.scrubCheck [⟨343, 1⟩]).wellFormed = true := by
  decide

/-! ### Small states and helpers -/

/-- The state a command leaves. -/
def next (i : Instr) (s : State) : State :=
  match exec i s with
  | .next t => t
  | .fault _ => s
  | .refused _ => s

/-- The results of the responses queued. -/
def results (s : State) : List Result := s.rex.responses.map (·.result)

/-- A state just after a fresh start, in the mode given. -/
def inMode (m : Mode) : State := { State.reset with yard := { Yard.starting with mode := m } }

/-- The holder of 01, "Worked case: a holder's stock". -/
def workedHolder : Holder := { Holder.unfitted with
  fitted := true, lifts := [⟨4000, 3000, 45⟩, ⟨4400, 3000, 60⟩, ⟨4800, 3000, 75⟩], landed := 20000, lowStop := 500, topStop := 8800
  maxStep := 200, height := 4250, temp := 450, stage := 2, stagePressure := 60, gv := 195000, stock := 203206, state := .standing
  answering := true }

/-- A poll entry that has answered, linked as given. -/
def entry (address : Nat) (kind : EntryKind) (link : Link) : PollEntry :=
  { newEntry address kind 3 with link := link, state := .answering }

/-- The poll list of a state replaced. -/
def withEntries (es : List PollEntry) (s : State) : State := { s with line := { s.line with entries := es } }

/-- H2 as given, with a crown station, in a WORKING yard. -/
def yardOf (r : Holder) : State := withEntries [entry 5 .crown (.holder 2)] ((inMode .working).setHolder 2 r)

/-! ### Values worked in the spec -/

-- 01, "Worked case: a meter booking"
theorem test_factor_of_the_meter_booking : correction 2992 60 450 = 68294 := by decide
theorem test_two_bookings_make_a_therm :
    ((Account.suspense 0).add 6829400 3414700000 false).bind (fun a => (a.add 6829400 3414700000 false).map
      fun b => ([a.volume, a.volumeRes, a.heat, a.heatRes], [b.volume, b.volumeRes, b.heat, b.heatRes, b.bookings, b.clampedBookings]))
      = some ([104, 13656, 0, 3414700000], [208, 27312, 1, 275800000, 2, 0]) := by decide
theorem test_booking_clamped_by_temperature : bookingClamped 2992 60 1250 = true ∧ absTemp (clampTemp 1250) = 5797 := by decide
-- 01, "Worked case: diversion at a full account"
theorem test_full_account_takes_no_booking :
    ({ Account.suspense 0 with volume := 1099511627700, volumeRes := 60000 }).add 81952800 0 false = none := by decide
-- 01, "Worked case: a holder's stock"
theorem test_volume_and_stage_at_the_worked_heights :
    [0, 3000, 3001, 4250, 6000, 9000].map (fun h =>
        let r := ({ workedHolder with height := h }).recompute 2992
        (r.gv, r.stage, r.stagePressure))
      = [(20000, 0, 0), (140000, 1, 45), (140044, 2, 60), (195000, 2, 60), (272000, 2, 60), (416000, 3, 75)] := by decide
theorem test_stock_at_4250_and_3000 :
    (workedHolder.recompute 2992).stock = 203206 ∧ (({ workedHolder with height := 3000 }).recompute 2992).stock = 145362 := by decide
theorem test_shorter_stroke_clamps_the_stock :
    let r := ({ workedHolder with
      lifts := [⟨4000, 3000, 45⟩, ⟨4400, 3000, 60⟩, ⟨4800, 1000, 75⟩], height := 9000 }).recompute 2992
    r.gv = 320000 ∧ r.stage = 3 ∧ r.stockClamped = true := by decide

/-- H2 FILLING under a FILL with no quantity (02, "Worked sequence"). -/
def filling : State := yardOf { workedHolder with
  state := .filling, inletIntent := .opened, active := some ⟨.fill, none, none, .stand, false⟩, provedInlet := .opened
  provedOutlet := .closed }

/-- A crown reply of 02, "Worked sequence", at a height. -/
def reply (height : Nat) : Instr := .crownReply 2 ⟨height, 450, true, false, false, true, false, false⟩

-- 02, "Worked sequence: a crown jump, a silence and a return"
theorem test_plausible_reply_moves_the_stock :
    let r := (next (reply 4300) filling).holder 2
    r.height = 4300 ∧ r.stock = 205499 ∧ r.jump = none := by decide +kernel
theorem test_implausible_reply_raises_the_candidate :
    let r := (next (reply 6150) (filling.modHolder 2 fun r => { r with jump := some ⟨6100, 1⟩ })).holder 2
    r.height = 4250 ∧ r.stock = 203206 ∧ r.jump = some ⟨6150, 2⟩ := by decide +kernel
theorem test_return_accepts_the_jump :
    let r := (next (reply 6180) (filling.modHolder 2 fun r => { r with
      height := 4300, jump := some ⟨6150, 2⟩, answering := false, latches := { r.latches with crownSilent := true } })).holder 2
    r.height = 6180 ∧ r.stock = 293508 ∧ r.stagePressure = 75 ∧ r.jump = none
      ∧ r.latches = { HolderLatches.clear with crownSilent := true, crownReturned := true, crownJump := true } := by decide +kernel

/-- D5 SERVING from H2 (04, "Worked sequence: an evening peak in a high district"). -/
def peak : State :=
  let s := inMode .working
  let s := s.modYard fun y => { y with minute := 1019 }
  let s := s.modDistrict 5 fun r => { r with
    schedule := [⟨360, 35⟩, ⟨1020, 50⟩, ⟨1320, 30⟩], floor := 25, ceiling := 80, drop := 10, ttMin := 20, ttBand := 6, ttStep := 3
    compMax := 12, autoJoin := true, standby := [3, 0], state := .serving, comp := 3, setPoint := 35, loading := 38
    acked := some 38, required := 48, feeds := [2], available := 60 }
  let s := s.setHolder 2 { workedHolder with state := .drawing, outletIntent := .opened }
  let s := s.setHolder 3 { workedHolder with stagePressure := 50 }
  let s := s.setHolder 0 { workedHolder with stagePressure := 75 }
  let s := ((s.setView 2 ⟨true, 60⟩).setView 3 ⟨true, 50⟩).setView 0 ⟨true, 75⟩
  withEntries [entry 21 .governor (.district 5), entry 22 .telltale (.district 5), entry 5 .crown (.holder 2),
    entry 6 .crown (.holder 3), entry 7 .crown (.holder 0)] s

theorem test_minute_raises_the_loading_and_starts_a_join :
    let s := next .minuteEvent peak
    let r := s.district 5
    (r.setPoint, r.loading, r.inFlight, r.acked, r.required) = (50, 53, some 53, some 38, 63) ∧ r.state = .short
      ∧ s.attempt = some ⟨5, 0⟩ := by decide +kernel
-- the same sequence, events 4 and 6
theorem test_low_telltale_raises_the_compensation :
    let r := (next (.telltaleReply 5 16) (peak.modDistrict 5 fun r => { r with
      setPoint := 50, loading := 53, acked := some 53, required := 63, state := .short })).district 5
    (r.comp, r.loading, r.inFlight, r.required) = (6, 56, some 56, 66) ∧ r.latches.telltaleLow = true := by decide +kernel
theorem test_join_notice_brings_the_district_back :
    let r := (next (.joinNotice ⟨0, true, 75, none, false, false⟩ 5) (peak.modDistrict 5 fun r => { r with
      comp := 6, setPoint := 50, loading := 56, required := 66, available := 45, state := .short, pendingJoins := [0]
      joinInHand := some 0 })).district 5
    r.feeds = [2, 0] ∧ r.pendingJoins = [] ∧ r.available = 75 ∧ r.state = .serving ∧ r.joinInHand = none := by decide +kernel

/-- The store of 05, "Worked sequence: building, using and clearing a main", after its step 2, with main table 0 and point table 0
in the place of tables 7 and 12: point 1191 leads to slot 40, point 1200 to slot 41. -/
def mapped : State :=
  let a : Account := { Account.suspense 0 with kind := some .receipt }
  let s := (inMode .working).modDistrict 2 fun r => { r with root := ⟨some 0, false, false⟩ }
  s.modRst fun r => { ((((r.putAccount 40 a).putAccount 41 a).putDesc 0 5 ⟨some 0, false, false⟩).putLeaf 0 7
      ⟨.account 40, false, false, false, false⟩).putLeaf 0 16 ⟨.account 41, false, false, false, true⟩ with
    mainAlloc := [(0, some ⟨2, false⟩)], pointAlloc := [(0, some ⟨0, 5, false⟩)], freeMains := List.range' 1 23
    freePoints := List.range' 1 63 }

-- 05, "Worked sequence": the three points' places, and the accesses a MAP-POINT over whole tables makes
theorem test_places_of_the_worked_points :
    [1191, 1200, 1210].map (fun p => ((pointDistrict p).val, mainIndex p, pointIndex p)) = [(2, 5, 7), (2, 5, 16), (2, 5, 26)] := by
  decide
theorem test_tables_stand_at_the_worked_slots : mainSlot 7 = 263 ∧ pointSlot 12 = 292 := by decide

/-- A booking of a state's BKE in hand in a phase, its access being served (06, "Worked sequence"). -/
def booking (p : Phase) (s : State) : State :=
  { s with
    bke := { s.bke with inHand := some ⟨30, 2, 4001, 60, 450, 1210, 100, 500, 1, p⟩ }
    rst := { s.rst with arbiter := { s.rst.arbiter with serving := some ⟨.bke, 0, 2992, 500, false⟩ } } }

-- 06, "Worked sequence: a booking through a walk, the cache and suspense", event 5
theorem test_commit_adds_the_worked_booking :
    let own : LeafRef := ⟨0, 26, .indirect 1191⟩
    let s := next (.commitAccess []) (booking (.committing (some (.account 40 false false (.walk own))) false) mapped)
    let a := s.rst.account 40
    (a.volume, a.volumeRes, a.heat, a.heatRes, a.bookings) = (104, 13656, 0, 3414700000, 1)
      ∧ (s.bke.inHand.map (·.phase)) = some (.marking 40 false own) := by decide +kernel

-- 09 R166 and 11, "Link request frame": YARD-HOLD of tag 14 has the check 14 + 2 * 114 = 242, whose byte F2h goes out as F3h 0Dh
theorem test_frame_of_yard_hold : requestFrame 14 .yardHold = [0xF1, 0x0E, 0x72, 0x00, 0x00, 0x00, 0xF3, 0x0D, 0xF2] := by
  decide +kernel
theorem test_yard_hold_frame_enters_hold :
    (next (.linkFrame [0xF1, 0x0E, 0x72, 0x00, 0x00, 0x00, 0xF3, 0x0D, 0xF2]) (inMode .working)).yard.mode = .hold := by
  decide +kernel
theorem test_frame_without_start_is_discarded :
    next (.linkFrame [0x0E, 0x72, 0x00, 0x00, 0x00, 0xF3, 0x0D, 0xF2]) State.reset = State.reset := by decide +kernel
theorem test_hold_in_setup_is_wrong_state : results (next (.yardHold 1) State.reset) = [.wrongState] := by decide +kernel
-- 11 R201 and log entry 11: a length that some SET-YARD has, which the frame's own presence bytes do not call for
theorem test_length_of_another_form_is_range :
    decodeRequest 0x01 [0, 0, 0, 0, 0, 0, 0, 0] = some (.outOfRange 0x01)
      ∧ decodeRequest 0x01 [0, 0, 0, 0, 0, 0, 0] = some (.setYard ⟨none, none, none, none, none, none, none⟩)
      ∧ decodeRequest 0x01 [0, 0, 0, 0, 0, 0] = none := by decide +kernel
theorem test_no_word_spells_a_command : decodeTableWord 8 0x10 = none := rfl

/-! ### Witnesses: for each statement with hypotheses, a state and operands that meet them, at the ends of their ranges -/

/-- A state with every bounded list at its bound: the booking queue and cache, the request stack and the responses, the poll list and a
NEXT order; the loading of D0 stands at the ceiling, in flight, at the last minute of the day. -/
def full : State :=
  let s := (inMode .working).setHolder 2 { workedHolder with
    active := some ⟨.fill, none, none, .stand, false⟩, next := some ⟨.stand, none, none, .stand, false⟩ }
  let s := s.modDistrict 0 fun r => { r with state := .starved, setPoint := 150, loading := 150, required := 150, inFlight := some 150 }
  { s with
    yard := { s.yard with minute := 1439 }
    bke := { s.bke with
      queue := (List.range 16).map fun n => ⟨n + 1, 3, 65535, 600, 450⟩
      cache := (List.range 16).map fun n => ⟨n, 40, false, false⟩ }
    rex := { s.rex with
      stack := [⟨1, .closePeriod, true⟩, ⟨2, .lookYard, false⟩], work := some (.closeScan 0 Sums.zero)
      responses := List.replicate 4 ⟨3, 0x72, .done, []⟩ }
    line := { s.line with entries := (List.range 48).map fun n => newEntry (n + 1) .meter 1 }
    pending := [.responseSent, .supplyFail] }

theorem witness_StepRunsTheFrontCommand :
    full.pending = .responseSent :: [.supplyFail] ∧ State.reset.pending = [] := ⟨rfl, rfl⟩
theorem witness_BookingQueueAndCacheStayBounded : queueSound full.bke = true ∧ ∃ t, step full = .next t :=
  ⟨by decide +kernel, _, rfl⟩
theorem witness_StackAndResponsesStayBounded : linkSound full.rex = true ∧ ∃ t, step full = .next t := ⟨by decide +kernel, _, rfl⟩
theorem witness_StoreStaysCanonical : storesSound { mapped with pending := [.scrubCheck []] }.rst = true
    ∧ ∃ t, step { mapped with pending := [.scrubCheck []] } = .next t := ⟨by decide +kernel, _, rfl⟩
theorem witness_NextOrderStandsBehindAnActiveOne : ordersSound full.holders = true ∧ ∃ t, step full = .next t :=
  ⟨by decide +kernel, _, rfl⟩
theorem witness_LoadingsStayWithinTheirLimits :
    loadingsSound full.districts = true ∧ clockSound full.yard = true ∧ ∃ t, step full = .next t :=
  ⟨by decide +kernel, by decide +kernel, _, rfl⟩
theorem witness_PollListStaysSound : pollSound full.line = true ∧ ∃ t, step full = .next t := ⟨by decide +kernel, _, rfl⟩

/-- SET-DISTRICT with every field present at the top of what its bytes hold. -/
def widest : Request := .setDistrict 255 ⟨some (List.replicate 6 ⟨65535, 255⟩), some 255, some 255, some 255, some 255, some 255,
  some 255, some 255, some true, some [255, 255, 255]⟩

theorem witness_RequestFieldsDecode :
    widest.wellFormed = true ∧ (Request.adjust 255 0 1099511627775 4294967295).wellFormed = true
      ∧ Request.yardReset.wellFormed = true := by decide +kernel
theorem witness_LinkFrameRunsItsRequest :
    Instr.request (.setClock 0xF2 65535 0) = some (0xF2, .setClock 65535 0) ∧ (Instr.setClock 0xF2 65535 0).wellFormed = true
      ∧ full.rex.rx = .hunt := by decide +kernel
theorem witness_LinkFramesInErrorAreCounted :
    full.running = true ∧ full.rex.rx = .hunt ∧ isSpecial 0xF0 = false ∧ isSpecial 0xF5 = false ∧ 4 ≤ full.rex.responses.length
      ∧ (∃ r rest, full.rex.responses = r :: rest) ∧ State.reset.running = true ∧ State.reset.rex.rx = .hunt
      ∧ State.reset.rex.responses.length < 4 ∧ State.reset.rex.responses = [] :=
  ⟨rfl, rfl, by decide, by decide, by decide, ⟨_, _, rfl⟩, rfl, rfl, by decide, rfl⟩

/-- A state whose response queue has room for one more frame, with the stack given. -/
def stacked (stack : List Stacked) : State :=
  { inMode .working with rex := { Rex.empty with
      stack := stack, work := some (.closeScan 0 Sums.zero), responses := List.replicate 3 ⟨3, 0x72, .done, []⟩ } }

theorem witness_RequestsAreHeldOrTurnedAway :
    Instr.request (.resume 1) = some (1, .resume) ∧ (Instr.resume 1).wellFormed = true ∧ full.running = true
      ∧ 4 ≤ full.rex.responses.length ∧ isImmediate .resume = false
      ∧ (stacked [⟨1, .closePeriod, true⟩, ⟨2, .lookYard, false⟩]).running = true
      ∧ (stacked [⟨1, .closePeriod, true⟩, ⟨2, .lookYard, false⟩]).rex.responses.length < 4
      ∧ 2 ≤ (stacked [⟨1, .closePeriod, true⟩, ⟨2, .lookYard, false⟩]).rex.stack.length
      ∧ (stacked [⟨1, .closePeriod, true⟩]).rex.stack = [⟨1, .closePeriod, true⟩]
      ∧ Ready (inMode .working) ∧ Request.code .resume = 0x62 ∧ (inMode .working).yard.mode ≠ .hold
      ∧ (Instr.setYard 1 ⟨none, none, none, none, none, none, none⟩).wellFormed = true
      ∧ (Request.setYard ⟨none, none, none, none, none, none, none⟩).code.toNat = 1 ∧ (Request.setChannel 0 0 true 0 0 0).code.toNat = 5
      ∧ (Request.repeatOrder 0).code = 0x11 ∧ State.reset.yard.mode ≠ .working := by decide +kernel
theorem witness_DistrustedPowerOnStartsAfresh :
    { full with running := false }.running = false ∧ full.running = true ∧ (true = true ∨ StateFlaw.none = .uncorrectable)
      ∧ (false = true ∨ StateFlaw.uncorrectable = .uncorrectable) := by decide +kernel
theorem witness_TrustedPowerOnKeepsTheBackedState :
    { full with running := false }.running = false ∧ StateFlaw.correctable ≠ .uncorrectable ∧ StateFlaw.none ≠ .uncorrectable := by
  decide
theorem witness_YardResetAbortsTheStack :
    Takes (stacked [⟨1, .closePeriod, true⟩, ⟨2, .lookYard, false⟩])
      ∧ (stacked [⟨1, .closePeriod, true⟩, ⟨2, .lookYard, false⟩]).rst.arbiter.serving = none := by decide
theorem witness_SupplyFailStopsThePart :
    full.running = true ∧ full.rst.arbiter.serving = none ∧ { full with running := false }.running = false
      ∧ storeFlaws (.scrubCheck [⟨343, 1⟩]) = some [⟨343, 1⟩] ∧ storeFlaws (.resume 1) = none ∧ Instr.resume 1 ≠ .minuteEvent
      ∧ ∀ low found, Instr.resume 1 ≠ .powerOn low found := by
  refine ⟨rfl, rfl, rfl, rfl, rfl, by decide, fun _ _ h => ?_⟩
  cases h
theorem witness_YardHoldEntersHoldFromWorking :
    ∀ m ∈ [Mode.working, .hold, .setup], Takes (inMode m) ∧ (inMode m).yard.mode = m := by decide
theorem witness_LineResetMakesEveryEntryUntried : Takes (stacked []) ∧ (yardOf workedHolder).line.entries ≠ [] := by decide +kernel
theorem witness_StopEmptiesTheOrderStack :
    Takes filling ∧ (filling.holder 2).fitted = true ∧ (filling.holder 5).fitted = false ∧ 6 ≤ 6 := by decide +kernel

/-- H2 in the state given with its valves as intended, both proved CLOSED. -/
def holderIn (st : HolderState) (inlet outlet : Valve) : Holder := { workedHolder with
  state := st, inletIntent := inlet, outletIntent := outlet, provedInlet := .closed, provedOutlet := .closed }

/-- H2 changing over to FILLING, with the orders given. -/
def changing (active next : Option Order) (last : Option Order) : State := yardOf { holderIn .changing .opened .closed with
  changeOver := some ⟨.filling, [.openInlet], 0, true, some 900⟩, active := active, next := next, lastOrder := last }

/-- H2 drawing into D1. -/
def drawing : State := (yardOf (holderIn .drawing .closed .opened)).modDistrict 1 fun r => { r with state := .serving, feeds := [2] }

theorem witness_IsolateShutsTheHolder :
    Takes (yardOf (holderIn .standing .closed .closed)) ∧ (filling.holder 5).fitted = false
      ∧ ((yardOf (holderIn .recovering .closed .closed)).holder 2).state = .recovering
      ∧ ((yardOf (holderIn .isolated .closed .closed)).holder 2).state = .isolated
      ∧ (yardOf (holderIn .standing .closed .closed)).feedOf 2 = none
      ∧ (let s := (changing none none none).modHolder 2 fun r => { r with changeOver := some ⟨.isolated, [.closeInlet], 0, true, some 10⟩ }
        Takes s ∧ (s.holder 2).state ≠ .recovering ∧ (s.holder 2).changeOver = some ⟨.isolated, [.closeInlet], 0, true, some 10⟩)
      ∧ ((yardOf (holderIn .standing .closed .closed)).holder 2).changeOver = none
      ∧ Takes filling ∧ (filling.holder 2).state = .filling ∧ (filling.holder 2).changeOver = none ∧ filling.feedOf 2 = none
      ∧ (filling.holder 2).inletIntent = .opened ∧ (filling.holder 2).outletIntent = .closed
      ∧ Takes drawing ∧ drawing.feedOf 2 = some 1 ∧ (drawing.holder 2).state = .drawing ∧ (drawing.holder 2).changeOver = none
      ∧ (drawing.holder 2).inletIntent = .closed ∧ (drawing.holder 2).outletIntent = .opened := by decide +kernel

theorem witness_SetYardWritesTheFieldsItCarries :
    Ready State.reset ∧ State.reset.yard.mode = .setup
      ∧ yardSettingsOk ⟨some 249, none, none, none, none, none, none⟩ = false
      ∧ yardSettingsOk ⟨some 250, some 3200, some 1, some 4, some 2000, some 0, some .b⟩ = true
      ∧ yardSettingsOk ⟨some 1100, some 2600, some 4, some 1, some 50, some 60, none⟩ = true := by decide

/-- The settings of the worked holder. -/
def settings (fitted : Bool) (travel : Option Nat) : HolderSettings :=
  ⟨fitted, [⟨4000, 3000, 45⟩, ⟨4400, 3000, 60⟩, ⟨4800, 3000, 75⟩], 20000, 500, 8800, 200, travel, none⟩

theorem witness_SetHolderFitsAHolder :
    Ready State.reset ∧ State.reset.yard.mode = .setup ∧ settingsValid (settings true (some 9)) = false
      ∧ settingsValid (settings true (some 10)) = true ∧ settingsValid (settings false none) = true
      ∧ (State.reset.holder 5).fitted = false ∧ State.reset.crownEntry 5 = none
      ∧ (let s := withEntries [entry 62 .crown (.holder 5)] State.reset
        Ready s ∧ s.crownEntry 5 = some (entry 62 .crown (.holder 5)) ∧ s.line.entry 62 = some (entry 62 .crown (.holder 5)))
      ∧ Ready (State.reset.setHolder 2 (holderIn .filling .opened .closed))
      ∧ ((State.reset.setHolder 2 (holderIn .filling .opened .closed)).holder 2).inletIntent = .opened := by decide +kernel

/-- H2 in SETUP on a move that opens its inlet, polled at 5, with a free crown entry at 62; it answers or not. -/
def spare (answering : Bool) : State :=
  withEntries [entry 5 .crown (.holder 2), newEntry 62 .crown 15] ((inMode .setup).setHolder 2 { holderIn .changing .opened .closed with
    changeOver := some ⟨.filling, [.openInlet], 0, true, some 900⟩, answering := answering })

theorem witness_holder_is_set_again :
    Ready (spare true) ∧ (spare true).yard.mode = .setup ∧ ((spare true).holder 2).fitted = true ∧ ((spare true).holder 2).answering = true
      ∧ ((spare false).holder 2).answering = false ∧ pollSound (spare true).line = true
      ∧ (∀ a ∈ [1, 62], settingsValid { settings true none with crownEntry := some a } = true)
      ∧ (spare true).line.entry 62 = some (newEntry 62 .crown 15) ∧ (newEntry 62 .crown 15).link = .none
      ∧ (spare true).crownEntry 2 = some (entry 5 .crown (.holder 2))
      ∧ (spare true).line.entry 5 = some (entry 5 .crown (.holder 2)) ∧ driveInFlight ((spare true).holder 2) = some .inletOpen
      ∧ (let s := withEntries [newEntry 62 .crown 15, newEntry 1 .crown 1] (spare true)
        s.crownEntry 2 = none ∧ pollSound s.line = true ∧ s.line.entry 1 = some (newEntry 1 .crown 1)) := by decide +kernel
theorem witness_holder_is_unfitted :
    (let s := (inMode .setup).setHolder 5 (holderIn .standing .closed .closed);
      Ready s ∧ s.yard.mode = .setup ∧ (s.holder 5).fitted = true ∧ (s.holder 5).inletIntent = .closed
        ∧ (s.holder 5).outletIntent = .closed ∧ (s.holder 5).changeOver = none ∧ s.feedOf 5 = none ∧ s.crownEntry 5 = none
        ∧ (∀ d, 5 ∉ (s.district d).feeds ∧ 5 ∉ (s.district d).standby)
        ∧ (withEntries [entry 62 .crown (.holder 5)] s).crownEntry 5 = some (entry 62 .crown (.holder 5)))
      ∧ (settings false none).fitted = false ∧ (State.reset.holder 5).fitted = false := by decide +kernel
theorem witness_holder_keeps_fitted :
    (let s := (inMode .setup).setHolder 5 (holderIn .standing .closed .closed);
      (5 : HolderId) ∈ ((s.modDistrict 7 fun r => { r with feeds := [5] }).district 7).feeds
        ∧ (5 : HolderId) ∈ ((s.modDistrict 0 fun r => { r with standby := [0, 1, 5] }).district 0).standby
        ∧ Ready (s.modDistrict 0 fun r => { r with standby := [0, 1, 5] }))
      ∧ ((spare true).holder 2).changeOver ≠ none
      ∧ ((spare true).holder 2).inletIntent = .opened ∧ (holderIn .drawing .closed .opened).outletIntent = .opened := by decide +kernel
-- 02 R19: the entry before is released, the answering flag falls, DIC is told, and the drive of the move goes with the holder
theorem test_another_crown_entry_takes_the_drive :
    let s := next (.setHolder 1 2 { settings true none with crownEntry := some 62 }) (spare true)
    (s.line.entry 62).map (fun e => (e.link, e.command)) = some (.holder 2, some (.drive .inletOpen))
      ∧ (s.line.entry 5).map (fun e => (e.link, e.command)) = some (.none, none) ∧ (s.holder 2).answering = false
      ∧ s.inTransit = [.holderValuesNotice ⟨2, false, 60, none, false, false⟩] ∧ results s = [.done] := by decide +kernel

/-- A poll list in SETUP with an unlinked governor at 21, an unlinked crown at 62, a meter at 1 and the district D5's tell-tale. -/
def stations : State :=
  withEntries [newEntry 21 .governor 1, newEntry 62 .crown 15, newEntry 1 .meter 3,
    { newEntry 22 .telltale 1 with link := .district 5 }] State.reset

theorem witness_SetDistrictStationsLinksTheGovernor :
    Ready stations ∧ stations.yard.mode = .setup ∧ stations.line.entry 2 = none
      ∧ stations.line.entry 21 = some (newEntry 21 .governor 1) ∧ (newEntry 21 .governor 1).link = .none
      ∧ stations.governorEntry 5 = none ∧ (stations.district 5).inFlight = none
      ∧ Ready { peak with yard := { peak.yard with mode := .setup } } ∧ (peak.district 5).state ≠ .out := by decide +kernel

/-- The same with the poll of the meter at 1 in flight. -/
def polling : State := { stations with line := { stations.line with
  exchange := some ⟨1, true, none, 200, false⟩, tx := pollFrame 1 .meter none } }

theorem witness_SetOutstationEditsThePollList :
    Ready polling ∧ polling.yard.mode = .setup ∧ polling.line.entry 61 = none ∧ polling.line.entries.length < 48
      ∧ polling.line.kindFull .barometer = false ∧ polling.line.dead = false ∧ polling.line.exchange.isSome = true
      ∧ Ready State.reset ∧ State.reset.line.entries = [] ∧ State.reset.line.exchange = none ∧ State.reset.line.tx = []
      ∧ State.reset.line.ordPos = 0 ∧ pollSound polling.line = true
      ∧ polling.line.entry 22 = some { newEntry 22 .telltale 1 with link := .district 5 }
      ∧ polling.line.entry 62 = some (newEntry 62 .crown 15) ∧ (newEntry 62 .crown 15).link = .none := by decide +kernel
theorem witness_SetChannelBindsAChannel :
    Ready polling ∧ polling.yard.mode = .setup ∧ polling.line.entry 2 = none ∧ polling.line.entry 62 = some (newEntry 62 .crown 15)
      ∧ polling.line.entry 1 = some (newEntry 1 .meter 3) ∧ ((newEntry 1 .meter 3).channels[(3 : Fin 4)]).enabled = false
      ∧ polling.bke.queue = [] ∧ polling.bke.inHand = none
      ∧ (let hand (ch : Fin 4) (p : Phase) : State := { polling with bke := { polling.bke with
            inHand := some ⟨1, ch, 1, 0, 0, 0, 1, 4095, 1, p⟩, queue := [⟨1, 3, 2, 0, 0⟩] } }
        (∀ h, (hand 2 (.committing none false)).bke.inHand = some h → ¬ (h.address = 1 ∧ h.channel = 3))
          ∧ (∀ h, (hand 3 (.committing none false)).bke.inHand = some h → h.address = 1 ∧ h.channel = 3 ∧ h.phase = .committing none false)
          ∧ (∀ h, (hand 3 (.marking 1 false ⟨0, 0, .account 1⟩)).bke.inHand = some h → h.phase = .marking 1 false ⟨0, 0, .account 1⟩)
          ∧ (hand 3 (.committing none false)).rst.arbiter.serving = none
          ∧ (hand 3 (.committing none false)).bke.queue.filter (fun x => !(decide (x.address = 1) && decide (x.channel = 3))) = []) := by
  refine ⟨?_, ?_, ?_, ?_, ?_, ?_, ?_, ?_, ⟨?_, ?_, ?_, ?_, ?_⟩⟩
  case refine_9 | refine_10 | refine_11 => rintro h ⟨⟩; decide
  all_goals decide +kernel

/-- A FILL of the greatest quantity. -/
def fill : Order := ⟨.fill, none, some 16000000, .stand, false⟩

theorem witness_OrderIsPlacedByTheStackRules :
    optWithin 1 16000000 (some 16000000) = true ∧ optWithin 1 16000000 (some 1) = true ∧ optWithin 1 16000000 none = true
      ∧ Ready (changing none none none) ∧ (changing none none none).yard.mode = .working
      ∧ ((changing none none none).holder 2).fitted = true ∧ ((changing none none none).holder 5).fitted = false
      ∧ ((changing none none none).holder 2).state = .changing ∧ ((changing none none none).holder 2).active = none
      ∧ ((changing none none none).holder 2).changeOver = some ⟨.filling, [.openInlet], 0, true, some 900⟩
      ∧ ((changing (some fill) none none).holder 2).active = some fill ∧ ((changing (some fill) none none).holder 2).next = none
      ∧ ((changing (some fill) (some fill) none).holder 2).next = some fill
      ∧ ((changing (some fill) (some fill) none).holder 2).takesOrders = true
      ∧ ((yardOf (holderIn .faulted .closed .closed)).holder 2).state = .faulted
      ∧ (let s := yardOf (holderIn .standing .closed .closed)
        Ready s ∧ (s.holder 2).state = .standing ∧ (s.holder 2).changeOver = none ∧ (s.holder 2).active = none
          ∧ (s.holder 2).next = none ∧ (s.holder 2).inletIntent = .closed ∧ (s.holder 2).outletIntent = .closed ∧ s.feedOf 2 = none
          ∧ (s.holder 2).height < (s.holder 2).topStop ∧ s.wasTopStop 2 = false) := by decide +kernel
theorem witness_RepeatAndReturn :
    Ready (changing none none none) ∧ (changing none none none).yard.mode = .working
      ∧ ((changing none none none).holder 2).takesOrders = true ∧ ((changing none none none).holder 2).lastOrder = none
      ∧ ((changing none none (some fill)).holder 2).lastOrder = some fill
      ∧ ((changing none none (some fill)).holder 2).active = none
      ∧ Ready (yardOf (holderIn .isolated .closed .closed))
      ∧ ((yardOf (holderIn .isolated .closed .closed)).holder 2).state = .isolated
      ∧ ((yardOf (holderIn .isolated .closed .closed)).holder 2).provedInlet = .closed
      ∧ (filling.holder 2).fitted = true ∧ (filling.holder 2).provedInlet ≠ .closed := by decide +kernel

/-- Every working field of SET-DISTRICT just beyond its range, the schedule and the standby list absent. -/
def beyond : DistrictSettings := ⟨none, some 19, some 151, some 51, some 4, some 21, some 11, some 41, some true, none⟩

theorem witness_SetDistrictClampsItsFields :
    Ready State.reset ∧ beyond.schedule = none ∧ beyond.standby = none
      ∧ (State.reset.district 7).schedule.Pairwise (fun a b => a.start < b.start)
      ∧ (peak.district 5).schedule.Pairwise (fun a b => a.start < b.start)
      ∧ (State.reset.district 7).state = .out ∧ State.reset.occasions = []
      ∧ (beyond.ceiling.map (clampTo 20 150)).getD (State.reset.district 7).ceiling = 150
      ∧ (beyond.floor.map (clampTo 20 150)).getD (State.reset.district 7).floor = 20
      ∧ clampTo 20 150 21 > clampTo 20 150 20 ∧ 3 < [0, 1, 2, 3].length := by decide
/-- The governor of D5 in the entry state given, its last good reply showing the trip or not. -/
def governorFive (st : EntryState) (trip : Bool) : PollEntry :=
  { entry 21 .governor (.district 5) with state := st, last := some (.governor ⟨30, some 30, trip⟩) }

/-- D5 OUT with the stations given. -/
def outWith (es : List PollEntry) : State := withEntries es (inMode .working)

/-- D5 OUT with both its stations, the governor ANSWERING and showing no trip. -/
def outFive : State := outWith [governorFive .answering false, entry 22 .telltale (.district 5)]

/-- D5 TRIPPED with a governor whose trip indication has cleared. -/
def trippedFive : State :=
  withEntries [{ entry 21 .governor (.district 5) with last := some (.governor ⟨0, none, false⟩) }]
    ((inMode .hold).modDistrict 5 fun r => { r with state := .tripped })

theorem witness_DistrictComesIntoService :
    Ready outFive ∧ (outFive.district 5).state = .out ∧ (outFive.telltaleEntry 5).isSome = true
      ∧ outFive.governorEntry 5 = some (governorFive .answering false) ∧ (governorFive .answering false).state = .answering
      ∧ (governorFive .answering false).last = some (.governor ⟨30, some 30, false⟩)
      ∧ (outFive.district 5).feeds = [] ∧ (outFive.district 5).autoJoin = false ∧ outFive.occasions = [] ∧ outFive.attempt = none
      ∧ outFive.telltaleEntry 7 = none ∧ (outFive.district 7).state = .out
      ∧ Ready trippedFive ∧ (trippedFive.district 5).state = .tripped ∧ (trippedFive.district 5).feeds = []
      ∧ (trippedFive.governorEntry 5).bind (·.last) = some (.governor ⟨0, none, false⟩)
      ∧ Ready peak ∧ (peak.district 5).state = .serving := by decide +kernel
theorem witness_DistrictOutNeedsAnEmptyFeedList :
    Ready peak ∧ (peak.district 5).state ≠ .out ∧ (peak.district 5).feeds ≠ [] ∧ Ready trippedFive
      ∧ (trippedFive.district 5).state ≠ .out ∧ (trippedFive.district 5).feeds = [] ∧ (trippedFive.district 5).pendingJoins = []
      ∧ trippedFive.inTransit = [] ∧ Ready State.reset ∧ (State.reset.district 0).state = .out := by decide +kernel
theorem witness_ClockJudgesEverySchedule : Ready peak ∧ peak.running = true ∧ 1439 < 1440 ∧ 1439 ≤ 1439 := by decide +kernel

/-! The directory: point 1191 leads to slot 40 by a path whose flags are clear, 1200 to slot 41. -/

theorem mapped_ready : Ready mapped ∧ StoreIdle mapped ∧ mapped.bke.inHand = none := by decide +kernel
theorem mapped_sound : SoundPath mapped 1191 0 0 ∧ SoundPath mapped 1200 0 0 ∧ SoundPath mapped 1210 0 0 := by decide +kernel

theorem witness_MapPointWritesOneLeaf :
    Ready mapped ∧ StoreIdle mapped ∧ 4095 < 4096 ∧ 1 ≤ 41 ∧ mapped.bke.inHand = none ∧ Clean mapped 41
      ∧ (mapped.rst.account 41).state ≠ .free ∧ SoundPath mapped 1210 0 0 := by decide +kernel
theorem witness_LinkPointWritesAnIndirectLeaf :
    Ready mapped ∧ StoreIdle mapped ∧ 1191 ≠ 1210 ∧ (mapped.district (pointDistrict 4095)).root.table = none
      ∧ mapped.bke.inHand = none ∧ SoundPath mapped 1210 0 0 ∧ SoundPath mapped 1191 0 0
      ∧ (mapped.rst.leaf 0 (pointIndex 1191)).kind = .account 40 := by decide +kernel
theorem witness_UnmapBarAndUnbarChangeOneDescriptor :
    Ready mapped ∧ StoreIdle mapped ∧ mapped.bke.inHand = none ∧ SoundPath mapped 1191 0 0 ∧ storesSound mapped.rst = true
      ∧ (mapped.rst.leaf 0 (pointIndex 1191)).kind ≠ .invalid ∧ 16 ≠ pointIndex 1191 ∧ (mapped.rst.leaf 0 16).kind ≠ .invalid := by
  decide +kernel
theorem witness_SetRouteWritesTheRoute :
    Ready mapped ∧ StoreIdle mapped ∧ mapped.bke.inHand = none ∧ 4095 < 4096 ∧ (0 : Nat) < 1
      ∧ (⟨true, 0, 4095, some 41, true⟩ : RouteSettings).slot = some 41 ∧ (0 : Nat) ≤ 4095 ∧ Clean mapped 41
      ∧ (mapped.rst.account 41).state ≠ .free := by decide +kernel
theorem witness_LookPointReportsThePath :
    Ready mapped ∧ StoreIdle mapped ∧ 4095 < 4096 ∧ mapped.bke.inHand = none ∧ SoundPath mapped 1191 0 0
      ∧ (mapped.rst.leaf 0 (pointIndex 1191)).kind = .account 40 := by
  decide +kernel

/-- A store with slot 255 CLOSED and empty, slot 254 FREE, slot 253 DAMAGED, slot 252 with two flawed words and slot 251 OPEN with
totals. -/
def accounts : State := (inMode .working).modRst fun r =>
  { ((r.putAccount 251 { Account.suspense 7 with kind := some .sendOut, volume := 1099511627775, heat := 4294967295 }).putAccount 252
      { Account.suspense 0 with kind := some .receipt }).putAccount 255
      { Account.suspense 0 with kind := some .receipt, state := .closed } with
    flaws := [(252, 2)], damaged := [(253, true)] }

theorem witness_OpenCloseAndReopenWriteTheSlot :
    Ready accounts ∧ StoreIdle accounts ∧ 255 < 256 ∧ optWithin 250 1100 (some 249) = false ∧ optWithin 250 1100 (some 1100) = true
      ∧ Clean accounts 254 ∧ (accounts.rst.account 254).state = .free ∧ Clean accounts 255
      ∧ (accounts.rst.account 255).state = .closed ∧ Clean accounts 251 ∧ (accounts.rst.account 251).state = .opened
      ∧ accounts.rst.isDamaged 253 = true ∧ accounts.rst.isDamaged 252 = false ∧ 2 ≤ accounts.rst.flawsOf 252 := by decide +kernel

/-- Contents a restore may carry, with the residues at their tops. -/
def contents : AccountContents :=
  ⟨.worksUse, some 1100, 65535, 1099511627775, 65535, 4294967295, 6553599999, 4294967295, 0, true, 0, 0, 0⟩

theorem witness_RestoreAndAdjustWriteAccounts :
    Ready accounts ∧ StoreIdle accounts ∧ contentsOk contents = true ∧ contentsOk { contents with volumeRes := 65536 } = false
      ∧ Clean accounts 251 ∧ (accounts.rst.account 251).state = .opened ∧ storesSound accounts.rst = true
      ∧ Clean accounts 255 ∧ (accounts.rst.account 255).state ≠ .opened ∧ accounts.rst.isDamaged 253 = true
      ∧ Clean accounts 254 ∧ (accounts.rst.account 254).state = .free ∧ (251 : Nat) ≠ 255
      ∧ ((accounts.rst.account 251).rolled accounts.yard.period).volume < 1
      ∧ (let s := accounts.modYard fun y => { y with period := 7 }
        Ready s ∧ StoreIdle s ∧ Clean s 251 ∧ Clean s 255 ∧ 1099511627775 ≤ ((s.rst.account 251).rolled s.yard.period).volume
          ∧ 4294967295 ≤ ((s.rst.account 251).rolled s.yard.period).heat
          ∧ ((s.rst.account 255).rolled s.yard.period).volume + 1099511627775 ≤ 1099511627775
          ∧ ((s.rst.account 255).rolled s.yard.period).heat + 4294967295 ≤ 4294967295) := by decide +kernel

/-- Slot 255 CLOSED and empty in the worked store, whose leaf 7 leads to the slot given. -/
def retiring (slot : Nat) : State := mapped.modRst fun r => (r.putAccount 255
  { Account.suspense 0 with kind := some .receipt, state := .closed }).putLeaf 0 7 ⟨.account slot, false, false, false, false⟩

theorem witness_RetireFreesAnEmptyClosedAccount :
    Ready accounts ∧ StoreIdle accounts ∧ Clean accounts 254 ∧ (accounts.rst.account 254).state = .free ∧ Clean accounts 251
      ∧ (accounts.rst.account 251).state = .opened ∧ Clean accounts 255 ∧ (accounts.rst.account 255).state = .closed
      ∧ (accounts.rst.account 255).volume = 0 ∧ (accounts.rst.account 255).volumeRes = 0 ∧ (accounts.rst.account 255).heat = 0
      ∧ (accounts.rst.account 255).heatRes = 0 ∧ accounts.bke.routes[0].slot ≠ some 255 ∧ accounts.bke.routes[1].slot ≠ some 255
      ∧ accounts.rst.pointAlloc = []
      ∧ ({ accounts.bke with routes := #v[startingRoute, ⟨true, 0, 4095, some 255, false⟩] }).routes[1].slot = some 255
      ∧ (∀ slot ∈ [40, 255], Ready (retiring slot) ∧ StoreIdle (retiring slot) ∧ Clean (retiring slot) 255
        ∧ ((retiring slot).rst.account 255).state = .closed ∧ (retiring slot).rst.pointAlloc = [(0, some ⟨0, 5, false⟩)]
        ∧ Clean (retiring slot) (pointSlot 0))
      ∧ (7, (retiring 255).rst.leaf 0 7) ∈ (retiring 255).rst.pointTable 0 ∧ ((retiring 255).rst.leaf 0 7).kind = .account 255
      ∧ (∀ p ∈ (retiring 40).rst.pointTable 0, p.2.kind ≠ .account 255) := by decide +kernel

/-- What REX's grant takes at the start of `accounts` and of `mapped`. -/
def grant : Grant := ⟨.rex, 0, 2992, 500, false⟩

/-- A close scan about to read a slot. -/
def closing (slot : Nat) (s : State) : State := startedHead s 1 .closePeriod (.closeScan slot Sums.zero)

theorem witness_RollKeepsTheResidues :
    HeadAwaits (closing 251 accounts) grant 1 .closePeriod (.closeScan 251 Sums.zero) ∧ Clean (closing 251 accounts) 251
      ∧ storesSound (closing 251 accounts).rst = true ∧ ((closing 251 accounts).rst.account 251).state ≠ .free
      ∧ ((closing 251 accounts).rst.account 251).period ≠ grant.period
      ∧ ∃ t, exec (.closeScanAccess []) (closing 251 accounts) = .next t :=
  ⟨by decide +kernel, by decide +kernel, by decide +kernel, by decide +kernel, by decide +kernel, _, rfl⟩

/-- A BOOKED pass at the tables and leaves given. -/
def passing (tables : List Nat) (leaves : List PassLeaf) : State :=
  startedHead mapped 1 .closePeriod (.closePass tables leaves Sums.zero)

theorem witness_ClosePeriodGoesFromStartToFigures :
    Ready accounts ∧ StoreIdle accounts ∧ accounts.yard.closeUnfinished = false
      ∧ Ready (accounts.modYard fun y => { y with closeUnfinished := true })
      ∧ (∀ n ∈ [0, 254], HeadAwaits (closing n accounts) grant 1 .closePeriod (.closeScan n Sums.zero) ∧ Clean (closing n accounts) n)
      ∧ ((closing 254 accounts).rst.account 254).state = .free ∧ ((closing 0 accounts).rst.account 0).state ≠ .free
      ∧ HeadAwaits (closing 253 accounts) grant 1 .closePeriod (.closeScan 253 Sums.zero)
      ∧ (closing 253 accounts).rst.isDamaged 253 = true
      ∧ (let s := closing 255 (accounts.modRst fun r => { r with damaged := [(255, true)] })
        HeadAwaits s grant 1 .closePeriod (.closeScan 255 Sums.zero) ∧ s.rst.isDamaged 255 = true ∧ s.rst.pointAlloc = [])
      ∧ (let s := closing 255 (mapped.modRst fun r => { r with damaged := [(255, true)] })
        HeadAwaits s grant 1 .closePeriod (.closeScan 255 Sums.zero) ∧ s.rst.isDamaged 255 = true
          ∧ s.rst.pointAlloc = [(0, some ⟨0, 5, false⟩)])
      ∧ HeadAwaits (passing [0, 1] []) grant 1 .closePeriod (.closePass [0, 1] [] Sums.zero) ∧ Clean (passing [0, 1] []) (pointSlot 0)
      ∧ HeadAwaits (passing [1] [⟨⟨0, 7, .account 40⟩, false⟩]) grant 1 .closePeriod (.closePass [1] [⟨⟨0, 7, .account 40⟩, false⟩] Sums.zero)
      ∧ HeadAwaits (passing [] [⟨⟨0, 7, .account 40⟩, false⟩]) grant 1 .closePeriod (.closePass [] [⟨⟨0, 7, .account 40⟩, false⟩] Sums.zero)
      ∧ ((passing [] [⟨⟨0, 7, .account 40⟩, false⟩]).rst.leaf 0 7).kind = .account 40
      ∧ HeadAwaits (passing [] [⟨⟨0, 7, .account 40⟩, true⟩]) grant 1 .closePeriod
          (.closePass [] [⟨⟨0, 7, .account 40⟩, true⟩] Sums.zero)
      ∧ ((passing [] [⟨⟨0, 7, .account 40⟩, true⟩]).modRst fun r => r.setDamaged (pointSlot 0) true).rst.isDamaged (pointSlot 0) = true := by
  refine ⟨?_, ?_, ?_, ?_, ?_, ?_, ?_, ?_, ?_, ?_, ?_⟩ <;> decide +kernel

/-- R148: a leaf the pass has read BOOKED is cleared by its access, and stands where BKE's BOOKED access came between the two. -/
theorem test_a_mark_made_after_the_read_stands :
    let leaf : LeafRef := ⟨0, 7, .account 40⟩
    let s := (passing [] [⟨leaf, false⟩, ⟨⟨0, 9, .account 41⟩, false⟩]).modRst fun r => r.putLeaf 0 7 ⟨.account 40, false, true, true, false⟩
    let u := next (.bookedFlagAccess []) (booking (.marking 40 false leaf) s)
    ((next (.bookedPassAccess []) s).rst.leaf 0 7).booked = false
      ∧ u.rex.work = some (.closePass [] [⟨leaf, true⟩, ⟨⟨0, 9, .account 41⟩, false⟩] Sums.zero)
      ∧ ((next (.bookedPassAccess [])
          (u.modRst fun r => { r with arbiter := { r.arbiter with serving := some grant } })).rst.leaf 0 7).booked = true := by
  decide +kernel

/-- LOOK BALANCE about to read a slot. -/
def balancing (slot : Nat) (s : State) : State := startedHead s 1 .lookBalance (.balance slot Sums.zero)

theorem witness_LookBalanceSumsTheAccounts :
    Ready accounts ∧ StoreIdle accounts
      ∧ (∀ n ∈ [0, 252, 251, 254, 253], HeadAwaits (balancing n accounts) grant 1 .lookBalance (.balance n Sums.zero))
      ∧ Clean accounts 254 ∧ (accounts.rst.account 254).state = .free ∧ Clean accounts 0
      ∧ (accounts.rst.account 0).kind = some .suspense ∧ (accounts.rst.account 0).period = grant.period
      ∧ Clean accounts 251 ∧ (accounts.rst.account 251).period ≠ grant.period ∧ accounts.rst.isDamaged 253 = true
      ∧ (∀ k ∈ [AccountKind.receipt, .sendOut, .worksUse],
        let s := balancing 250 (accounts.modRst fun r => r.putAccount 250 { Account.suspense 0 with kind := some k })
        HeadAwaits s grant 1 .lookBalance (.balance 250 Sums.zero) ∧ Clean s 250 ∧ (s.rst.account 250).kind = some k
          ∧ (s.rst.account 250).period = grant.period ∧ (s.rst.account 250).state ≠ .free)
      ∧ HeadAwaits (balancing 255 mapped) grant 1 .lookBalance (.balance 255 Sums.zero) ∧ Clean (balancing 255 mapped) 255
      ∧ ((balancing 255 mapped).rst.account 255).state = .free := by decide +kernel

/-! Looks, attention and modes. -/

theorem witness_LooksReportAndChangeNothing :
    Ready stations ∧ (stations.holder 5).fitted = false ∧ stations.line.entry 62 = some (newEntry 62 .crown 15)
      ∧ stations.line.entry 2 = none ∧ Ready accounts ∧ StoreIdle accounts ∧ Clean accounts 255 ∧ Clean accounts 254
      ∧ accounts.rst.isDamaged 253 = true := by decide +kernel

/-- H2 and D5 with a latch set each, in priority order B. -/
def attentive : State :=
  let s := (peak.modHolder 2 fun r => { r with latches := { r.latches with recovered := true } }).modDistrict 5 fun r =>
    { r with latches := { r.latches with tripped := true } }
  s.modYard fun y => { y with priority := .b, restarted := none }

theorem witness_AttentionListsTheSetConditions :
    Ready attentive ∧ attentive.yard.priority = .b ∧ attentive.conditions (.holder 2) = [(9, [])]
      ∧ attentive.conditions (.district 5) = [(0, [])] ∧ Ready State.reset ∧ State.reset.yard.priority = .a
      ∧ State.reset.yard.restarted = some .freshStart := by decide +kernel
theorem witness_AckClearsTheNamedSource :
    Ready attentive ∧ 18 ≤ 18 ∧ (∀ n ∈ List.range 18, (sourceOf n).map Source.number = some n)
      ∧ Source.district 5 ≠ .holder 2 := by decide +kernel

/-- SETUP with every check of WORK met: H2 with its crown station, D5 OUT, a barometer. -/
def checked : State := withEntries [entry 5 .crown (.holder 2), entry 62 .barometer .yard]
  ((inMode .setup).setHolder 2 (holderIn .standing .closed .closed))

theorem witness_ModeRequestsChangeTheMode :
    Ready checked ∧ checked.yard.mode = .setup ∧ (∀ h, (checked.holder h).fitted = true → (checked.holder h).state ≠ .recovering)
      ∧ (∀ h, (checked.holder h).fitted = true → (checked.crownEntry h).isSome = true)
      ∧ (∀ d, (checked.district d).state ≠ .out → (checked.governorEntry d).isSome = true ∧ (checked.telltaleEntry d).isSome = true)
      ∧ entry 62 .barometer .yard ∈ checked.line.entries ∧ checked.line.dead = false ∧ (∀ h, (checked.holder h).changeOver = none)
      ∧ (∀ d, (checked.district d).state ≠ .short ∧ (checked.district d).state ≠ .starved) ∧ checked.occasions = []
      ∧ checked.attempt = none
      ∧ (let s := checked.modHolder 2 fun r => { r with state := .recovering }
        Ready s ∧ (s.holder 2).state = .recovering ∧ ∀ g < 2, (s.holder g).fitted = false)
      ∧ (let s := withEntries [] checked
        Ready s ∧ s.crownEntry 2 = none ∧ ∀ e ∈ s.line.entries, e.kind ≠ .barometer)
      ∧ (let s := checked.modDistrict 5 fun r => { r with state := .tripped }
        Ready s ∧ s.governorEntry 5 = none ∧ ∀ d < 5, (s.district d).state = .out)
      ∧ (withEntries [] State.reset).line.entries = [] := by
  refine ⟨?_, ?_, ?_, ?_, ?_, ?_, ?_, ?_, ?_, ?_, ?_, ?_, ?_, ?_, ?_⟩ <;> decide +kernel

/-- HOLD with H2's first move waiting (03 R60). -/
def waiting : State :=
  let s := changing none none none
  (s.modHolder 2 fun r => { r with changeOver := some ⟨.filling, [.openInlet], 0, false, none⟩ }).modYard fun y =>
    { y with mode := .hold }

theorem witness_ModeRequestsFromWorkingAndHold :
    Ready filling ∧ filling.yard.mode ≠ .setup ∧ (filling.holder 2).fitted = true ∧ (filling.holder 2).active.isSome = true
      ∧ Ready (inMode .hold) ∧ (inMode .hold).line.dead = false ∧ (∀ h, ((inMode .hold).holder h).changeOver = none)
      ∧ Ready waiting ∧ waiting.yard.mode = .hold ∧ waiting.line.dead = false
      ∧ (waiting.holder 2).changeOver = some ⟨.filling, [.openInlet], 0, false, none⟩
      ∧ (∀ g, g ≠ 2 → (waiting.holder g).changeOver = none) ∧ waiting.occasions = [] ∧ waiting.attempt = none := by decide +kernel

/-! The outstation line. -/

/-- A line of the one entry given, its poll sent and its reply awaited. -/
def awaiting (e : PollEntry) (single dead : Bool) : State :=
  let s := withEntries [e] State.reset
  { s with line := { s.line with exchange := some ⟨e.address, false, none, 200, single⟩, dead := dead } }

theorem witness_UnansweredPollsEndInSilence :
    polling.running = true ∧ polling.line.exchange = some ⟨1, true, none, 200, false⟩
      ∧ (let e := { entry 62 .crown (.holder 5) with misses := 2 }
        (awaiting e false false).line.entry 62 = some e ∧ e.misses < e.retry ∧ e.retry ≤ 15)
      ∧ (let e := { entry 62 .crown (.holder 5) with misses := 15, retry := 15 }
        (awaiting e false false).line.entries = [e] ∧ e.retry ≤ e.misses ∧ e.misses ≤ 15 ∧ e.state ≠ .silent
          ∧ (awaiting e false false).line.dead = false)
      ∧ (let e := { entry 1 .meter .none with misses := 254, state := .silent }
        (awaiting e true true).line.entries = [e] ∧ e.misses ≤ 254) := by decide +kernel
theorem witness_GoodRepliesAreHandedToTheirOwners :
    polling.running = true ∧ polling.line.tx ≠ [] ∧ isSpecial 0xF0 = false ∧ stations.line.tx = [] ∧ stations.line.rx = .hunt
      ∧ stations.line.exchange = none ∧ readingFits (.barometer 65535) = true
      ∧ (let s := awaiting { entry 62 .crown (.holder 5) with state := .silent } true true
        let r : Reading := .crown ⟨65535, -32768, true, true, true, true, true, true⟩
        s.line.tx = [] ∧ s.line.rx = .hunt ∧ s.line.exchange = some ⟨62, false, none, 200, true⟩ ∧ readingFits r = true
          ∧ s.line.entry 62 = some { entry 62 .crown (.holder 5) with state := .silent } ∧ r.kind = .crown) := by decide +kernel

/-- The scrubber's check being served. -/
def checking (r : Rst) : State := { State.reset with rst := { r with
  scrubPending := true, arbiter := { r.arbiter with serving := some ⟨.scrub, 0, 2992, 500, false⟩ } } }

theorem witness_SilencesAndTimersAreTaken :
    filling.running = true ∧ (filling.holder 2).fitted = true ∧ (filling.crownEntry 2).isSome = true
      ∧ (filling.holder 2).answering = true ∧ (filling.holder 5).fitted = false ∧ filling.yard.mode = .working
      ∧ State.reset.yard.mode ≠ .working
      ∧ ((changing none none none).holder 2).changeOver = some ⟨.filling, [.openInlet], 0, true, some 900⟩
      ∧ (∀ c, (filling.holder 2).changeOver = some c → c.timer = none)
      ∧ State.reset.rst.scrubTimer.isSome = true ∧ State.reset.rst.scrubPending = false ∧ StoreIdle State.reset
      ∧ Serves (checking { Rst.fresh with scrubPointer := 343 }) ⟨.scrub, 0, 2992, 500, false⟩ .scrub
      ∧ (checking { Rst.fresh with scrubPointer := 343 }).rst.flawsOf 343 = 0
      ∧ (checking { Rst.fresh with flaws := [(342, 1)], scrubPointer := 342 }).rst.flawsOf 342 = 1
      ∧ (checking { Rst.fresh with flaws := [(342, 1)], scrubPointer := 342 }).rst.isDamaged 342 = false
      ∧ (checking Rst.fresh).rst.scrubPending = true := by
  refine ⟨?_, ?_, ?_, ?_, ?_, ?_, ?_, ?_, ?_, ?_, ?_, ?_, ?_, ?_, ?_, ?_, ?_⟩
  case refine_9 => intro c h; cases h
  all_goals decide +kernel

theorem witness_CrownRepliesMoveTheHolder :
    (let s := yardOf (holderIn .standing .closed .closed);
      s.running = true ∧ (s.holder 2).fitted = true ∧ (s.crownEntry 2).isSome = true ∧ (s.holder 2).changeOver = none
        ∧ (s.holder 2).active = none ∧ (s.holder 2).startStock = none ∧ (s.holder 2).state = .standing
        ∧ (s.holder 2).answering = true ∧ min 4450 (totalStroke (s.holder 2).lifts) ≤ (s.holder 2).height + (s.holder 2).maxStep
        ∧ (s.holder 2).height ≤ min 4050 (totalStroke (s.holder 2).lifts) + (s.holder 2).maxStep)
      ∧ ((yardOf (holderIn .recovering .closed .closed)).holder 2).isolated = false
      ∧ (let s := changing none none none
        (s.holder 2).changeOver = some ⟨.filling, [.openInlet], 0, true, some 900⟩ ∧ (s.holder 2).state = .changing
          ∧ 4250 = (s.holder 2).height ∧ (s.holder 2).height < (s.holder 2).topStop
          ∧ (({ s.holder 2 with temp := 1200, jump := none, provedInlet := .opened, provedOutlet := .closed }).recompute
              s.yard.barometer).stagePressure = (s.holder 2).stagePressure)
      ∧ (filling.holder 5).fitted = false := by decide +kernel

/-- D1 in service with two feeds, or three. -/
def served (feeds : List HolderId) : State :=
  (yardOf (holderIn .standing .closed .closed)).modDistrict 1 fun r => { r with state := .serving, feeds := feeds }

theorem witness_OrdersThatJoinADistrict :
    (let s := served [0, 1];
      Ready s ∧ s.yard.mode = .working ∧ (s.holder 2).fitted = true ∧ (s.holder 2).state = .standing
        ∧ (s.holder 2).changeOver = none ∧ (s.holder 2).active = none ∧ (s.holder 2).next = none
        ∧ (s.holder 2).inletIntent = .closed ∧ (s.holder 2).outletIntent = .closed ∧ s.inTransit = []
        ∧ (∀ c : DistrictId, 2 ∉ (s.district c).feeds) ∧ (s.district 1).state ≠ .out ∧ (s.district 1).state ≠ .tripped
        ∧ (s.district 1).feeds.length + joinsHeld s 1 = 2
        ∧ (s.holder 2).lowStop < (s.holder 2).height ∧ s.wasLanding 2 = false ∧ (s.district 0).state = .out)
      ∧ ((served [0, 1, 3]).district 1).feeds.length + joinsHeld (served [0, 1, 3]) 1 = 3
      ∧ (let s := (served [0, 1]).modHolder 4 fun r => { r with changeOver := some ⟨.drawing 1, [.openOutlet, .join 1], 0, true, none⟩ }
        (s.district 1).feeds.length + joinsHeld s 1 = 3)
      ∧ (∀ c : DistrictId, 2 ∉ ((served [0, 1, 3]).district c).feeds) ∧ optWithin 1 16000000 (some 16000000) = true := by
  decide +kernel
theorem witness_AutomaticJoinsAreAnswered :
    (filling.holder 5).fitted = false ∧ ((yardOf (holderIn .isolated .closed .closed)).holder 2).state = .isolated
      ∧ (let s := { served [0, 1] with inTransit := [.automaticDraw 2 1] }
        s.running = true ∧ (s.holder 2).state = .standing ∧ s.inTransit = [.automaticDraw 2 1]
          ∧ (∀ c : DistrictId, 2 ∉ (s.district c).feeds) ∧ (s.district 1).state ≠ .out ∧ s.yard.mode = .working
          ∧ (s.holder 2).lowStop < (s.holder 2).height ∧ s.wasLanding 2 = false)
      ∧ (let s := (served [0]).modDistrict 1 fun r => { r with pendingJoins := [2] }
        s.occasions = [] ∧ 2 ∈ (s.district 1).pendingJoins ∧ 3 ∉ (s.district 1).pendingJoins) := by decide +kernel

theorem witness_NoticesChangeTheFeedLists :
    (let n : HolderNotice := ⟨2, true, 600, none, false, false⟩;
      drawing.running = true ∧ n.pend = none ∧ n.remove = false ∧ n.standing = false
        ∧ n.holder ∈ (drawing.district 1).feeds ∧ (drawing.district 1).state.inService = true)
      ∧ (let s := (served []).modHolder 2 fun r => { r with changeOver := some ⟨.drawing 1, [.openOutlet, .join 1], 1, true, none⟩ }
        (s.holder 2).changeOver = some ⟨.drawing 1, [.openOutlet, .join 1], 1, true, none⟩ ∧ (s.holder 2).active = none)
      ∧ (let s := drawing.modHolder 2 fun r => { r with changeOver := some ⟨.standing, [.leave, .closeOutlet], 0, true, none⟩ }
        (s.holder 2).changeOver = some ⟨.standing, [.leave, .closeOutlet], 0, true, none⟩ ∧ s.yard.mode = .working) := by
  decide +kernel
theorem witness_StationRepliesAreTaken :
    peak.running = true ∧ (peak.district 5).inFlight = none ∧ (peak.district 5).state.inService = true
      ∧ ((peak.modDistrict 5 fun r => { r with inFlight := some 38 }).district 5).inFlight = some 38
      ∧ (trippedFive.district 5).state.inService = false ∧ 19 < (peak.district 5).ttMin
      ∧ 26 ≤ (peak.district 5).ttMin + (peak.district 5).ttBand := by decide +kernel

/-! Booking. -/

/-- A meter at 62 with its channel 0 as given. -/
def metered (c : Channel) (queue : List QueueEntry) : State :=
  let s := withEntries [{ entry 62 .meter .none with channels := #v[c, Channel.starting, Channel.starting, Channel.starting] }] mapped
  { s with bke := { s.bke with queue := queue } }

/-- A channel with its base taken at 65535 and its limit at 1. -/
def channel : Channel := ⟨true, 1191, 10000, 1, 65535, true, some 65535, false⟩

theorem witness_MeterRepliesQueueBookings :
    (metered channel []).running = true ∧ (metered channel []).line.entry 1 = none ∧ stations.line.entry 62 = some (newEntry 62 .crown 15)
      ∧ (∃ e, (metered channel []).line.entry 62 = some e ∧ e.kind = .meter ∧ channel = e.channels[0]
          ∧ ∀ k : Fin 4, k ≠ 0 → (e.channels[k]).enabled = false)
      ∧ Channel.starting.enabled = false ∧ ({ channel with baseTaken := false } : Channel).enabled = true
      ∧ channel.enabled = true ∧ channel.baseTaken = true ∧ (metered channel []).bke.queue = []
      ∧ (metered channel []).bke.inHand = none ∧ StoreIdle (metered channel [])
      ∧ channel.limit < (1 % 65536 + 65536 - channel.base % 65536) % 65536
      ∧ (booking (.committing none false) (metered channel [])).bke.inHand.isSome = true
      ∧ (metered channel [⟨62, 0, 1, 0, 0⟩]).bke.queue = [⟨62, 0, 1, 0, 0⟩]
      ∧ 16 ≤ (metered channel full.bke.queue).bke.queue.length
      ∧ (∀ q ∈ (metered channel full.bke.queue).bke.queue, ¬ (q.address = 62 ∧ q.channel = 0))
      ∧ (65535 + 65536) % 65536 = channel.base % 65536 ∧ (0 % 65536 + 65536 - channel.base % 65536) % 65536 = 1
      ∧ (full.bke.queue.take 15).length < 16 ∧ (full.bke.queue.take 12).length ≤ 12
      ∧ (∀ q ∈ full.bke.queue.take 12, q.address ≠ 62)
      ∧ (metered channel [⟨62, 1, 1, 0, 0⟩, ⟨62, 0, 1, 0, 0⟩, ⟨61, 0, 1, 0, 0⟩]).bke.queue
          = [⟨62, 1, 1, 0, 0⟩] ++ ⟨62, 0, 1, 0, 0⟩ :: [⟨61, 0, 1, 0, 0⟩]
      ∧ (∀ j : Fin 4, (#v[channel, channel, channel, channel][j]).enabled = true ∧ (#v[channel, channel, channel, channel][j]).baseTaken = true
          ∧ (0 : Nat) ≠ (#v[channel, channel, channel, channel][j]).base) := by
  refine ⟨?_, ?_, ?_, ⟨_, rfl, ?_⟩, ?_, ?_, ?_, ?_, ?_, ?_, ?_, ?_, ?_, ?_, ?_, ?_, ?_, ?_, ?_, ?_, ?_, ?_, ?_⟩ <;> decide +kernel

/-- What BKE's grant takes. -/
def bkeGrant : Grant := ⟨.bke, 0, 2992, 500, false⟩

/-- A walk of point 1191 at a level. -/
def walking (level : WalkLevel) : Phase := .resolving ⟨1191, level, false, none, none, false⟩

theorem witness_WalksGoDownTheDirectory :
    (∀ l ∈ [WalkLevel.mainRead 0, .mainFlag 0 0, .pointRead 0, .leafFlag 0 ⟨.account 40, false, false, false, false⟩],
      Serves (booking (walking l) mapped) bkeGrant .bke ∧ ((booking (walking l) mapped).bke.inHand.map (·.phase)) = some (walking l))
      ∧ Clean mapped (mainSlot 0) ∧ (mapped.rst.desc 0 (mainIndex 1191)).table = some 0
      ∧ (mapped.rst.desc 0 (mainIndex 1191)).used = false ∧ (mapped.rst.desc 0 (mainIndex 4095)).table = none
      ∧ Clean mapped (pointSlot 0) ∧ (mapped.rst.leaf 0 (pointIndex 1191)).kind = .account 40
      ∧ (mapped.rst.leaf 0 (pointIndex 1191)).used = false ∧ (mapped.rst.leaf 0 (pointIndex 1210)).kind = .invalid
      ∧ (mapped.modRst fun r => { r with damaged := [(mainSlot 0, true)] }).rst.isDamaged (mainSlot 0) = true
      ∧ ((mapped.modRst fun r => r.putDesc 0 5 ⟨some 0, true, true⟩).rst.desc 0 (mainIndex 1191)).used = true
      ∧ ((mapped.modRst fun r => r.putLeaf 0 7 ⟨.account 40, false, true, false, false⟩).rst.leaf 0 (pointIndex 1191)).used = true
      ∧ ((mapped.modRst fun r => r.putLeaf 0 26 ⟨.indirect 1191, false, true, false, false⟩).rst.leaf 0 (pointIndex 1210)).kind
          = .indirect 1191
      ∧ (mapped.district (pointDistrict 1191)).root.table = some 0
      ∧ (let s := booking (.marking 40 false ⟨0, 7, .account 40⟩) mapped
        Serves s bkeGrant .bke ∧ s.bke.queue = [] ∧ Clean s (pointSlot 0) ∧ (s.rst.leaf 0 7).kind = .account 40
          ∧ (s.rst.leaf 0 26).kind ≠ .indirect 1191)
      ∧ (let s := booking (.marking 40 false ⟨0, 7, .account 40⟩) (passing [] [⟨⟨0, 7, .account 40⟩, false⟩])
        Serves s bkeGrant .bke ∧ s.rex.work = some (.closePass [] [⟨⟨0, 7, .account 40⟩, false⟩] Sums.zero)) := by
  refine ⟨?_, ?_, ?_, ?_, ?_, ?_, ?_, ?_, ?_, ?_, ?_, ?_, ?_, ?_, ?_, ?_⟩ <;> decide +kernel
theorem witness_CommitsAddOrDivertBookings :
    (let s := booking (.committing (some (.account 40 false false (.walk ⟨0, 7, .account 40⟩))) false) mapped;
      Serves s bkeGrant .bke ∧ bkeGrant.stale = false ∧ s.bke.queue = [] ∧ storesSound s.rst = true ∧ Clean s 40
        ∧ ((s.rst.account 40).rolled bkeGrant.period).state = .opened ∧ Clean s 0)
      ∧ (∀ r ∈ [none, some (.account 40 true false .cache), some (.noRoute .invalidRoot), some (.noRoute .damaged)],
        let s := booking (.committing r false) mapped
        Serves s bkeGrant .bke ∧ (s.bke.inHand.map (·.phase)) = some (.committing r false) ∧ storesSound s.rst = true ∧ Clean s 0)
      ∧ 1 * 100 * correction 2992 60 450 = 6829400 ∧ (0 + 0 + 6829400) / 65536 ≤ 1099511627775
      ∧ 0 + (0 + 6829400 * 500) / 6553600000 ≤ 4294967295
      ∧ (let s := booking (.committing none false) (mapped.modRst fun r =>
          r.putAccount 0 { Account.suspense 0 with volume := 1099511627775 })
        Serves s bkeGrant .bke ∧ Clean s 0 ∧ storesSound s.rst = true
          ∧ 1099511627775 < ((s.rst.account 0).volume * 65536 + (s.rst.account 0).volumeRes + 6829400) / 65536) := by
  refine ⟨?_, ?_, ?_, ?_, ?_, ?_⟩ <;> decide +kernel

/-! ### Witnesses of single clauses, at their boundaries -/

/-- A lone head of `mapped` whose access of the work given is being served. -/
def heading (q : Request) (w : HeadWork) : State := startedHead mapped 1 q w

theorem witness_supply_fails_during_an_access :
    Serves (checking Rst.fresh) ⟨.scrub, 0, 2992, 500, false⟩ .scrub
      ∧ (let s := booking (.committing (some (.account 40 false false .route)) false) mapped
        Serves s bkeGrant .bke ∧ bkeGrant.stale = false ∧ (40 : Nat) ≤ 255)
      ∧ (let s := booking (.marking 40 false ⟨0, 7, .account 40⟩) mapped
        Serves s bkeGrant .bke ∧ s.bke.queue = [])
      ∧ Clean mapped (mainSlot 0) ∧ Clean mapped (pointSlot 0)
      ∧ (∀ w ∈ [HeadWork.account, .retireCheck, .retireScan [0], .retireFinal, .closeScan 0 Sums.zero, .closePass [0] [] Sums.zero,
          .balance 255 Sums.zero], (accountCommand w).isSome = true)
      ∧ HeadAwaits (heading (.lookAccount 40) .account) grant 1 (.lookAccount 40) .account := by decide +kernel
theorem witness_supply_fails_during_a_stale_commit :
    let s := booking (.committing (some (.account 40 false false .route)) true) mapped
    let g : Grant := { bkeGrant with stale := true }
    Serves { s with rst := { s.rst with arbiter := { s.rst.arbiter with serving := some g } } } g .bke := by decide +kernel
theorem witness_supply_fails_during_a_directory_write :
    HeadAwaits (heading (.mapPoint 1191 41 true true) (.directory (.actions [.writeLeaf 0 7 ⟨.account 41, true, false, false, true⟩])))
        grant 1 (.mapPoint 1191 41 true true) (.directory (.actions [.writeLeaf 0 7 ⟨.account 41, true, false, false, true⟩]))
      ∧ HeadAwaits (heading (.unmapPoint 1191)
          (.directory (.actions [.writeMain 0 5 ⟨none, false, false⟩, .freePoint 0, .recheckMain 0]))) grant 1 (.unmapPoint 1191)
          (.directory (.actions [.writeMain 0 5 ⟨none, false, false⟩, .freePoint 0, .recheckMain 0])) := by decide +kernel
theorem witness_yard_reset_during_an_access :
    Takes (checking Rst.fresh) ∧ (checking Rst.fresh).rst.arbiter.serving.isSome = true := by decide +kernel
theorem witness_power_on_of_a_running_part :
    polling.running = true ∧ polling.line.exchange.map (·.sending) = some true := by decide +kernel

/-- The settings of the worked holder, naming a crown entry. -/
def naming (a : Nat) : HolderSettings := { settings true none with crownEntry := some a }

theorem witness_holder_names_a_crown_entry :
    (∀ a ∈ [1, 2, 62], settingsValid (naming a) = true) ∧ stations.line.entry 2 = none
      ∧ stations.line.entry 1 = some (newEntry 1 .meter 3) ∧ stations.line.entry 62 = some (newEntry 62 .crown 15)
      ∧ (newEntry 62 .crown 15).link = .none ∧ stations.crownEntry 5 = none ∧ (stations.holder 5).fitted = false
      ∧ (stations.holder 5).changeOver = none
      ∧ checked.yard.mode = .setup ∧ checked.line.entry 5 = some (entry 5 .crown (.holder 2)) ∧ (5 : Nat) ≠ 2 := by decide +kernel
theorem witness_district_names_a_telltale :
    Ready stations ∧ stations.line.entry 22 = some { newEntry 22 .telltale 1 with link := .district 5 }
      ∧ stations.line.entry 21 = some (newEntry 21 .governor 1)
      ∧ (let s := withEntries [newEntry 62 .telltale 1] State.reset
        Ready s ∧ s.line.entry 62 = some (newEntry 62 .telltale 1) ∧ s.telltaleEntry 7 = none)
      ∧ (let s : State := { peak with yard := { peak.yard with mode := .setup } }
        Ready s ∧ s.yard.mode = .setup ∧ (s.district 5).state ≠ .out) := by decide +kernel
/-- D7 in service in SETUP with a loading in flight, its stations at 21 and 22, free stations at 1 and 62. -/
def restationed (kind : EntryKind) : State :=
  withEntries [entry 21 .governor (.district 7), entry 22 .telltale (.district 7), newEntry 1 kind 1, newEntry 62 kind 15]
    ((inMode .setup).modDistrict 7 fun r => { r with state := .starved, inFlight := some 150 })

theorem witness_stations_of_a_district :
    (∀ kind ∈ [EntryKind.governor, .telltale], let s := restationed kind
      Ready s ∧ s.yard.mode = .setup ∧ pollSound s.line = true ∧ (s.district 7).state ≠ .out ∧ (s.district 0).state = .out
        ∧ s.line.entry 2 = none ∧ (s.district 7).inFlight = some 150
        ∧ (∀ a ∈ [1, 62], s.line.entry a = some (newEntry a kind (if a = 1 then 1 else 15)))
        ∧ s.line.entry 21 = some (entry 21 .governor (.district 7)) ∧ s.line.entry 22 = some (entry 22 .telltale (.district 7))
        ∧ s.line.linked .governor (.district 7) = s.line.entry 21 ∧ s.line.linked .telltale (.district 7) = s.line.entry 22
        ∧ s.line.linked kind (.district 0) = none ∧ (s.district 0).inFlight = none)
      ∧ (7 : DistrictId) ≠ 0
      ∧ (let s := (restationed .governor).modDistrict 7 fun r => { r with state := .out }
        Ready s ∧ (s.district 7).state = .out ∧ (s.line.linked .governor (.district 7)).isSome = true
          ∧ (s.line.linked .telltale (.district 7)).isSome = true) := by decide +kernel
theorem witness_both_stations_of_a_district :
    let s := withEntries [newEntry 1 .governor 1, newEntry 62 .telltale 15] (inMode .setup)
    Ready s ∧ pollSound s.line = true ∧ s.line.entry 1 = some (newEntry 1 .governor 1) ∧ s.line.entry 62 = some (newEntry 62 .telltale 15)
      ∧ s.governorEntry 5 = none ∧ s.telltaleEntry 5 = none ∧ (s.district 5).inFlight = none
      ∧ exec (.setDistrictStations 1 5 (some 62) none) s = .next (withResponse s 1 0x03 .noRecord [])
      ∧ exec (.setDistrictStations 1 5 none (some 1)) s = .next (withResponse s 1 0x03 .noRecord [])
      ∧ exec (.setDistrictStations 1 5 (some 1) none) s = .next (withResponse
          { s with line := { s.line with entries := [{ newEntry 1 .governor 1 with link := .district 5 }, newEntry 62 .telltale 15] } }
          1 0x03 .done []) := by
  refine ⟨?_, ?_, ?_, ?_, ?_, ?_, ?_, ?_, ?_, ?_⟩ <;> first | decide +kernel | rfl
-- 04 R63: the station before is released, and a loading in flight is placed on the governor entry newly named
theorem test_another_governor_takes_the_loading :
    let s := next (.setDistrictStations 1 7 (some 62) none) (restationed .governor)
    (s.line.entry 62).map (fun e => (e.link, e.command)) = some (.district 7, some (.loading 150))
      ∧ (s.line.entry 21).map (fun e => (e.link, e.command)) = some (.none, none)
      ∧ (s.telltaleEntry 7).map (·.address) = some 22 ∧ results s = [.done] := by decide +kernel
theorem witness_entries_set_again_or_deleted :
    pollSound stations.line = true ∧ stations.line.entry 62 = some (newEntry 62 .crown 15) ∧ (newEntry 62 .crown 15).kind ≠ .meter
      ∧ (checked.line.entry 62).map (·.link) = some .yard ∧ checked.yard.mode = .setup ∧ Ready checked := by decide +kernel

/-- A meter at 62 with its channel 3 as given. -/
def meteredThree (c : Channel) : State :=
  withEntries [{ entry 62 .meter .none with channels := #v[Channel.starting, Channel.starting, Channel.starting, c] }] mapped

theorem witness_channel_bound_anew :
    let s : State := { meteredThree channel with yard := { Yard.starting with mode := .setup } }
    Ready s ∧ s.bke.inHand = none ∧ (s.channel 62 3) = some channel ∧ channel.enabled = true ∧ channel.point ≠ 4095
      ∧ channel.constant ≠ 1 := by decide +kernel

/-- A crown reply of H2 is taken and judged, with no change-over in flight. -/
abbrev Judged (s : State) : Prop :=
  s.running = true ∧ s.yard.mode = .working ∧ s.inTransit = [] ∧ (s.holder 2).fitted = true ∧ (s.crownEntry 2).isSome = true
    ∧ (s.holder 2).changeOver = none ∧ (s.holder 2).answering = true

/-- H2 under the quantity order given, tracked from a start stock, its valves proved. -/
def tracked (r : Holder) (o : Order) (next : Option Order) (start : Nat) : Holder := { r with
  active := some o, next := next, startStock := some start, activationWaits := false }

theorem witness_fill_is_tracked :
    ∀ n ∈ [1, 2], let s := yardOf (tracked (filling.holder 2) ⟨.fill, none, some n, .stand, false⟩ none 203205)
      Ready s ∧ Judged s ∧ (s.holder 2).state = .filling ∧ s.feedOf 2 = none ∧ (s.holder 2).inletIntent = .opened
        ∧ (s.holder 2).outletIntent = .closed
        ∧ (s.holder 2).height = 4250 ∧ 4250 < (s.holder 2).topStop ∧ 4250 ≤ totalStroke (s.holder 2).lifts
        ∧ (let r := ({ s.holder 2 with
              height := 4250, temp := 450, jump := none, provedInlet := .opened, provedOutlet := .closed }).recompute s.yard.barometer
          r.stagePressure = (s.holder 2).stagePressure ∧ r.stock - 203205 = 1) := by decide +kernel
theorem witness_fill_ends_before_a_stand :
    ((yardOf (tracked (filling.holder 2) fill (some ⟨.stand, none, none, .stand, false⟩) 203205)).holder 2).next
      = some ⟨.stand, none, none, .stand, false⟩ := by decide +kernel

/-- H2 drawing into D1 under a DRAW of the quantity and end action given, with H0 a second feed that answers or not. -/
def drawn (n : Nat) (a : EndAction) (second : Bool) : State :=
  let s := (drawing.setHolder 2 (tracked (drawing.holder 2) ⟨.draw, some 1, some n, a, false⟩ none 203207)).modDistrict 1 fun r =>
    { r with feeds := [2, 0] }
  s.modHolder 0 fun r => { r with answering := second }

theorem witness_draw_is_tracked :
    ∀ n ∈ [1, 2], ∀ a ∈ [EndAction.cont, .stand], let s := drawn n a false
      Ready s ∧ Judged s ∧ (s.holder 2).state = .drawing ∧ s.feedOf 2 = some 1 ∧ (s.holder 2).lowStop < 4250
        ∧ (s.holder 2).inletIntent = .closed ∧ (s.holder 2).outletIntent = .opened
        ∧ (s.district 1).state.inService = true
        ∧ (let r := ({ s.holder 2 with
              height := 4250, temp := 450, jump := none, provedInlet := .closed, provedOutlet := .opened }).recompute s.yard.barometer
          r.stagePressure = (s.holder 2).stagePressure ∧ 203207 - r.stock = 1)
        ∧ (∀ g ∈ (s.district 1).feeds, g = 2 ∨ (s.holder g).answering = false) := by decide +kernel
theorem witness_draw_of_two_feeds :
    (0 : HolderId) ∈ ((drawn 1 .stand true).district 1).feeds ∧ ((drawn 1 .stand true).holder 0).answering = true := by decide +kernel

/-- Six steps at the ends of the day and of the set-points. -/
def sixSteps : List ScheduleStep := [⟨0, 10⟩, ⟨1, 150⟩, ⟨2, 10⟩, ⟨3, 10⟩, ⟨4, 10⟩, ⟨1439, 150⟩]

theorem witness_schedule_and_standby_are_taken :
    Ready filling ∧ (filling.holder 2).fitted = true ∧ (filling.holder 5).fitted = false
      ∧ sixSteps.Pairwise (fun a b => a.start < b.start) ∧ sixSteps.length = 6
      ∧ (∀ t ∈ sixSteps, t.start ≤ 1439 ∧ 10 ≤ t.setPoint ∧ t.setPoint ≤ 150)
      ∧ (filling.district 7).floor ≤ (filling.district 7).ceiling ∧ (filling.district 7).comp ≤ (filling.district 7).compMax
      ∧ (filling.district 7).state = .out ∧ filling.occasions = [] ∧ ([2] : List HolderId).Nodup ∧ ¬ ([2, 2] : List HolderId).Nodup
      ∧ (6 : Nat) ≤ 6 ∧ 6 < (sixSteps ++ sixSteps).length := by decide +kernel
/-- SET-DISTRICT with a floor and nothing else. -/
def floorAt (n : Nat) : DistrictSettings := ⟨none, some n, none, none, none, none, none, none, none, none⟩

theorem witness_schedules_out_of_order :
    (let l : List ScheduleStep := [⟨65535, 255⟩, ⟨0, 0⟩];
      [(⟨0, 10⟩ : ScheduleStep), ⟨1439, 150⟩].Perm (l.map fun t => ⟨min t.start 1439, clampTo 10 150 t.setPoint⟩)
        ∧ [(⟨0, 10⟩ : ScheduleStep), ⟨1439, 150⟩].Pairwise (fun a b => a.start < b.start))
      ∧ ¬ ([(⟨1439, 10⟩ : ScheduleStep), ⟨65535, 10⟩].map fun t => min t.start 1439).Nodup
      ∧ clampTo 20 150 0 < clampTo 20 150 255 ∧ (peak.district 5).ceiling < clampTo 20 150 81 := by decide +kernel
theorem witness_district_in_service_is_set :
    Ready peak ∧ peak.occasions = [] ∧ peak.attempt = none ∧ (peak.district 5).state.inService = true
      ∧ (peak.district 5).schedule.Pairwise (fun a b => a.start < b.start)
      ∧ setPointAt 1019 (peak.district 5).setPoint (peak.district 5).schedule = 35 ∧ clampTo 25 80 (35 + 3) = (peak.district 5).loading
      ∧ stateOfFeeds peak.view (peak.district 5).feeds (38 + 10) (peak.district 5).available = .serving
      ∧ clampTo 60 80 (35 + 3) = 60 ∧ stateOfFeeds peak.view (peak.district 5).feeds (60 + 10) (peak.district 5).available = .short
      ∧ peak.yard.mode = .working ∧ (peak.district 5).autoJoin = true ∧ (peak.district 5).joinInHand = none := by decide +kernel
theorem witness_set_district_tries_a_join :
    (peak.district 5).standby = [3, 0] ∧ (peak.district 5).feeds.length + (peak.district 5).pendingJoins.length < 3
      ∧ ¬ Candidate peak (60 + 10) 3 ∧ Candidate peak (60 + 10) 0 ∧ ¬ Candidate peak (80 + 10) 0
      ∧ 3 ≤ ((peak.modDistrict 5 fun r => { r with feeds := [2, 4], pendingJoins := [1] }).district 5).feeds.length + 1
      ∧ (let s := peak.modDistrict 5 fun r => { r with autoJoin := false, state := .short }
        (s.district 5).autoJoin = false ∧ (s.district 5).state = .short
          ∧ stateOfFeeds s.view (s.district 5).feeds (60 + 10) (s.district 5).available = (s.district 5).state)
      ∧ ((peak.modDistrict 5 fun r => { r with autoJoin := false }).district 5).state = .serving := by decide +kernel
-- 04 R71, R72, R78 to R80: the floor raises the loading, which goes in flight; the district is SHORT, and H0 of its standby list is asked
theorem test_a_raised_floor_delivers_and_tries_a_join :
    let s := next (.setDistrict 1 5 (floorAt 60)) peak
    let r := s.district 5
    (r.loading, r.inFlight, r.required) = (60, some 60, 70) ∧ r.state = .short ∧ r.latches.short = true
      ∧ (s.governorEntry 5).bind (·.command) = some (.loading 60) ∧ s.attempt = some ⟨5, 0⟩ ∧ s.inTransit = [.automaticDraw 0 5]
      ∧ results s = [.done] := by decide +kernel
theorem witness_district_in_is_refused :
    (let s := outWith [governorFive .untried false, entry 22 .telltale (.district 5)];
      Ready s ∧ s.governorEntry 5 = some (governorFive .untried false) ∧ (governorFive .untried false).state ≠ .answering)
      ∧ (let s := outWith [governorFive .answering true, entry 22 .telltale (.district 5)]
        Ready s ∧ s.governorEntry 5 = some (governorFive .answering true))
      ∧ Ready (outWith []) ∧ (outWith []).telltaleEntry 5 = none ∧ (outWith []).governorEntry 5 = none
      ∧ ((outWith []).district 5).state = .out := by decide +kernel
theorem witness_district_restore_is_refused :
    (∀ es ∈ [[], [entry 21 .governor (.district 5)], [governorFive .silent true]],
      let s := withEntries es trippedFive
      Ready s ∧ (s.district 5).state = .tripped)
      ∧ (withEntries [] trippedFive).governorEntry 5 = none
      ∧ (entry 21 .governor (.district 5)).last = none
      ∧ (governorFive .silent true).last = some (.governor ⟨30, some 30, true⟩) := by decide +kernel

/-- H2 with a change-over under way. -/
def underway (inlet outlet : Valve) (c : ChangeOver) : State := yardOf { holderIn .changing inlet outlet with changeOver := some c }

/-- H2 changes over, not to ISOLATED, with the move given started. -/
abbrev Moving (s : State) (c : ChangeOver) (m : Move) : Prop :=
  Takes s ∧ (s.holder 2).fitted = true ∧ (s.holder 2).state = .changing ∧ (s.holder 2).changeOver = some c ∧ c.target ≠ .isolated
    ∧ c.started = true ∧ c.moves[c.step]? = some m

theorem witness_isolate_takes_a_driven_valve_over :
    (let c : ChangeOver := ⟨.floating 7, [.closeInlet, .openOutlet, .join 7], 0, true, some 10⟩
    Moving (underway .closed .closed c) c .closeInlet ∧ c.moves.findSome? Move.district = some 7)
      ∧ (let c : ChangeOver := ⟨.drawing 7, [.openOutlet, .join 7], 0, true, some 10⟩
        Moving (underway .closed .opened c) c .openOutlet)
      ∧ (let c : ChangeOver := ⟨.standing, [.leave, .closeOutlet], 1, true, some 10⟩
        Moving (underway .closed .closed c) c .closeOutlet)
      ∧ (let c : ChangeOver := ⟨.filling, [.openInlet], 0, true, some 900⟩
        Moving (changing none none none) c .openInlet ∧ c.moves.findSome? Move.district = none) := by decide +kernel
theorem witness_isolate_from_floating_and_faulted :
    (let s := (yardOf (holderIn .floating .opened .opened)).modDistrict 1 fun r => { r with feeds := [2] }
    Takes s ∧ (s.holder 2).fitted = true ∧ (s.holder 2).state = .floating ∧ (s.holder 2).changeOver = none ∧ s.feedOf 2 = some 1)
      ∧ (∀ v ∈ [Valve.opened, .closed], ∀ w ∈ [Valve.opened, .closed],
        let s := yardOf (holderIn .faulted v w)
        Takes s ∧ (s.holder 2).fitted = true ∧ (s.holder 2).state = .faulted ∧ (s.holder 2).changeOver = none ∧ s.feedOf 2 = none
          ∧ (s.holder 2).inletIntent = v ∧ (s.holder 2).outletIntent = w) := by decide +kernel
theorem witness_isolate_between_moves :
    (let c : ChangeOver := ⟨.drawing 7, [.openOutlet, .join 7], 1, false, none⟩
      let s := underway .closed .opened c
      Takes s ∧ (s.holder 2).state = .changing ∧ (s.holder 2).changeOver = some c ∧ c.target ≠ .isolated ∧ c.started = false
        ∧ c.moves.findSome? Move.district = some 7 ∧ s.feedOf 2 = none)
      ∧ (let c : ChangeOver := ⟨.drawing 7, [.openOutlet, .join 7], 1, true, none⟩
        Moving (underway .closed .opened c) c (.join 7) ∧ c.moves.findSome? Move.district = some 7)
      ∧ (let c : ChangeOver := ⟨.drawing 0, [.leave, .join 0], 0, true, none⟩
        Moving (underway .closed .opened c) c .leave) := by decide +kernel

/-- H2 with a last quantity order, with D1 SERVING from the feeds given. -/
def repeating (st : HolderState) (outlet : Valve) (o : Order) (feeds : List HolderId) : State :=
  (yardOf { holderIn st .closed outlet with lastOrder := some o }).modDistrict 1 fun r => { r with state := .serving, feeds := feeds }

/-- The least quantity DRAW from D1, with the end action CONTINUE. -/
def leastDraw : Order := ⟨.draw, some 1, some 1, .cont, false⟩

theorem witness_repeat_outside_a_change_over :
    (let s := repeating .standing .closed fill []
    Ready s ∧ s.yard.mode = .working ∧ (s.holder 2).fitted = true ∧ (s.holder 2).changeOver = none ∧ (s.holder 2).active = none
        ∧ (s.holder 2).next = none ∧ (s.holder 2).state = .standing ∧ (s.holder 2).lastOrder = some ⟨.fill, none, some 16000000, .stand, false⟩
        ∧ (s.holder 2).height < (s.holder 2).topStop ∧ s.wasTopStop 2 = false ∧ s.feedOf 2 = none
        ∧ (let u := s.modHolder 2 fun r => { r with height := r.topStop }
          Ready u ∧ (u.holder 2).topStop ≤ (u.holder 2).height))
      ∧ (let s := repeating .standing .closed leastDraw [0]
        Ready s ∧ (s.holder 2).lastOrder = some leastDraw ∧ (s.district 1).state = .serving ∧ (s.holder 2).lowStop < (s.holder 2).height
          ∧ s.wasLanding 2 = false ∧ (s.holder 2).state = .standing ∧ s.feedOf 2 = none ∧ 2 ∉ (s.district 1).feeds
          ∧ (s.district 1).feeds.length + joinsHeld s 1 < 3)
      ∧ (let s := repeating .drawing .opened leastDraw [2]
        Ready s ∧ (s.holder 2).lastOrder = some leastDraw ∧ (s.district 1).state = .serving ∧ (s.holder 2).state = .drawing
          ∧ s.feedOf 2 = some 1 ∧ 2 ∈ (s.district 1).feeds ∧ (s.holder 2).lowStop < (s.holder 2).height) := by decide +kernel
theorem witness_repeat_and_return_are_refused :
    (∀ st ∈ [HolderState.recovering, .isolated, .faulted], let s := yardOf (holderIn st .closed .closed)
      Ready s ∧ s.yard.mode = .working ∧ (s.holder 2).fitted = true ∧ (s.holder 2).state = st)
      ∧ (filling.holder 5).fitted = false
      ∧ (let c : ChangeOver := ⟨.isolated, [.closeOutlet], 0, true, some 1⟩
        let s := underway .closed .closed c
        Ready s ∧ (s.holder 2).state = .changing ∧ (s.holder 2).changeOver = some c ∧ c.target = .isolated)
      ∧ (let s := yardOf (holderIn .faulted .opened .closed)
        (s.holder 2).state = .faulted ∧ (s.holder 2).changeOver = none ∧ (s.holder 2).provedInlet = .closed
          ∧ (s.holder 2).provedOutlet = .closed)
      ∧ (let c : ChangeOver := ⟨.isolated, [.closeOutlet], 0, true, some 1⟩
        let s := yardOf { holderIn .faulted .closed .closed with changeOver := some c }
        Ready s ∧ (s.holder 2).fitted = true ∧ (s.holder 2).state = .faulted ∧ (s.holder 2).changeOver = some c
          ∧ c.target = .isolated) := by decide +kernel

theorem witness_map_point_allocates_tables :
    Ready mapped ∧ StoreIdle mapped ∧ mapped.bke.inHand = none ∧ storesSound mapped.rst = true ∧ Clean mapped 41
      ∧ (mapped.rst.account 41).state ≠ .free ∧ (mapped.district (pointDistrict 4095)).root.table = none
      ∧ mapped.rst.freeMains = 1 :: List.range' 2 22 ∧ mapped.rst.freePoints = 1 :: List.range' 2 62 ∧ 1 ∉ List.range' 2 22
      ∧ 1 ∉ List.range' 2 62
      ∧ (let s := mapped.modRst fun r => { r with freeMains := [23], freePoints := [63] }
        Ready s ∧ StoreIdle s ∧ s.bke.inHand = none ∧ storesSound s.rst = true ∧ Clean s 41 ∧ (s.rst.account 41).state ≠ .free
          ∧ (s.district (pointDistrict 4095)).root.table = none ∧ s.rst.freeMains = [23] ∧ s.rst.freePoints = [63])
      ∧ (mapped.district (pointDistrict 1024)).root.table = some 0 ∧ Clean mapped (mainSlot 0)
      ∧ (mapped.rst.desc 0 (mainIndex 1024)).table = none := by decide +kernel
theorem witness_map_point_without_tables :
    (let s := mapped.modRst fun r => { r with freePoints := [] }
    Ready s ∧ StoreIdle s ∧ s.bke.inHand = none ∧ storesSound s.rst = true ∧ Clean s 41 ∧ (s.rst.account 41).state ≠ .free
        ∧ (s.district (pointDistrict 4095)).root.table = none ∧ s.rst.freePoints = []
        ∧ (s.district (pointDistrict 1024)).root.table = some 0 ∧ Clean s (mainSlot 0) ∧ (s.rst.desc 0 (mainIndex 1024)).table = none)
      ∧ (let s := mapped.modRst fun r => r.setDamaged (pointSlot 0) true
        Ready s ∧ StoreIdle s ∧ s.bke.inHand = none ∧ storesSound s.rst = true ∧ Clean s 41 ∧ (s.rst.account 41).state ≠ .free
          ∧ (s.district (pointDistrict 1210)).root.table = some 0 ∧ Clean s (mainSlot 0)
          ∧ (s.rst.desc 0 (mainIndex 1210)).table = some 0 ∧ s.rst.isDamaged (pointSlot 0) = true) := by decide +kernel

/-- The worked store with point 1191's leaf alone, its main descriptor barred, and the descriptors given beside it. -/
def lastLeaf (others : Rst → Rst) : State :=
  mapped.modRst fun r => others ((r.putLeaf 0 16 Leaf.invalid).putDesc 0 5 ⟨some 0, true, true⟩)

theorem witness_unmap_point_frees_tables :
    (∀ s ∈ [lastLeaf id, lastLeaf fun r => r.putDesc 0 15 ⟨some 1, false, false⟩],
      Ready s ∧ StoreIdle s ∧ s.bke.inHand = none ∧ SoundPath s 1191 0 0 ∧ storesSound s.rst = true
        ∧ (s.rst.leaf 0 (pointIndex 1191)).kind ≠ .invalid ∧ 0 ∉ s.rst.freePoints
        ∧ ∀ q ∈ s.rst.pointTable 0, q.1 ≠ pointIndex 1191 → q.2.kind = .invalid)
      ∧ (∃ q ∈ (lastLeaf fun r => r.putDesc 0 15 ⟨some 1, false, false⟩).rst.mainTable 0, q.1 ≠ mainIndex 1191 ∧ q.2.table ≠ none)
      ∧ (∀ q ∈ (lastLeaf id).rst.mainTable 0, q.1 ≠ mainIndex 1191 → q.2.table = none) ∧ 0 ∉ (lastLeaf id).rst.freeMains
      ∧ SoundPath mapped 1210 0 0 ∧ (mapped.rst.leaf 0 (pointIndex 1210)).kind = .invalid := by decide +kernel

theorem witness_slots_that_a_point_may_not_name :
    Ready accounts ∧ StoreIdle accounts ∧ accounts.bke.inHand = none ∧ Clean accounts 254 ∧ (accounts.rst.account 254).state = .free
      ∧ accounts.rst.isDamaged 253 = true := by decide +kernel
theorem witness_adjust_with_a_damaged_slot :
    accounts.rst.isDamaged 253 = true ∧ Clean accounts 255 ∧ (accounts.rst.account 255).state ≠ .free ∧ (253 : Nat) ≠ 255
      ∧ (let s := accounts.modRst fun r => { r with damaged := [(1, true), (253, true)] }
        Ready s ∧ StoreIdle s ∧ s.rst.isDamaged 1 = true ∧ s.rst.isDamaged 253 = true) := by decide +kernel
/-- A state whose lone head is a RETIRE-ACCOUNT with the work given. -/
def retireHead (slot : Nat) (w : HeadWork) (s : State) : State := startedHead s 1 (.retireAccount slot) w

/-- The head of `retireHead` awaits its work's access. -/
abbrev Retires (slot : Nat) (w : HeadWork) (s : State) : Prop := HeadAwaits (retireHead slot w s) grant 1 (.retireAccount slot) w

/-- A state with flawed words in one slot alone. -/
def flawed (n words : Nat) (s : State) : State := { s with rst := { s.rst with flaws := [(n, words)] } }
/-- A state with a direct route to slot 255. -/
def routed (s : State) : State :=
  { s with bke := { s.bke with routes := #v[startingRoute, ⟨true, 0, 4095, some 255, false⟩] } }

theorem witness_retire_check_of_each_slot :
    (∀ slot ∈ [251, 252, 253, 254, 255], Retires slot .retireCheck accounts)
      ∧ (let s := retireHead 254 .retireCheck accounts
        ReadsAs s 254 s ∧ (s.rst.account 254).state = .free)
      ∧ (let s := retireHead 251 .retireCheck accounts
        ReadsAs s 251 s ∧ (s.rst.account 251).state = .opened)
      ∧ (let s := retireHead 253 .retireCheck accounts
        s.rst.isDamaged 253 = true)
      ∧ (let s := retireHead 252 .retireCheck accounts
        Uncorrectable s 252)
      ∧ (let s := retireHead 255 .retireCheck accounts
        ReadsAs s 255 s ∧ (s.rst.account 255).state = .closed ∧ NoTotals (s.rst.account 255) ∧ s.bke.routes[0].slot ≠ some 255
          ∧ s.bke.routes[1].slot ≠ some 255 ∧ [] = s.rst.pointAlloc.filterMap fun p => p.2.map fun _ => p.1) := by decide +kernel
theorem witness_retire_check_goes_on :
    Retires 255 .retireCheck (routed accounts) ∧ (routed accounts).bke.routes[1].slot = some 255
      ∧ (let s := retireHead 255 .retireCheck (retiring 40)
        Retires 255 .retireCheck (retiring 40) ∧ ReadsAs s 255 s ∧ (s.rst.account 255).state = .closed ∧ NoTotals (s.rst.account 255)
          ∧ s.bke.routes[0].slot ≠ some 255 ∧ s.bke.routes[1].slot ≠ some 255
          ∧ [0] = s.rst.pointAlloc.filterMap fun p => p.2.map fun _ => p.1)
      ∧ (let s := retireHead 255 .retireCheck (flawed 255 1 accounts)
        Retires 255 .retireCheck (flawed 255 1 accounts) ∧ ReadsAs s 255 (slotCorrected s 255)) := by decide +kernel
theorem witness_scan_of_several_tables :
    (∀ left ∈ [[], [1, 63]], ∀ slot ∈ [40, 255], Retires 255 (.retireScan (0 :: left)) (retiring slot)
        ∧ ReadsAs (retireHead 255 (.retireScan (0 :: left)) (retiring slot)) (pointSlot 0)
          (retireHead 255 (.retireScan (0 :: left)) (retiring slot)))
      ∧ (∃ p ∈ (retireHead 255 (.retireScan [0, 1, 63]) (retiring 255)).rst.pointTable 0, p.2.kind = .account 255)
      ∧ (∀ p ∈ (retireHead 255 (.retireScan [0, 1, 63]) (retiring 40)).rst.pointTable 0, p.2.kind ≠ .account 255)
      ∧ (let s := retireHead 255 (.retireScan [0]) (flawed 280 1 (retiring 255))
        Retires 255 (.retireScan [0]) (flawed 280 1 (retiring 255)) ∧ ReadsAs s (pointSlot 0) (slotCorrected s (pointSlot 0))) := by
  decide +kernel
theorem witness_scan_of_a_damaged_table :
    (let s := (retiring 255).modRst fun r => r.setDamaged (pointSlot 0) true
    Retires 255 (.retireScan [0]) s ∧ (retireHead 255 (.retireScan [0]) s).rst.isDamaged (pointSlot 0) = true)
      ∧ Retires 255 (.retireScan [0, 1]) (flawed 280 2 (retiring 255))
      ∧ Uncorrectable (retireHead 255 (.retireScan [0, 1]) (flawed 280 2 (retiring 255))) (pointSlot 0) := by decide +kernel
theorem witness_retire_final_access :
    (∀ slot ∈ [251, 252, 253, 255], Retires slot .retireFinal accounts)
      ∧ (let s := retireHead 255 .retireFinal accounts
        ReadsAs s 255 s ∧ (s.rst.account 255).state = .closed ∧ NoTotals (s.rst.account 255))
      ∧ (let s := retireHead 251 .retireFinal accounts
        ReadsAs s 251 s ∧ (s.rst.account 251).state ≠ .closed)
      ∧ (retireHead 253 .retireFinal accounts).rst.isDamaged 253 = true
      ∧ Uncorrectable (retireHead 252 .retireFinal accounts) 252 := by decide +kernel

theorem witness_close_reads_slot_255 :
    HeadAwaits (closing 255 accounts) grant 1 .closePeriod (.closeScan 255 Sums.zero) ∧ Clean (closing 255 accounts) 255
      ∧ ((closing 255 accounts).rst.account 255).state ≠ .free
      ∧ HeadAwaits (closing 255 mapped) grant 1 .closePeriod (.closeScan 255 Sums.zero) ∧ Clean (closing 255 mapped) 255
      ∧ ((closing 255 mapped).rst.account 255).state = .free := by decide +kernel
theorem witness_pass_reads_its_last_table :
    HeadAwaits (passing [0] []) grant 1 .closePeriod (.closePass [0] [] Sums.zero) ∧ Clean (passing [0] []) (pointSlot 0)
      ∧ ((passing [0] []).rst.pointTable 0).filterMap (fun p => if p.2.booked && !p.2.global then some p.1 else none) = []
      ∧ HeadAwaits (passing [1] [⟨⟨0, 7, .account 41⟩, false⟩]) grant 1 .closePeriod (.closePass [1] [⟨⟨0, 7, .account 41⟩, false⟩] Sums.zero)
      ∧ ((passing [1] [⟨⟨0, 7, .account 41⟩, false⟩]).rst.leaf 0 7).kind ≠ .account 41 := by decide +kernel
theorem witness_pass_reads_a_damaged_table :
    let s := startedHead (mapped.modRst fun r => r.setDamaged (pointSlot 0) true) 1 .closePeriod (.closePass [0] [] Sums.zero)
    HeadAwaits s grant 1 .closePeriod (.closePass [0] [] Sums.zero) ∧ s.rst.isDamaged (pointSlot 0) = true := by decide +kernel
theorem witness_balance_reads_slot_255 :
    HeadAwaits (balancing 255 accounts) grant 1 .lookBalance (.balance 255 Sums.zero) ∧ Clean accounts 255
      ∧ (accounts.rst.account 255).state ≠ .free ∧ (accounts.rst.account 255).period = grant.period
      ∧ (let s := balancing 255 (accounts.modRst fun r => r.putAccount 255 (Account.suspense 1))
        HeadAwaits s grant 1 .lookBalance (.balance 255 Sums.zero) ∧ Clean s 255 ∧ (s.rst.account 255).period ≠ grant.period)
      ∧ (let s := balancing 255 (accounts.modRst fun r => r.setDamaged 255 true)
        HeadAwaits s grant 1 .lookBalance (.balance 255 Sums.zero) ∧ s.rst.isDamaged 255 = true) := by decide +kernel

theorem witness_late_frame_is_received :
    let s : State := { polling with line := { polling.line with lateFrame := true, rx := .frame [] } }
    s.running = true ∧ s.line.tx ≠ [] ∧ s.line.exchange.map (·.sending) = some true ∧ readingFits (.meter ⟨65535, -32768, #v[0, 0, 0, 65535]⟩) = true
      ∧ polling.line.lateFrame = false := by decide +kernel

/-- R167, R171: a wait that expires with the receiver in HUNT has no frame to finish, and a START that comes while OLDIR is high is
not taken; one that expires in a frame lets it run on. -/
theorem test_late_frame_needs_a_frame_begun :
    let s := next .pollSent polling
    let t := next .replyWaitExpiry s
    let u := next .replyWaitExpiry (s.modLine fun l => { l with rx := .frame [] })
    s.line.rx = .hunt ∧ t.line.tx ≠ [] ∧ t.line.lateFrame = false ∧ next (.lineFrameEnd [Config.startByte, 1]) t = t
      ∧ u.line.lateFrame = true ∧ (next (.lineFrameEnd [Config.abortByte, Config.startByte]) u).line.rx = .hunt := by decide +kernel

theorem witness_scrub_finds_a_damaged_slot :
    ∀ p ∈ [0, 1, 255, 256, 343], let s := checking { Rst.fresh with flaws := [(p, 2)], scrubPointer := p }
      Serves s ⟨.scrub, 0, 2992, 500, false⟩ .scrub ∧ s.rst.isDamaged p = false ∧ s.rst.flawsOf p = 2 := by decide +kernel

/-- A reading of the worked holder's crown with both valves closed. -/
def shut (height : Nat) (landing : Bool) : CrownReading := ⟨height, 450, false, true, false, true, false, landing⟩

theorem witness_each_height_is_taken :
    let r := holderIn .standing .closed .closed
    TakesHeight r (shut 65535 true) { r with height := 0, jump := none }
      ∧ TakesHeight r (shut 4450 false) { r with height := 4450, jump := none }
      ∧ TakesHeight r (shut 4451 false) { r with jump := some ⟨4451, 1⟩ }
      ∧ (let r := { r with jump := some ⟨4451, 2⟩ }; TakesHeight r (shut 4652 false) { r with jump := some ⟨4652, 1⟩ })
      ∧ (let r := { r with jump := some ⟨4451, 1⟩ }; TakesHeight r (shut 4651 false) { r with jump := some ⟨4651, 2⟩ })
      ∧ (let r := { r with jump := some ⟨4451, 2⟩ }
        TakesHeight r (shut 4651 false) { r with
          height := 4651, jump := none, latches := { r.latches with crownJump := true } }) := by
  refine ⟨⟨_, rfl, .inl ?_⟩, ⟨_, rfl, .inr (.inl ?_)⟩, ⟨_, rfl, .inr (.inr (.inl ?_))⟩,
    ⟨_, rfl, .inr (.inr (.inr ⟨_, rfl, ?_, rfl, .inl ?_⟩))⟩, ⟨_, rfl, .inr (.inr (.inr ⟨_, rfl, ?_, rfl, .inr (.inl ?_)⟩))⟩,
    ⟨_, rfl, .inr (.inr (.inr ⟨_, rfl, ?_, rfl, .inr (.inr ?_)⟩))⟩⟩ <;> decide +kernel

theorem witness_low_stop_is_reached :
    let s := drawing.modHolder 2 fun r => { r with lowStop := 4250 }
    Judged s ∧ (∀ e : DistrictId, 2 ∈ (s.district e).feeds ↔ e = 1) ∧ (s.holder 2).state = .drawing
      ∧ (s.holder 2).inletIntent = .closed ∧ (s.holder 2).outletIntent = .opened
      ∧ (s.holder 2).height ≤ (s.holder 2).lowStop ∧ (s.holder 2).active = none ∧ (s.holder 2).startStock = none := by decide +kernel
theorem witness_top_stop_is_reached_floating :
    let s := (drawing.setHolder 2 (holderIn .floating .opened .opened)).modHolder 2 fun r =>
      { r with topStop := 4250, active := some ⟨.float, some 1, none, .stand, false⟩ }
    Judged s ∧ (∀ e : DistrictId, 2 ∈ (s.district e).feeds ↔ e = 1) ∧ (s.holder 2).state = .floating
      ∧ (s.holder 2).inletIntent = .opened ∧ (s.holder 2).outletIntent = .opened
      ∧ (s.holder 2).topStop ≤ (s.holder 2).height ∧ (s.holder 2).lowStop < (s.holder 2).height := by decide +kernel
theorem witness_top_stop_is_reached_filling :
    let s := yardOf (tracked (filling.holder 2) fill (some fill) 0)
    Judged s ∧ (∀ e : DistrictId, 2 ∉ (s.district e).feeds) ∧ (s.holder 2).state = .filling ∧ (s.holder 2).inletIntent = .opened
      ∧ (s.holder 2).outletIntent = .closed := by decide +kernel
theorem witness_orders_end_at_a_limit :
    let r := filling.holder 2
    (let x := { r with active := none }; LimitEnded x x x x)
      ∧ LimitEnded r r r { r with
          active := none, activationWaits := false, latches := { r.latches with orderShort := true } }
      ∧ (let r := tracked r fill (some fill) 0
        LimitEnded r r r { r with
          active := some fill, next := none, activationWaits := true, remainder := some 15796794
          latches := { r.latches with orderShort := true } }) := by
  refine ⟨.inl ⟨rfl, rfl, rfl⟩, .inr (.inl ⟨_, rfl, rfl, rfl, ?_⟩), .inr (.inr ⟨_, _, _, _, rfl, rfl, rfl, rfl, rfl, ?_, ?_⟩)⟩ <;>
    decide +kernel

/-- D1 SHORT with automatic joins enabled and the standby list given, H2 STANDING above its required pressure. -/
def shortOne (standby feeds : List HolderId) : State := (served feeds).modDistrict 1 fun r =>
  { r with state := .short, autoJoin := true, standby := standby, required := 60 }

theorem witness_occasions_of_a_standing_notice :
    let s := shortOne [5, 2] [0, 1]
    s.running = true ∧ (∀ e : DistrictId, 2 ∉ (s.district e).feeds) ∧ (∀ e : DistrictId, 2 ∈ (s.district e).standby ↔ e = 1)
      ∧ s.occasions = [] ∧ s.attempt = none ∧ (s.district 1).feeds.length + (s.district 1).pendingJoins.length = 2
      ∧ ((shortOne [2] [0, 1, 3]).district 1).feeds.length = 3 := by decide +kernel
theorem witness_occasion_makes_an_attempt :
    Attempts (shortOne [5, 2] [0, 1]) 1 ∧ ¬ Attempts (served []) 1
      ∧ ({ shortOne [2] [] with attempt := some ⟨1, 2⟩ } : State).attempt.isSome = true := by decide +kernel
theorem witness_candidates_of_a_standby_list :
    ¬ Candidate (shortOne [5, 2] [0, 1]) 60 5 ∧ Candidate (shortOne [5, 2] [0, 1]) 60 2
      ∧ ¬ Candidate (shortOne [5, 2] [0, 1]) 61 2 := by decide +kernel
theorem witness_automatic_draw_in_setup :
    let s := checked
    s.running = true ∧ (s.holder 2).fitted = true ∧ s.yard.mode = .setup := by decide +kernel
theorem witness_pending_join_is_taken_first :
    let n : HolderNotice := ⟨2, true, 600, none, false, false⟩
    let s := { served [0, 1] with inTransit := [.joinPendingNotice n 1, .autoJoinAnswer 2 1 .done] }
    n.holder = 2 ∧ s.occasions = [] ∧ (∀ e : DistrictId, 2 ∉ (s.district e).feeds) := by decide +kernel
theorem witness_notice_leaves_a_district :
    let n : HolderNotice := ⟨2, false, 0, none, false, false⟩
    n.holder ∈ (drawing.district 1).feeds ∧ n.holder ∉ (drawing.district 1).feeds.filter (· ≠ n.holder)
      ∧ (let s := (served []).modDistrict 1 fun r => { r with joinInHand := some 2, pendingJoins := [2] }
        (s.district 1).joinInHand = some n.holder ∧ n.holder ∉ (s.district 1).feeds ∧ (s.district 1).state.inService = true)
      ∧ ((drawing.modDistrict 1 fun r => { r with state := .tripped }).district 1).state.inService = false := by decide +kernel
theorem witness_trip_with_a_loading_in_flight :
    let s := peak.modDistrict 5 fun r => { r with inFlight := some 38 }
    (s.district 5).inFlight = some 38 ∧ (s.district 5).state.inService = true := by decide +kernel

theorem witness_idle_engine_resolves_a_booking :
    let s := meteredThree { channel with base := 0 }
    s.running = true ∧ s.bke.queue = [] ∧ s.bke.inHand = none ∧ StoreIdle s ∧ (1 % 65536 + 65536 - 0 % 65536) % 65536 ≤ channel.limit
      ∧ (s.channel 62 3).map (·.enabled) = some true
      ∧ ((resolvedTo s ⟨62, 3, 1, 0, 0, 1191, 10000, 1, 1, .committing none false⟩).bke.inHand.map (·.phase))
          = some (walking (.mainRead 0)) := by decide +kernel
theorem witness_booking_is_resolved_by_a_route_or_the_cache :
    let h : InHand := ⟨62, 3, 1, 0, 0, 1191, 10000, 1, 1, .committing none false⟩
    (let s := { mapped with bke := { mapped.bke with routes := #v[startingRoute, ⟨true, 1191, 1191, some 255, true⟩] } };
      (resolvedTo s h).bke.inHand.map (·.phase) = some (.committing (some (.account 255 true false .route)) false))
      ∧ (let s := { mapped with bke := { mapped.bke with cache := [⟨5, 0, false, false⟩, ⟨1191, 40, true, true⟩] } }
        (resolvedTo s h).bke.inHand.map (·.phase) = some (.committing (some (.account 40 true true .cache)) false)
          ∧ (resolvedTo s h).bke.cache = [⟨1191, 40, true, true⟩, ⟨5, 0, false, false⟩]) := by decide +kernel

/-- A walk of point 1210 on the path of its target 1191, at a level. -/
def following (level : WalkLevel) (stale : Bool) : Phase :=
  .resolving ⟨1210, level, false, some 1191, some ⟨0, 26, .indirect 1191⟩, stale⟩

theorem witness_walk_on_a_target_path :
    (∀ l ∈ [WalkLevel.mainRead 0, .pointRead 0], ∀ stale ∈ [false, true],
      Serves (booking (following l stale) mapped) bkeGrant .bke
        ∧ ((booking (following l stale) mapped).bke.inHand.map (·.phase)) = some (following l stale))
      ∧ Clean mapped (mainSlot 0) ∧ (mapped.rst.desc 0 (mainIndex 1191)).table = some 0
      ∧ (mapped.rst.leaf 0 (pointIndex 1191)).kind = .account 40 ∧ (mapped.rst.leaf 0 (pointIndex 1191)).used = false
      ∧ (mapped.rst.desc 0 (mainIndex 4095)).table = none ∧ (mapped.rst.leaf 0 (pointIndex 4095)).kind = .invalid
      ∧ ((mapped.modRst fun r => r.putLeaf 0 7 ⟨.account 40, false, true, false, false⟩).rst.leaf 0 (pointIndex 1191)).used = true
      ∧ ((mapped.modRst fun r => r.setDamaged (pointSlot 0) true).rst.isDamaged (pointSlot 0) = true) := by decide +kernel

/-- A walk of point 1210 on its own path, at a level. -/
def walkingOwn (level : WalkLevel) : Phase := .resolving ⟨1210, level, true, none, none, false⟩

/-- The leaf that point 1210 is given in the worked store, to point 1191. -/
def toPoint : Leaf := ⟨.indirect 1191, true, false, false, false⟩
def linked : State := mapped.modRst fun r => r.putLeaf 0 26 toPoint

/-- BKE's access for the phase given is being served in a state. -/
abbrev Resolves (p : Phase) (s : State) : Prop :=
  Serves (booking p s) bkeGrant .bke ∧ ((booking p s).bke.inHand.map (·.phase)) = some p

theorem witness_flag_accesses_of_a_walk :
    (∀ l ∈ [WalkLevel.mainFlag 0 0, .leafFlag 0 ⟨.account 40, false, false, false, false⟩], Resolves (following l false) mapped)
      ∧ (∀ l ∈ [WalkLevel.pointRead 0, .mainFlag 0 0, .leafFlag 0 toPoint], Resolves (walkingOwn l) linked)
      ∧ linked.rst.leaf 0 (pointIndex 1210) = toPoint ∧ Clean linked (pointSlot 0)
      ∧ (linked.district (pointDistrict 1191)).root.table = some 0
      ∧ ((linked.modDistrict 2 fun r => { r with root := ⟨none, false, false⟩ }).district (pointDistrict 1191)).root.table = none
      ∧ (let s := booking (following (.mainFlag 0 0) false) mapped
        ReadsAs s (mainSlot 0) s ∧ (s.rst.desc 0 (mainIndex 1191)).table = some 0)
      ∧ (let s := booking (following (.leafFlag 0 ⟨.account 40, false, false, false, false⟩) false) mapped
        ReadsAs s (pointSlot 0) s ∧ (s.rst.leaf 0 (pointIndex 1191)).kind = .account 40)
      ∧ (let s := booking (walkingOwn (.leafFlag 0 toPoint)) linked
        ReadsAs s (pointSlot 0) s ∧ (s.rst.leaf 0 (pointIndex 1210)).kind = toPoint.kind)
      ∧ (let s := booking (walkingOwn (.mainFlag 0 0)) (flawed 256 1 linked)
        Resolves (walkingOwn (.mainFlag 0 0)) (flawed 256 1 linked) ∧ ReadsAs s (mainSlot 0) (slotCorrected s (mainSlot 0))) := by
  refine ⟨?_, ?_, ?_, ?_, ?_, ?_, ?_, ?_, ?_, ?_⟩ <;> decide +kernel
theorem witness_flag_accesses_that_change_nothing :
    (let s := booking (following (.mainFlag 0 63) false) mapped
    Serves s bkeGrant .bke ∧ ReadsAs s (mainSlot 0) s ∧ (s.rst.desc 0 (mainIndex 1191)).table ≠ some 63)
      ∧ (let s := booking (following (.leafFlag 0 ⟨.account 255, false, false, false, false⟩) false) mapped
        Serves s bkeGrant .bke ∧ ReadsAs s (pointSlot 0) s ∧ (s.rst.leaf 0 (pointIndex 1191)).kind ≠ .account 255)
      ∧ (let s := linked.modRst fun r => (r.setDamaged (mainSlot 0) true).setDamaged (pointSlot 0) true
        Resolves (walkingOwn (.mainFlag 0 0)) s ∧ Resolves (walkingOwn (.leafFlag 0 toPoint)) s
          ∧ (booking (walkingOwn (.mainFlag 0 0)) s).rst.isDamaged (mainSlot 0) = true
          ∧ (booking (walkingOwn (.leafFlag 0 toPoint)) s).rst.isDamaged (pointSlot 0) = true)
      ∧ (∀ l ∈ [WalkLevel.mainRead 0, .mainFlag 0 0], Resolves (walkingOwn l) (flawed 256 2 linked)
        ∧ Uncorrectable (booking (walkingOwn l) (flawed 256 2 linked)) (mainSlot 0))
      ∧ (∀ l ∈ [WalkLevel.pointRead 0, .leafFlag 0 toPoint], Resolves (walkingOwn l) (flawed 280 2 linked)
        ∧ Uncorrectable (booking (walkingOwn l) (flawed 280 2 linked)) (pointSlot 0)) := by
  refine ⟨?_, ?_, ?_, ?_, ?_⟩ <;> decide +kernel
theorem witness_governor_reply_out_of_service :
    trippedFive.running = true ∧ (trippedFive.district 5).inFlight = none ∧ (trippedFive.district 5).state = .tripped
      ∧ outFive.running = true ∧ (outFive.district 5).inFlight = none ∧ (outFive.district 5).state = .out := by decide +kernel

/-- The worked booking about to be committed with the resolution given, from the store given. -/
def committing (r : Option Resolution) (f : Rst → Rst) : State := booking (.committing r false) (mapped.modRst f)

theorem witness_account_that_takes_no_booking :
    let q := some (Resolution.account 40 false false (.walk ⟨0, 7, .account 40⟩))
    (let s := committing q fun r => r.setDamaged 40 true;
      storesSound s.rst = true ∧ Clean s 0 ∧ s.rst.isDamaged 40 = true)
      ∧ (let s := committing q fun r => r.putAccount 40 { Account.suspense 9 with kind := some .receipt, state := .closed }
        storesSound s.rst = true ∧ Clean s 0 ∧ Clean s 40 ∧ (s.rst.account 40).state ≠ .opened)
      ∧ (let s := committing q fun r => r.putAccount 40 { Account.suspense 0 with kind := some .receipt, volume := 1099511627775 }
        storesSound s.rst = true ∧ Clean s 0 ∧ Clean s 40 ∧ (s.rst.account 40).state = .opened
          ∧ ¬ RoomFor ((s.rst.account 40).rolled 0) 6829400 500)
      ∧ RoomFor ((mapped.rst.account 0).rolled 0) 6829400 500 := by decide +kernel
theorem witness_suspense_is_full_of_heat :
    let s := committing none fun r => r.putAccount 0 { Account.suspense 0 with heat := 4294967295, heatRes := 6553599999 }
    Clean s 0 ∧ storesSound s.rst = true ∧ ¬ RoomFor ((s.rst.account 0).rolled 0) 6829400 500
      ∧ (s.rst.account 0).volume = 0 := by decide +kernel
/-- The worked booking with a resolution that is marked stale or not, its commit granted with the mark that the grant took. -/
def granted (marked atGrant : Bool) (r : Option Resolution) (f : Rst → Rst) : State :=
  let s := booking (.committing r marked) (mapped.modRst f)
  { s with rst := { s.rst with arbiter := { s.rst.arbiter with serving := some { bkeGrant with stale := atGrant } } } }

theorem witness_stale_resolution :
    let r := some (Resolution.noRoute .damaged)
    let s := granted true true r id
    Serves s { bkeGrant with stale := true } .bke ∧ (s.bke.inHand.map (·.phase)) = some (.committing r true)
      ∧ s.bke.staleCommit = true ∧ s.bke.queue = [] ∧ storesSound s.rst = true := by decide +kernel
theorem witness_resolution_marked_after_the_grant :
    ∀ r ∈ [none, some (Resolution.account 40 false true .cache), some (.account 40 true true .cache), some (.noRoute .damaged)],
      let s := granted true false r id
      Serves s bkeGrant .bke ∧ (s.bke.inHand.map (·.phase)) = some (.committing r true) ∧ s.bke.queue = []
        ∧ storesSound s.rst = true ∧ Readable s 0 ∧ Readable s 40 ∧ (s.rst.account 40).state = .opened := by decide +kernel
theorem witness_flawed_slots_at_a_commit :
    (∀ slot ∈ [1, 255], ∀ words ∈ [0, 1], let s := granted false false (some (.account slot false true .route)) fun r =>
        (r.putAccount slot { Account.suspense 0 with kind := some .receipt }).setFlaws slot words
      Readable s slot ∧ storesSound s.rst = true ∧ (s.rst.account slot).state = .opened)
      ∧ (∀ slot ∈ [1, 255], let s := granted false false (some (.account slot false true .route)) fun r => r.setFlaws slot 2
        Uncorrectable s slot ∧ storesSound s.rst = true)
      ∧ (let s := granted false false none fun r => r.setFlaws 0 1; Readable s 0 ∧ storesSound s.rst = true)
      ∧ (let s := granted false false none fun r => r.setFlaws 0 2; Uncorrectable s 0 ∧ storesSound s.rst = true) := by decide +kernel
-- 06 R122: what is stale at the grant is worked again; a mark set after the grant has no effect on the commit
theorem test_only_a_mark_at_the_grant_stops_the_commit :
    let r := some (Resolution.account 40 false true .cache)
    ((next (.commitAccess []) (granted true true r id)).rst.account 40).bookings = 0
      ∧ ((next (.commitAccess []) (granted true false r id)).rst.account 40).bookings = 1 := by decide +kernel

/-- The manual's worked stock (01, 03): at height 4300 in stage 2 the lifts hold 177,200 cu ft and the record takes 205,499. -/
theorem witness_PressuresAndFactorLieInTheirRanges :
    let r : Holder := { workedHolder with height := 4300 }
    let base : Nat → Nat := fun i => ((r.lifts.take i).map (·.stroke)).sum
    let stage := ((List.range r.lifts.length).filter fun i => decide (base i < 4300)).length
    base r.lifts.length = 9000 ∧ stage = 2
      ∧ (if stage = 0 then 0 else ((r.lifts.map (·.pressure))[stage - 1]?).getD 0) = 60
      ∧ ((List.range r.lifts.length).map fun i => ((r.lifts.map (·.area))[i]?).getD 0
        * (min 4300 (base (i + 1)) - base i)).sum = 17720000
      ∧ (Holder.recompute { r with temp := 450 } 2992).stock = 205499 := by decide +kernel

/-! Crown replies in the other states, turns on a line of several entries, and abandoned writes. -/

/-- H2 in RECOVERING with the intents given, feeding D1 or no district. -/
def recovering (inlet outlet : Valve) (feeds : List HolderId) : State :=
  (yardOf (holderIn .recovering inlet outlet)).modDistrict 1 fun r => { r with feeds := feeds }

/-- H2 as a reply with the switches given leaves its valves. -/
def provedAs (r : Holder) (io ic oo oc : Bool) : Holder := { r with provedInlet := provedBy io ic, provedOutlet := provedBy oo oc }

theorem witness_recovery_cases :
    (let s := recovering .closed .closed []; let r := s.holder 2
      s.running = true ∧ r.fitted = true ∧ (s.crownEntry 2).isSome = true ∧ r.changeOver = none ∧ r.state = .recovering
        ∧ r.faulted = false ∧ r.isolated = false ∧ InletAt (provedAs r false true false true) ∧ OutletAt (provedAs r false true false true)
        ∧ ¬ InletAt (provedAs r true true false true) ∧ ¬ OutletAt (provedAs r false true false false)
        ∧ ¬ OutletAt (provedAs r false true true false))
      ∧ (let s := recovering .closed .opened []; (s.holder 2).outletIntent = .opened ∧ s.feedOf 2 = none
        ∧ InletAt (provedAs (s.holder 2) false true true false) ∧ OutletAt (provedAs (s.holder 2) false true true false))
      ∧ (let s := recovering .opened .opened [2]; s.feedOf 2 ≠ none ∧ (s.holder 2).inletIntent = .opened)
      ∧ ((recovering .opened .closed []).holder 2).inletIntent = .opened := by decide +kernel
theorem witness_reply_with_the_flag_clear :
    let s := yardOf { holderIn .standing .closed .closed with answering := false }
    (s.holder 2).answering = false ∧ (s.holder 2).active = none ∧ (s.holder 2).startStock = none ∧ (s.holder 2).changeOver = none := by
  decide +kernel
theorem test_first_reply_latches_crown_returned :
    let s := next (.crownReply 2 ⟨4250, 450, false, true, false, true, false, false⟩)
      (yardOf { holderIn .standing .closed .closed with answering := false })
    (s.holder 2).answering = true ∧ (s.holder 2).latches.crownReturned = true ∧ (s.holder 2).state = .standing := by decide +kernel
theorem witness_move_under_way :
    let s := changing none none none
    let k : ChangeOver := ⟨.filling, [.openInlet], 0, true, some 900⟩
    (s.holder 2).changeOver = some k ∧ k.started = true ∧ k.moves[k.step]? = some .openInlet ∧ (s.holder 2).state = .changing
      ∧ provedBy false false = .moving ∧ provedBy true true = .conflict ∧ OutletAt (provedAs (s.holder 2) false false false true)
      ∧ ¬ OutletAt (provedAs (s.holder 2) false false true false) := by decide +kernel
theorem witness_fill_at_the_top_stop :
    let s := yardOf { holderIn .standing .closed .closed with height := 8800 }
    Ready s ∧ s.yard.mode = .working ∧ (s.holder 2).state = .standing ∧ (s.holder 2).topStop ≤ (s.holder 2).height := by decide +kernel
theorem witness_silent_unfitted :
    let s := yardOf { workedHolder with fitted := false, answering := false }
    (s.crownEntry 2).isSome = true ∧ (s.holder 2).fitted = false
      ∧ ((next (.crownSilentNotice 2) s).holder 2).latches.crownSilent = true := by decide +kernel

/-- Two ordinary entries and a fast one, the first polled, the ordinary position on it. -/
def threeEntries (state : EntryState) (misses count : Nat) (single : Bool) : State :=
  let s := withEntries [{ entry 1 .meter .none with state := state, misses := misses }, entry 21 .governor (.district 5),
    { entry 62 .crown (.holder 5) with state := .silent }] State.reset
  { s with line := { s.line with ordPos := 1, turnCount := count, exchange := some ⟨1, false, none, 200, single⟩ } }

theorem witness_turn_of_the_fast_class :
    let s := threeEntries .silent 254 2 true
    s.line.entry 1 = s.line.entries[0]? ∧ TurnTaken s.yard s.line { s.line with
      fastPos := 2, turnCount := 0, exchange := some ⟨21, true, none, 200, false⟩, tx := pollFrame 21 .governor none } := by
  refine ⟨by decide +kernel, true, 0, 1, entry 21 .governor (.district 5), .inr (.inr (.inr ⟨?_, ?_, ?_, rfl, rfl⟩)), ⟨?_, .inl ⟨?_, ?_⟩⟩,
    ?_, ?_⟩
  · exact ⟨{ entry 62 .crown (.holder 5) with state := .silent }, by decide +kernel, by decide +kernel⟩
  · exact ⟨entry 21 .governor (.district 5), by decide +kernel, by decide +kernel⟩
  · decide +kernel
  · exact ⟨_, rfl, by decide +kernel⟩
  · decide +kernel
  · intro j e h0 h1 he
    have : j = 0 := by omega
    subst this
    cases he
    decide +kernel
  · decide +kernel
  · decide +kernel
theorem witness_turn_of_the_ordinary_class :
    let s := threeEntries .answering 3 1 false
    (∃ y ∈ s.line.entries, y.address ≠ 1 ∧ y.state ≠ .silent) ∧ TurnTaken s.yard s.line { s.line with
      ordPos := 3, turnCount := 2, exchange := some ⟨62, true, none, 200, true⟩, tx := pollFrame 62 .crown none } := by
  refine ⟨⟨entry 21 .governor (.district 5), by decide +kernel, by decide +kernel⟩, false, 2, 2,
    { entry 62 .crown (.holder 5) with state := .silent }, .inr (.inr (.inl ⟨?_, ?_, ?_, rfl, rfl⟩)), ⟨?_, .inl ⟨?_, ?_⟩⟩, ?_, ?_⟩
  · exact ⟨{ entry 62 .crown (.holder 5) with state := .silent }, by decide +kernel, by decide +kernel⟩
  · exact ⟨entry 21 .governor (.district 5), by decide +kernel, by decide +kernel⟩
  · decide +kernel
  · exact ⟨_, rfl, by decide +kernel⟩
  · decide +kernel
  · intro j e h0 h1 he
    have : j = 1 := by
      have h0 : 1 ≤ j := h0
      omega
    subst this
    cases he
    decide +kernel
  · decide +kernel
  · decide +kernel

/-- MAP-POINT over an INVALID root, its main descriptor's write granted (05 R103). -/
def binding : State :=
  let r := ((Rst.fresh.allocPoint 5 3 7).putLeaf 5 9 ⟨.account 40, false, false, false, false⟩).allocMain 3 0
  { State.reset with
    rst := { r with arbiter := { r.arbiter with serving := some ⟨.rex, 0, 2992, 500, false⟩ } }
    rex := { State.reset.rex with
      stack := [⟨7, .mapPoint 1191 40 false false, true⟩]
      work := some (.directory (.actions [.writeMain 3 7 ⟨some 5, false, false⟩, .setRoot 0 ⟨some 3, false, false⟩])) } }

theorem witness_supply_fails_in_a_main_write :
    HeadAwaits binding ⟨.rex, 0, 2992, 500, false⟩ 7 (.mapPoint 1191 40 false false)
        (.directory (.actions [.writeMain 3 7 ⟨some 5, false, false⟩, .setRoot 0 ⟨some 3, false, false⟩]))
      ∧ Clean binding (mainSlot 3) ∧ binding.running = true ∧ storesSound binding.rst = true := by decide +kernel
theorem test_reset_frees_what_no_root_names :
    let t := next (.yardReset 9) binding
    (t.district 0).root.table = none ∧ t.rst.mainAllocOf 3 = none ∧ (t.rst.pointAllocOf 5).isSome = true
      ∧ t.rst.freeMains.getLast? = some 3 ∧ ¬ 5 ∈ t.rst.freePoints
      ∧ results t = [.aborted, .done] := by decide +kernel
theorem test_scrub_interval_zero_clears_the_mark_of_a_granted_check :
    let s := checking Rst.fresh
    (next (.setYard 1 ⟨none, none, none, none, none, some 0, none⟩) s).rst.scrubPending = false
      ∧ (next (.setYard 1 ⟨none, none, none, none, none, some 0, none⟩) s).rst.arbiter.serving.isSome = true := by decide +kernel

end Sys2Proof.Tests
end

/-! PROOFS. Gas quantities and the correction arithmetic (01): the conversion to mercury and the correction factor in their
ranges, and a holder's volume and stage as sums and counts over its lifts (O60). -/

namespace Sys2Proof.Quantities

open Sys2Proof.Machine Sys2Proof.Safety

/-! ### Clamps -/

theorem clampTo_zero {hi v : Nat} : clampTo 0 hi v = min v hi := by
  unfold clampTo
  rw [if_neg (Nat.not_lt_zero v)]
  split <;> omega

theorem clampTo_mem {lo hi : Nat} (v : Nat) (h : lo ≤ hi) : lo ≤ clampTo lo hi v ∧ clampTo lo hi v ≤ hi := by
  unfold clampTo
  split
  · omega
  · split <;> omega

theorem clampInt_mem {lo hi : Int} (v : Int) (h : lo ≤ hi) : lo ≤ clampInt lo hi v ∧ clampInt lo hi v ≤ hi := by
  unfold clampInt
  split
  · omega
  · split <;> omega

/-- A clamp acts exactly on the values outside its range (00, "Clamping"). -/
theorem clampTo_ne_iff {lo hi v : Nat} : clampTo lo hi v ≠ v ↔ v < lo ∨ hi < v := by
  unfold clampTo
  split
  · omega
  · split <;> omega

/-- As `clampTo_ne_iff`, for signed values. -/
theorem clampInt_ne_iff {lo hi v : Int} : clampInt lo hi v ≠ v ↔ v < lo ∨ hi < v := by
  unfold clampInt
  split
  · omega
  · split <;> omega

/-! ### Pressure, temperature and the factor -/

/-- The conversion to mercury rounds half up: 25/34 of the gauge pressure lies within a half of it (01 R4). -/
theorem gaugeToMercury_rounds (g : Nat) :
    (2 * gaugeToMercury g) * 34 ≤ 2 * (g * 25) + 34 ∧ 2 * (g * 25) + 34 < (2 * gaugeToMercury g + 2) * 34 := by
  unfold gaugeToMercury
  omega

/-- The greatest gauge pressure converts to 441 (01 R4). -/
theorem gaugeToMercury_clampGauge_le (g : Nat) : gaugeToMercury (clampGauge g) ≤ 441 := by
  have hg : clampGauge g ≤ 600 := (clampTo_mem g (Nat.zero_le 600)).2
  unfold gaugeToMercury
  omega

/-- The absolute pressure of clamped measurements (01 R5). -/
theorem absPressure_mem (b g : Nat) :
    2600 ≤ absPressure (clampBarometer b) (clampGauge g) ∧ absPressure (clampBarometer b) (clampGauge g) ≤ 3641 := by
  obtain ⟨hlo, hhi⟩ : 2600 ≤ clampBarometer b ∧ clampBarometer b ≤ 3200 := clampTo_mem b (by decide)
  have hm := gaugeToMercury_clampGauge_le g
  unfold absPressure
  omega

/-- The absolute temperature of a clamped measurement (01 R5). -/
theorem absTemp_mem (t : Int) :
    (absTemp (clampTemp t) : Int) = clampTemp t + 4597 ∧ 4397 ≤ absTemp (clampTemp t) ∧ absTemp (clampTemp t) ≤ 5797 := by
  obtain ⟨hlo, hhi⟩ : -200 ≤ clampTemp t ∧ clampTemp t ≤ 1200 := clampInt_mem t (by decide)
  unfold absTemp
  omega

/-- The factor grows with the pressure and falls with the temperature, so its ends stand at the ends of their ranges (01 R6). -/
theorem factorOf_mem {pa tr : Nat} (hp : 2600 ≤ pa) (hp' : pa ≤ 3641) (ht : 4397 ≤ tr) (ht' : tr ≤ 5797) :
    50919 ≤ factorOf pa tr ∧ factorOf pa tr ≤ 94010 := by
  have hpos : 0 < 2 * 3000 * tr := by omega
  unfold factorOf
  constructor
  · rw [Nat.le_div_iff_mul_le hpos]
    omega
  · rw [← Nat.lt_succ_iff, Nat.div_lt_iff_lt_mul hpos]
    omega

/-! ### Lifts -/

/-- The height at which the lift of index `i` starts to rise: the strokes of the lifts before it (01 R15). -/
def liftBase (lifts : List Lift) (i : Nat) : Nat := ((lifts.take i).map (·.stroke)).sum

@[simp] theorem liftBase_zero (lifts : List Lift) : liftBase lifts 0 = 0 := rfl

@[simp] theorem liftBase_cons_succ (l : Lift) (ls : List Lift) (i : Nat) :
    liftBase (l :: ls) (i + 1) = l.stroke + liftBase ls i := by
  simp [liftBase]

theorem liftBase_length (lifts : List Lift) : liftBase lifts lifts.length = totalStroke lifts := by
  simp [liftBase, totalStroke]

/-- The raised sum, lift by lift: each adds its area times the part of its stroke below the height (01 R15). -/
theorem raisedSum_eq (h : Nat) (lifts : List Lift) : ∀ b, raisedSum h b lifts
    = ((List.range lifts.length).map fun i => ((lifts.map (·.area))[i]?).getD 0
        * (min h (b + liftBase lifts (i + 1)) - (b + liftBase lifts i))).sum := by
  induction lifts with
  | nil => intro b; rfl
  | cons l ls ih =>
    intro b
    have hraised : min h (b + l.stroke) - b = min (h - b) l.stroke := by omega
    simp [raisedSum, ih, List.range_succ_eq_map, Function.comp_def, Nat.add_assoc, hraised]

/-- The stage counts the lifts whose base lies below the height: bases never fall, so they are the first ones (01 R16). -/
theorem stageFrom_eq (h : Nat) (lifts : List Lift) : ∀ n b, stageFrom h n b lifts
    = n + ((List.range lifts.length).filter fun i => decide (b + liftBase lifts i < h)).length := by
  induction lifts with
  | nil => intro n b; rfl
  | cons l ls ih =>
    intro n b
    by_cases hb : h ≤ b
    · have hnone (i : Nat) : h ≤ b + liftBase (l :: ls) i := by omega
      simp [stageFrom, hb, hnone]
    · have hlt : b < h := by omega
      simp [stageFrom, hb, hlt, ih, List.range_succ_eq_map, List.filter_map, Function.comp_def, Nat.add_assoc, Nat.add_comm 1]

theorem stagePressureOf_eq (lifts : List Lift) (stage : Nat) : stagePressureOf lifts stage
    = if stage = 0 then 0 else ((lifts.map (·.pressure))[stage - 1]?).getD 0 := by
  cases stage <;> simp [stagePressureOf]

/-- What a holder's record takes from its height (01 R15 to R18), each of its figures said by the lifts. -/
theorem recompute_eq (r : Holder) (barometer : Nat) : r.recompute barometer =
    (let height := min r.height (totalStroke r.lifts)
    let stage := ((List.range r.lifts.length).filter fun i => decide (liftBase r.lifts i < height)).length
    let pressure := if stage = 0 then 0 else ((r.lifts.map (·.pressure))[stage - 1]?).getD 0
    let below := ((List.range r.lifts.length).map fun i => ((r.lifts.map (·.area))[i]?).getD 0
      * (min height (liftBase r.lifts (i + 1)) - liftBase r.lifts i)).sum
    { r with
      gv := r.landed + below / 100
      stage := stage
      stagePressure := pressure
      stock := ((r.landed + below / 100) * correction barometer pressure r.temp + 32768) / 65536
      stockClamped := decide (barometer < 2600 ∨ 3200 < barometer ∨ r.temp < -200 ∨ 1200 < r.temp ∨ height < r.height) }) := by
  have hstage (h : Nat) : stageOf r.lifts h
      = ((List.range r.lifts.length).filter fun i => decide (liftBase r.lifts i < h)).length := by
    simp [stageOf, stageFrom_eq]
  have hraised (h : Nat) : raisedSum h 0 r.lifts = ((List.range r.lifts.length).map fun i =>
      ((r.lifts.map (·.area))[i]?).getD 0 * (min h (liftBase r.lifts (i + 1)) - liftBase r.lifts i)).sum := by
    simp [raisedSum_eq]
  have hclamp : (decide (clampBarometer barometer ≠ barometer) || decide (clampTemp r.temp ≠ r.temp)
      || decide (min r.height (totalStroke r.lifts) ≠ r.height))
      = decide (barometer < 2600 ∨ 3200 < barometer ∨ r.temp < -200 ∨ 1200 < r.temp
        ∨ min r.height (totalStroke r.lifts) < r.height) := by
    have hb : clampBarometer barometer ≠ barometer ↔ _ := clampTo_ne_iff
    have ht : clampTemp r.temp ≠ r.temp ↔ _ := clampInt_ne_iff
    have hh : min r.height (totalStroke r.lifts) ≠ r.height ↔ min r.height (totalStroke r.lifts) < r.height := by omega
    simp only [← Bool.decide_or, hb, ht, hh, or_assoc]
  simp only [Holder.recompute, clampTo_zero, geometricVolume, stockOf, stagePressureOf_eq, hstage, hraised, hclamp]

/-- Settles O60: the conversions and the factor by their ranges, the holder's record by the lifts. -/
theorem pressuresAndFactorLieInTheirRanges : Obligations.PressuresAndFactorLieInTheirRanges := by
  unfold Obligations.PressuresAndFactorLieInTheirRanges
  refine ⟨fun gauge => ⟨rfl, ?_, ?_, gaugeToMercury_clampGauge_le gauge⟩, by decide, by decide, by decide, by decide, by decide,
    fun barometer gauge temp => ?_, by decide, by decide, by decide, by decide, ?_⟩
  · exact (gaugeToMercury_rounds _).1
  · exact (gaugeToMercury_rounds _).2
  · obtain ⟨hp, hp'⟩ := absPressure_mem barometer gauge
    obtain ⟨htr, ht, ht'⟩ := absTemp_mem temp
    obtain ⟨hlo, hhi⟩ := factorOf_mem hp hp' ht ht'
    exact ⟨_, _, rfl, hp, hp', htr, ht, ht', rfl, hlo, hhi⟩
  · intro r barometer below height stage pressure base hbase hheight hstage hpressure hbelow
    obtain rfl : base = liftBase r.lifts := funext hbase
    rw [liftBase_length] at hheight
    subst hheight hstage hpressure hbelow
    exact recompute_eq r barometer

end Sys2Proof.Quantities

/-! PROOFS. The stations' good replies (04 R69, R71, R73, R83, 01 R3): what an echo, a trip and a tell-tale pressure make of a
district, and what the evaluation behind a changed compensation leaves alone (O56). -/

namespace Sys2Proof.StationReplies

open Sys2Proof.Machine Sys2Proof.Safety

/-! ### Changes of one district -/

/-- Only what a change makes of the district's own record counts. -/
theorem modDistrict_congr {s : State} {d : DistrictId} {f g : District → District} (h : f (s.district d) = g (s.district d)) :
    s.modDistrict d f = s.modDistrict d g := by
  simp only [State.modDistrict, h]

/-- The districts' records and the entries' commands do not meet. -/
@[simp] theorem modDistrict_setLoadingCommand (s : State) (d e : DistrictId) (c : Option Nat) (f : District → District) :
    (s.setLoadingCommand d c).modDistrict e f = (s.modDistrict e f).setLoadingCommand d c := rfl

theorem placeLoading_eq (d : DistrictId) (s : State) : placeLoading d s
    = (s.modDistrict d fun r => { r with inFlight := some r.loading }).setLoadingCommand d (some (s.district d).loading) := rfl

theorem withdrawLoading_eq (d : DistrictId) (s : State) : withdrawLoading d s
    = (s.modDistrict d fun r => { r with inFlight := none }).setLoadingCommand d none := rfl

/-! ### The governor's reply -/

/-- The echo of the loading in flight acknowledges it (04 R73). -/
theorem takeEcho_of_acknowledged {s : State} {d : DistrictId} {l : Nat} (hf : (s.district d).inFlight = some l) :
    takeEcho d (some l) s
      = (s.modDistrict d fun r => { r with acked := some l, inFlight := none }).setLoadingCommand d none := by
  simp [takeEcho, hf, withdrawLoading_eq]

/-- Another echo leaves the loading in flight (04 R73). -/
theorem takeEcho_of_other {s : State} {d : DistrictId} {l : Nat} {echo : Option Nat}
    (hf : (s.district d).inFlight = some l) (he : echo ≠ some l) : takeEcho d echo s = s := by
  simp [takeEcho, hf, he]

/-- With nothing in flight an echo is judged only in service, and the loading in force stands (04 R73). -/
theorem takeEcho_of_agreeing {s : State} {d : DistrictId} {echo : Option Nat} (hf : (s.district d).inFlight = none)
    (h : (s.district d).state.inService = false ∨ echo = some (s.district d).loading) : takeEcho d echo s = s := by
  rcases h with h | h <;> simp [takeEcho, hf, h]

/-- An echo that differs from the loading in force has it placed again (04 R73). -/
theorem takeEcho_of_differing {s : State} {d : DistrictId} {echo : Option Nat} (hf : (s.district d).inFlight = none)
    (hs : (s.district d).state.inService = true) (he : echo ≠ some (s.district d).loading) :
    takeEcho d echo s = placeLoading d s := by
  simp [takeEcho, hf, hs, he]

theorem takeTrip_of_quiet {s : State} {d : DistrictId} {trip : Bool}
    (h : trip = false ∨ (s.district d).state.inService = false) : takeTrip d trip s = s := by
  rcases h with h | h <;> simp [takeTrip, h]

/-- A trip takes a district from service and withdraws its loading (04 R83). -/
theorem takeTrip_of_trip {s : State} {d : DistrictId} (hs : (s.district d).state.inService = true) :
    takeTrip d true s = (s.modDistrict d fun r =>
      { r with state := .tripped, latches := { r.latches with tripped := true }, inFlight := none }).setLoadingCommand d none := by
  simp [takeTrip, hs, withdrawLoading_eq, DistrictLatches.enter]

theorem exec_governorReply {s : State} (d : DistrictId) (g : GovernorReading) (h : s.running = true) :
    exec (.governorReply d g) s
      = .next (takeTrip d g.trip (takeEcho d g.echo (s.taken (.governorReply d g)))) :=
  whenRunning_of_running (fun s => governorReply d g (s.taken (.governorReply d g))) h

/-- A reply with a loading in flight whose trip is not judged: it is acknowledged by its own echo alone (04 R73). -/
theorem governorReply_inFlight {s : State} {d : DistrictId} {g : GovernorReading} {l : Nat} (hr : s.running = true)
    (hf : (s.district d).inFlight = some l) (hq : g.trip = false ∨ (s.district d).state.inService = false) :
    (g.echo = some l → exec (.governorReply d g) s = .next (((s.taken (.governorReply d g)).modDistrict d fun r =>
        { r with acked := some l, inFlight := none }).setLoadingCommand d none))
    ∧ (g.echo ≠ some l → exec (.governorReply d g) s = .next (s.taken (.governorReply d g))) := by
  rw [exec_governorReply d g hr]
  constructor
  · intro he
    rw [he, takeEcho_of_acknowledged (by simpa using hf), takeTrip_of_quiet (by simpa using hq)]
  · intro he
    rw [takeEcho_of_other (by simpa using hf) he, takeTrip_of_quiet (by simpa using hq)]

/-- A reply in service with nothing in flight and no trip (04 R73). -/
theorem governorReply_inService {s : State} {d : DistrictId} {g : GovernorReading} (hr : s.running = true)
    (hf : (s.district d).inFlight = none) (hs : (s.district d).state.inService = true) (ht : g.trip = false) :
    (g.echo = some (s.district d).loading → exec (.governorReply d g) s = .next (s.taken (.governorReply d g)))
    ∧ (g.echo ≠ some (s.district d).loading → exec (.governorReply d g) s
      = .next (((s.taken (.governorReply d g)).modDistrict d fun r => { r with inFlight := some r.loading }).setLoadingCommand d
          (some (s.district d).loading))) := by
  rw [exec_governorReply d g hr]
  constructor
  · intro he
    rw [takeEcho_of_agreeing (by simpa using hf) (.inr (by simpa using he)), takeTrip_of_quiet (.inl ht)]
  · intro he
    rw [takeEcho_of_differing (by simpa using hf) (by simpa using hs) (by simpa using he), takeTrip_of_quiet (.inl ht)]
    rfl

/-- A trip with a loading in flight: an echo that acknowledges it is taken first (04 R73, R83). -/
theorem governorReply_trip_inFlight {s : State} {d : DistrictId} {g : GovernorReading} {l : Nat} (hr : s.running = true)
    (hf : (s.district d).inFlight = some l) (hs : (s.district d).state.inService = true) (ht : g.trip = true) :
    exec (.governorReply d g) s = .next (((s.taken (.governorReply d g)).modDistrict d fun r =>
      { r with state := .tripped, latches := { r.latches with tripped := true }, inFlight := none
               acked := if g.echo = some l then some l else r.acked }).setLoadingCommand d none) := by
  rw [exec_governorReply d g hr, ht]
  by_cases he : g.echo = some l
  · rw [he, takeEcho_of_acknowledged (by simpa using hf), takeTrip_of_trip (by simpa using hs)]
    simp
  · rw [takeEcho_of_other (by simpa using hf) he, takeTrip_of_trip (by simpa using hs)]
    simp [he]

/-- A trip with nothing in flight and the loading in force echoed (04 R73, R83). -/
theorem governorReply_trip {s : State} {d : DistrictId} {g : GovernorReading} (hr : s.running = true)
    (hf : (s.district d).inFlight = none) (hs : (s.district d).state.inService = true) (ht : g.trip = true)
    (he : g.echo = some (s.district d).loading) :
    exec (.governorReply d g) s = .next (((s.taken (.governorReply d g)).modDistrict d fun r =>
      { r with state := .tripped, latches := { r.latches with tripped := true }, inFlight := none }).setLoadingCommand d none) := by
  rw [exec_governorReply d g hr, ht, takeEcho_of_agreeing (by simpa using hf) (.inr (by simpa using he)),
    takeTrip_of_trip (by simpa using hs)]

/-- Out of service with nothing in flight neither echo nor trip is judged (04 R73, R83). -/
theorem governorReply_outOfService {s : State} {d : DistrictId} {g : GovernorReading} (hr : s.running = true)
    (hf : (s.district d).inFlight = none) (hs : (s.district d).state = .out ∨ (s.district d).state = .tripped) :
    exec (.governorReply d g) s = .next (s.taken (.governorReply d g)) := by
  have hq : (s.district d).state.inService = false := by rcases hs with hs | hs <;> simp [hs, DistrictState.inService]
  rw [exec_governorReply d g hr, takeEcho_of_agreeing (by simpa using hf) (.inl (by simpa using hq)),
    takeTrip_of_quiet (.inr (by simpa using hq))]

/-! ### What evaluation and automatic joins leave alone -/

/-- The values of a district that neither an evaluation nor an attempt to join touches: its compensation, its
loading with the required pressure, the loading in flight and the marks of its tell-tale (04 R69, R71, R72). -/
def pressureValues (r : District) : List Nat × Option Nat × Bool × Bool :=
  ([r.comp, r.loading, r.required], r.inFlight, r.ttLow, r.latches.telltaleLow)

/-- From `s` to `t` only districts' states and latches, the occasions, the attempt, the messages and the line have changed. -/
structure Judged (s t : State) : Prop where
  districts : ∀ e, pressureValues (t.district e) = pressureValues (s.district e)
  others : t = { s with
    districts := t.districts, occasions := t.occasions, attempt := t.attempt, inTransit := t.inTransit, line := t.line }

/-- What a judging keeps outside the districts and the line. -/
theorem Judged.kept {s t : State} (h : Judged s t) : t.holders = s.holders ∧ t.yard = s.yard ∧ t.rst = s.rst ∧ t.bke = s.bke
    ∧ t.rex = s.rex ∧ t.balance = s.balance := by
  rw [h.others]
  exact ⟨rfl, rfl, rfl, rfl, rfl, rfl⟩

/-- What a judging keeps of a district. -/
theorem Judged.district {s t : State} (h : Judged s t) (e : DistrictId) : (t.district e).comp = (s.district e).comp
    ∧ (t.district e).loading = (s.district e).loading ∧ (t.district e).required = (s.district e).required
    ∧ (t.district e).inFlight = (s.district e).inFlight ∧ (t.district e).ttLow = (s.district e).ttLow
    ∧ (t.district e).latches.telltaleLow = (s.district e).latches.telltaleLow := by
  have hv := h.districts e
  simp only [pressureValues, Prod.mk.injEq, List.cons.injEq, and_true] at hv
  obtain ⟨⟨hcomp, hloading, hrequired⟩, hflight, hlow, hlatch⟩ := hv
  exact ⟨hcomp, hloading, hrequired, hflight, hlow, hlatch⟩

theorem Judged.refl (s : State) : Judged s s := ⟨fun _ => rfl, rfl⟩

theorem Judged.trans {s t u : State} (h : Judged s t) (k : Judged t u) : Judged s u :=
  ⟨fun e => (k.districts e).trans (h.districts e), by rw [k.others, h.others]⟩

theorem judged_modDistrict {s : State} {d : DistrictId} {f : District → District}
    (hf : pressureValues (f (s.district d)) = pressureValues (s.district d)) : Judged s (s.modDistrict d f) where
  districts e := by
    by_cases he : e = d
    · subst he; simpa using hf
    · rw [State.district_modDistrict_ne s f he]
  others := rfl

theorem judged_occasion (d : DistrictId) (s : State) : Judged s (occasion d s) := ⟨fun _ => rfl, rfl⟩

theorem judged_setLoadingCommand (s : State) (d : DistrictId) (c : Option Nat) : Judged s (s.setLoadingCommand d c) :=
  ⟨fun _ => rfl, rfl⟩

/-- No state's entering latches TELLTALE-LOW (04 R78, R88). -/
@[simp] theorem enter_telltaleLow (st : DistrictState) (l : DistrictLatches) : (l.enter st).telltaleLow = l.telltaleLow := by
  cases st <;> rfl

/-- An evaluation changes a district's state and latches, and may make an occasion (04 R78). -/
theorem judged_evaluate (d : DistrictId) (s : State) : Judged s (evaluate d s) := by
  unfold evaluate takeJudged
  dsimp only
  split
  · split
    · exact .refl s
    · have hstate : Judged s (s.modDistrict d fun r => { r with
          state := judgedState s (s.district d), latches := r.latches.enter (judgedState s (s.district d)) }) :=
        judged_modDistrict (by simp [pressureValues])
      split
      · exact hstate
      · exact hstate.trans (judged_occasion d _)
  · exact .refl s

theorem judged_joinFailed (d : DistrictId) (s : State) : Judged s (joinFailed d s) := judged_modDistrict rfl

/-- An occasion gives one message, or latches a failure, or does nothing (04 R79, R80). -/
theorem judged_tryJoin (d : DistrictId) (s : State) : Judged s (tryJoin d s) := by
  unfold tryJoin
  dsimp only
  split
  · exact .refl s
  · split
    · exact judged_joinFailed d s
    · split
      · exact ⟨fun _ => rfl, rfl⟩
      · exact judged_joinFailed d s

theorem judged_tryJoins (ds : List DistrictId) : ∀ s, Judged s (tryJoins ds s) := by
  induction ds with
  | nil => exact fun s => ⟨fun _ => rfl, rfl⟩
  | cons d ds ih =>
    intro s
    unfold tryJoins
    split
    · exact ⟨fun _ => rfl, rfl⟩
    · exact (judged_tryJoin d s).trans (ih _)

theorem judged_runOccasions (s : State) : Judged s (runOccasions s) := judged_tryJoins _ s

/-! ### The tell-tale's reply -/

/-- The compensation that a tell-tale pressure asks for (04 R69). -/
def compensation (p : Nat) (r : District) : Nat :=
  if p < r.ttMin then min (r.comp + r.ttStep) r.compMax else if p ≤ r.ttMin + r.ttBand then r.comp else r.comp - r.ttStep

/-- A tell-tale reply writes the compensation, the low mark and, where the mark is new, its latch (04 R69). -/
theorem compensate_eq (p : Nat) (r : District) : compensate p r = { r with
    comp := compensation p r
    ttLow := decide (p < r.ttMin)
    latches := { r.latches with telltaleLow := r.latches.telltaleLow || (decide (p < r.ttMin) && !r.ttLow) } } := by
  unfold compensate compensation
  split
  · simp [*]
  · split <;> simp [*]

theorem exec_telltaleReply {s : State} (d : DistrictId) (p : Nat) (h : s.running = true) :
    exec (.telltaleReply d p) s = .next (telltaleReply d p (s.taken (.telltaleReply d p))) :=
  whenRunning_of_running (fun s => telltaleReply d p (s.taken (.telltaleReply d p))) h

/-- A district in service whose values change has its loading worked afresh, and in flight where it has changed (04 R71, R72). -/
theorem adjustDistrict_inService {s : State} {d : DistrictId} {f : District → District}
    (hs : (f (s.district d)).state.inService = true) :
    ∃ inFlight, Judged (s.modDistrict d fun r => { (f r).recompute with inFlight := inFlight }) (adjustDistrict d f s)
      ∧ ((f (s.district d)).recompute.loading ≠ (s.district d).loading →
        inFlight = some (f (s.district d)).recompute.loading) := by
  have hs' : (f (s.district d)).recompute.state.inService = true := hs
  have hev (x y : State) (h : Judged x y) (c : Prop) [Decidable c] : Judged x (if c then evaluate d y else y) := by
    split
    · exact h.trans (judged_evaluate d y)
    · exact h
  by_cases hl : (f (s.district d)).recompute.loading = (s.district d).loading
  · refine ⟨(f (s.district d)).recompute.inFlight, ?_, fun h => absurd hl h⟩
    simp only [adjustDistrict, State.district_modDistrict_self, hl, ne_eq, not_true_eq_false, and_false, if_false]
    exact hev _ _ (modDistrict_congr rfl ▸ .refl _) _
  · refine ⟨some (f (s.district d)).recompute.loading, ?_, fun _ => rfl⟩
    simp only [adjustDistrict, State.district_modDistrict_self, hl, hs', ne_eq, not_false_eq_true, and_self, if_true,
      placeLoading_eq, State.modDistrict_modDistrict]
    exact hev _ _ (judged_setLoadingCommand ..) _

/-- A tell-tale reply that leaves the compensation writes the low mark and its latch alone (04 R69). -/
theorem telltaleReply_of_same {s : State} {d : DistrictId} {p : Nat} (hs : (s.district d).state.inService = true)
    (hc : compensation p (s.district d) = (s.district d).comp) :
    telltaleReply d p s = s.modDistrict d fun r => { r with
      ttLow := decide (p < r.ttMin)
      latches := { r.latches with telltaleLow := r.latches.telltaleLow || (decide (p < r.ttMin) && !r.ttLow) } } := by
  have hcomp : (compensate p (s.district d)).comp = (s.district d).comp := by rw [compensate_eq]; exact hc
  simp only [telltaleReply, hs, if_true, hcomp]
  exact modDistrict_congr (by rw [compensate_eq, hc])

/-- A tell-tale reply that moves the compensation adjusts the district (04 R69, R71, R72). -/
theorem telltaleReply_of_moved {s : State} {d : DistrictId} {p : Nat} (hs : (s.district d).state.inService = true)
    (hc : compensation p (s.district d) ≠ (s.district d).comp) :
    ∃ inFlight, Judged (s.modDistrict d fun r => { (compensate p r).recompute with inFlight := inFlight }) (telltaleReply d p s)
      ∧ ((compensate p (s.district d)).recompute.loading ≠ (s.district d).loading →
        inFlight = some (compensate p (s.district d)).recompute.loading) := by
  have hcomp : (compensate p (s.district d)).comp ≠ (s.district d).comp := by rw [compensate_eq]; exact hc
  have hs' : (compensate p (s.district d)).state.inService = true := by rw [compensate_eq]; exact hs
  obtain ⟨inFlight, hj, hl⟩ := adjustDistrict_inService hs'
  refine ⟨inFlight, ?_, hl⟩
  simp only [telltaleReply, hs, if_true, hcomp, if_false]
  exact hj.trans (judged_runOccasions _)

/-- Settles O56: the governor's cases, the tell-tale's with its compensation kept and moved, and the barometer's. -/
theorem stationRepliesAreTaken : Obligations.StationRepliesAreTaken := by
  unfold Obligations.StationRepliesAreTaken
  intro s d g p v hr
  refine ⟨fun l hf hq => governorReply_inFlight hr hf hq, fun hf hs ht => governorReply_inService hr hf hs ht,
    fun l hf hs ht => governorReply_trip_inFlight hr hf hs ht, fun hf hs ht he => governorReply_trip hr hf hs ht he,
    fun hf hs => governorReply_outOfService hr hf hs, ?_, ?_,
    whenRunning_of_running (fun s => takeBarometer v (s.taken (.barometerReply v))) hr⟩
  · intro hs
    rw [exec_telltaleReply d p hr, telltaleReply, if_neg (by simp [hs])]
  · rintro comp hs rfl
    refine ⟨_, exec_telltaleReply d p hr, ?_⟩
    by_cases hc : compensation p (s.district d) = (s.district d).comp
    · rw [telltaleReply_of_same (by simpa using hs) (by simpa using hc)]
      refine ⟨?_, ?_, ?_, fun h => absurd hc h, fun _ => rfl, fun e he => ?_, rfl, rfl, rfl, rfl, rfl, rfl⟩
      · simpa [compensation] using hc.symm
      · rw [State.district_modDistrict_self]; rfl
      · rw [State.district_modDistrict_self]; rfl
      · simp [State.district_modDistrict_ne _ _ he]
    · obtain ⟨inFlight, hj, hl⟩ :=
        telltaleReply_of_moved (s := s.taken (.telltaleReply d p)) (p := p) (by simpa using hs) (by simpa using hc)
      obtain ⟨hcomp, hloading, hrequired, hflight, hlow, hlatch⟩ := hj.district d
      rw [State.district_modDistrict_self, compensate_eq] at hcomp hloading hrequired hflight hlow hlatch
      rw [compensate_eq] at hl
      refine ⟨hcomp, hlow, hlatch, fun _ => ⟨hloading, hrequired.trans (by rw [hloading]; rfl), fun hne => ?_⟩,
        fun h => absurd h hc, fun e he => ?_, hj.kept⟩
      · rw [hflight, hloading]
        exact hl (hloading ▸ hne)
      · obtain ⟨hcomp', hloading', -⟩ := hj.district e
        rw [State.district_modDistrict_ne _ _ he] at hcomp' hloading'
        exact ⟨hcomp', hloading'⟩

end Sys2Proof.StationReplies

/-! PROOFS. The commit of a booking (06 R122 to R127, 08 R156, R157): where it goes, what suspense makes of one that is diverted,
and how BKE's access ends behind it (O59). -/

namespace Sys2Proof.Commits

open Sys2Proof.Machine Sys2Proof.Safety

/-! ### The store behind a commit -/

/-- Of a sound store the account records and the slots' status are in canonical form (08 R154). -/
theorem canonical_of_storesSound {r : Rst} (h : storesSound r = true) :
    canonical Account.free r.accounts = true ∧ canonical false r.damaged = true := by
  simp only [storesSound, Bool.and_eq_true] at h
  obtain ⟨⟨⟨⟨⟨⟨⟨⟨haccounts, -⟩, -⟩, -⟩, -⟩, -⟩, hdamaged⟩, -⟩, -⟩ := h
  exact ⟨haccounts, hdamaged⟩

/-- A commit's work on the store has led from `s` to `x`: only accounts, flaws and status with their counts and latches have
changed, the accounts are those of `own` and still in canonical form. -/
structure Booked (s x : State) (own : Nat → Account) : Prop where
  others : x = { s with rst := { x.rst with
    mains := s.rst.mains, points := s.rst.points, arbiter := s.rst.arbiter } }
  canon : canonical Account.free x.rst.accounts = true
  accounts : ∀ k, x.rst.account k = own k

theorem Booked.refl {s : State} (h : storesSound s.rst = true) : Booked s s s.rst.account :=
  ⟨rfl, (canonical_of_storesSound h).1, fun _ => rfl⟩

/-- A record written to a slot stands there, and every other account stands (07 R131). -/
theorem Booked.put {s x : State} {own : Nat → Account} (h : Booked s x own) (n : Nat) (a : Account) :
    Booked s (x.modRst fun r => r.putAccount n a) fun k => if k = n then a else own k where
  others := by rw [h.others]; rfl
  canon := canonical_writeAt n a h.canon
  accounts k := by rw [State.modRst_rst, Rst.account_putAccount h.canon, h.accounts]

/-- A read that finds contents leaves the accounts, and the flaws and status of every other slot (08 R155). -/
theorem Booked.read {s x : State} {own : Nat → Account} {g : Grant} {n : Nat} (h : Booked s x own) (hr : Readable x n) :
    ∃ y, judge false g.period n x = (.contents, y) ∧ Booked s y own ∧ y.rst.damaged = x.rst.damaged
      ∧ ∀ k, k ≠ n → y.rst.flawsOf k = x.rst.flawsOf k := by
  obtain ⟨_, _, _, _, hj, hf⟩ := judge_of_readable (own := false) (period := g.period) hr
  exact ⟨_, hj, ⟨by rw [h.others], h.canon, h.accounts⟩, rfl, hf⟩

/-! ### What suspense makes of a booking -/

/-- Suspense takes a booking it can read and has room for (06 R125). -/
theorem toSuspense_added {s x : State} {own : Nat → Account} {g : Grant} {q : Quantity} {reason : Divert} (h : Booked s x own)
    (hr : Readable x 0) (hroom : RoomFor ((own 0).rolled g.period) q.volume g.declaredCv) :
    ∃ y, toSuspense g q reason x = (.suspense reason, y) ∧ y.rst.damaged = x.rst.damaged
      ∧ Booked s y fun k => if k = 0 then { withBooking ((own 0).rolled g.period) q.clamped q.volume g.declaredCv with
          diverts := ((own 0).rolled g.period).diverts.raise reason } else own k := by
  obtain ⟨y, hj, hy, hd, -⟩ := h.read (g := g) hr
  refine ⟨y.modRst fun r => r.putAccount 0 _, ?_, hd, hy.put 0 _⟩
  simp only [toSuspense, hj, hy.accounts, Account.add_eq, if_pos hroom]
  rfl

/-- A full suspense account takes no booking, and has its limit mark set (06 R126). -/
theorem toSuspense_full {s x : State} {own : Nat → Account} {g : Grant} {q : Quantity} {reason : Divert} (h : Booked s x own)
    (hr : Readable x 0) (hroom : ¬ RoomFor ((own 0).rolled g.period) q.volume g.declaredCv) :
    ∃ y, toSuspense g q reason x = (.refused .full, y)
      ∧ Booked s y fun k => if k = 0 then { (own 0).rolled g.period with limitReached := true } else own k := by
  obtain ⟨y, hj, hy, -, -⟩ := h.read (g := g) hr
  refine ⟨_, ?_, hy.put 0 _⟩
  simp only [toSuspense, hj, hy.accounts, Account.add_eq, if_neg hroom]

/-- An unreadable suspense account starts afresh (06 R126, 08 R157). -/
theorem toSuspense_afresh {s x : State} {own : Nat → Account} {g : Grant} {q : Quantity} {reason : Divert} (h : Booked s x own)
    (hu : Uncorrectable x 0) : ∃ y, toSuspense g q reason x = (.refused .damaged, y)
      ∧ Booked s y fun k => if k = 0 then Account.suspense g.period else own k := by
  have hn : Booked s (x.modRst fun r => r.noteDamaged 0) own := ⟨by rw [h.others]; rfl, h.canon, h.accounts⟩
  exact ⟨_, toSuspense_of_uncorrectable hu, hn.put 0 _⟩

/-! ### Where a booking goes -/

/-- A booking to an account that can be read: it is added, or diverted as CLOSED or FULL (06 R124, R125). -/
theorem toAccount_of_readable {s : State} {g : Grant} {q : Quantity} {slot : Nat} (hs : storesSound s.rst = true)
    (hr : Readable s slot) : ∃ y, Booked s y s.rst.account ∧ y.rst.damaged = s.rst.damaged
      ∧ (∀ k, k ≠ slot → y.rst.flawsOf k = s.rst.flawsOf k)
      ∧ toAccount g q slot s
        = (let a := (s.rst.account slot).rolled g.period
          if a.state ≠ .opened then toSuspense g q .closed (y.modRst fun r => r.putAccount slot a)
          else if RoomFor a q.volume (a.cv.getD g.declaredCv) then
            (.account, y.modRst fun r => r.putAccount slot (withBooking a q.clamped q.volume (a.cv.getD g.declaredCv)))
          else toSuspense g q .full (y.modRst fun r => r.putAccount slot { a with limitReached := true })) := by
  obtain ⟨y, hj, hy, hd, hf⟩ := (Booked.refl hs).read (g := g) hr
  refine ⟨y, hy, hd, hf, ?_⟩
  by_cases hroom : RoomFor ((s.rst.account slot).rolled g.period) q.volume
      (((s.rst.account slot).rolled g.period).cv.getD g.declaredCv)
  · simp only [toAccount, hj, hy.accounts, Account.add_eq, Account.pricingCv, if_pos hroom]
  · simp only [toAccount, hj, hy.accounts, Account.add_eq, Account.pricingCv, if_neg hroom]

/-- A booking in range of an OPEN account is added to it (06 R125). -/
theorem commitTo_added {s : State} {g : Grant} {q : Quantity} {slot : Nat} {global : Bool} {origin : Origin} {a : Account}
    (hs : storesSound s.rst = true) (hr : Readable s slot) (ha : a = (s.rst.account slot).rolled g.period)
    (ho : a.state = .opened) (hroom : RoomFor a q.volume (a.cv.getD g.declaredCv)) :
    ∃ y, commitTo g q (some (.account slot false global origin)) s = (.account, y)
      ∧ Booked s y fun k => if k = slot then withBooking a q.clamped q.volume (a.cv.getD g.declaredCv) else s.rst.account k := by
  subst ha
  obtain ⟨y, hy, -, -, hto⟩ := toAccount_of_readable (g := g) (q := q) hs hr
  simp only [ho, ne_eq, not_true_eq_false, if_false, if_pos hroom] at hto
  exact ⟨_, hto, hy.put slot _⟩

/-- A booking is diverted to suspense with a reason, by a state `x` with the accounts of `own` in which suspense reads as before;
the account whose read could not be corrected is DAMAGED there (06 R124, 08 R156). -/
structure Diverts (g : Grant) (q : Quantity) (r : Option Resolution) (s : State) (reason : Divert) (own : Nat → Account)
    (x : State) : Prop where
  goes : commitTo g q r s = toSuspense g q reason x
  booked : Booked s x own
  suspense : own 0 = s.rst.account 0
  status : x.rst.isDamaged 0 = s.rst.isDamaged 0
  flaws : x.rst.flawsOf 0 = s.rst.flawsOf 0
  damaged : ∀ slot global origin, r = some (.account slot false global origin) → Uncorrectable s slot → 1 ≤ slot →
    x.rst.isDamaged slot = true

/-- A booking that is diverted before its account is read finds the store as it stands. -/
theorem diverts_unread {g : Grant} {q : Quantity} {r : Option Resolution} {s : State} {reason : Divert}
    (hs : storesSound s.rst = true) (hg : commitTo g q r s = toSuspense g q reason s)
    (hd : ∀ slot global origin, r = some (.account slot false global origin) → s.rst.isDamaged slot = true) :
    Diverts g q r s reason s.rst.account s :=
  ⟨hg, .refl hs, rfl, rfl, rfl, fun slot global origin he _ _ => hd slot global origin he⟩

/-- A booking without a route, by the walk's reason (06 R124). -/
theorem commitTo_noRoute (g : Grant) (q : Quantity) (why : NoRoute) (s : State) : commitTo g q (some (.noRoute why)) s
    = toSuspense g q (if why = .damaged then .damaged else .noRoute) s := by
  cases why <;> rfl

/-- An account that a read has found uncorrectable is counted, latched and DAMAGED (08 R156). -/
theorem takeDamage_account {own : Bool} {period n : Nat} (s : State) (h : 1 ≤ n) (h' : n ≤ 255) :
    takeDamage own period n s = s.modRst fun r => (r.noteDamaged n).setDamaged n true := by
  have hn : n < Config.accounts := Nat.lt_succ_of_le h'
  simp only [takeDamage, if_neg (show n ≠ 0 by omega), if_pos hn]
  rfl

/-- A booking to an account that stands DAMAGED (06 R124). -/
theorem diverts_damaged {g : Grant} {q : Quantity} {s : State} {slot : Nat} {global : Bool} {origin : Origin}
    (hs : storesSound s.rst = true) (hd : s.rst.isDamaged slot = true) :
    Diverts g q (some (.account slot false global origin)) s .damaged s.rst.account s := by
  refine diverts_unread hs ?_ fun k _ _ he => ?_
  · show toAccount g q slot s = _
    simp only [toAccount, judge_of_damaged hd]
  · cases he
    exact hd

/-- A booking whose account's read finds a flaw it cannot correct (06 R124, 08 R156). -/
theorem diverts_uncorrectable {g : Grant} {q : Quantity} {s : State} {slot : Nat} {global : Bool} {origin : Origin}
    (hs : storesSound s.rst = true) (hu : Uncorrectable s slot) (h : 1 ≤ slot) (h' : slot ≤ 255) :
    Diverts g q (some (.account slot false global origin)) s .damaged s.rst.account
      (s.modRst fun r => (r.noteDamaged slot).setDamaged slot true) where
  goes := by
    show toAccount g q slot s = _
    simp only [toAccount, judge_of_uncorrectable hu.1 hu.2, takeDamage_account s h h']
  booked := ⟨rfl, ((canonical_of_storesSound hs).1 :), fun _ => rfl⟩
  suspense := rfl
  status := readAt_writeAt_ne _ (by omega)
  flaws := rfl
  damaged k _ _ he _ _ := by
    cases he
    exact readAt_writeAt_self _ _ (canonical_of_storesSound hs).2

/-- A booking diverted behind a read of its account, to which a record is written back. -/
theorem diverts_written {g : Grant} {q : Quantity} {s y : State} {slot : Nat} {global : Bool} {origin : Origin}
    {reason : Divert} {a : Account} (hr : Readable s slot) (h : 1 ≤ slot) (hy : Booked s y s.rst.account)
    (hd : y.rst.damaged = s.rst.damaged) (hf : ∀ k, k ≠ slot → y.rst.flawsOf k = s.rst.flawsOf k)
    (hg : toAccount g q slot s = toSuspense g q reason (y.modRst fun r => r.putAccount slot a)) :
    Diverts g q (some (.account slot false global origin)) s reason (fun k => if k = slot then a else s.rst.account k)
      (y.modRst fun r => r.putAccount slot a) where
  goes := hg
  booked := hy.put slot a
  suspense := if_neg (by omega)
  status := congrArg (readAt false · 0) hd
  flaws := (readAt_writeAt_ne _ (by omega)).trans (hf 0 (by omega))
  damaged k _ _ he hu _ := by
    cases he
    have := hr.2
    have := hu.2
    omega

/-- A booking to an account that is not OPEN; the roll of its period is written back (06 R124, R125). -/
theorem diverts_closed {g : Grant} {q : Quantity} {s : State} {slot : Nat} {global : Bool} {origin : Origin}
    (hs : storesSound s.rst = true) (h : 1 ≤ slot) (hr : Readable s slot) (ho : (s.rst.account slot).state ≠ .opened) :
    ∃ x, Diverts g q (some (.account slot false global origin)) s .closed
      (fun k => if k = slot then (s.rst.account slot).rolled g.period else s.rst.account k) x := by
  obtain ⟨y, hy, hd, hf, hto⟩ := toAccount_of_readable (g := g) (q := q) hs hr
  simp only [Account.rolled_state, if_pos ho] at hto
  exact ⟨_, diverts_written hr h hy hd hf hto⟩

/-- A booking that its OPEN account has no room for; the limit mark is written back (06 R125, 01 R11). -/
theorem diverts_full {g : Grant} {q : Quantity} {s : State} {slot : Nat} {global : Bool} {origin : Origin}
    (hs : storesSound s.rst = true) (h : 1 ≤ slot) (hr : Readable s slot) (ho : (s.rst.account slot).state = .opened)
    (hroom : ¬ RoomFor ((s.rst.account slot).rolled g.period) q.volume ((s.rst.account slot).cv.getD g.declaredCv)) :
    ∃ x, Diverts g q (some (.account slot false global origin)) s .full
      (fun k => if k = slot then { (s.rst.account slot).rolled g.period with limitReached := true } else s.rst.account k) x := by
  obtain ⟨y, hy, hd, hf, hto⟩ := toAccount_of_readable (g := g) (q := q) hs hr
  rw [← Account.rolled_state _ g.period] at ho
  rw [← Account.rolled_cv (s.rst.account slot) g.period] at hroom
  dsimp only at hto
  rw [if_neg (not_not.2 ho), if_neg hroom] at hto
  exact ⟨_, diverts_written hr h hy hd hf hto⟩

/-! ### How the access ends -/

/-- The state behind a commit that has come out as `c` and left the store as in `y`: the channel and the latches follow, and BKE goes
on to mark the leaf, or its cycle ends (06 R123, R126, R127, R130). -/
def committed (h : InHand) (c : Committed) (marks : Option Phase) (y : State) : State :=
  let z := (settleChannel h c y).modBke (latchBooking h c)
  match marks with
  | some p => bookingContinues z h p
  | none => { z with bke := { z.bke with inHand := none }, rst := { z.rst with arbiter := { z.rst.arbiter with serving := none } } }

/-- The channel's base or its waiting mark is all that a commit settles (06 R116, R123, R126). -/
theorem settleChannel_eq (h : InHand) (c : Committed) (s : State) :
    settleChannel h c s = { s with line := (settleChannel h c s).line } := by
  cases c
  case refused => simp only [settleChannel]; split <;> rfl
  all_goals rfl

/-- The latches are all that a commit changes of BKE (06 R130). -/
theorem latchBooking_eq (h : InHand) (c : Committed) (b : Bke) :
    latchBooking h c b = { b with diverted := (latchBooking h c b).diverted, implausible := (latchBooking h c b).implausible } := by
  cases c
  case suspense reason => cases reason <;> rfl
  all_goals rfl

theorem settleChannel_rst (h : InHand) (c : Committed) (s : State) : (settleChannel h c s).rst = s.rst := by
  rw [settleChannel_eq]

theorem settleChannel_bke (h : InHand) (c : Committed) (s : State) : (settleChannel h c s).bke = s.bke := by
  rw [settleChannel_eq]

/-! ### Whether a leaf is marked -/

theorem booksLeaf_of_refused (why : Divert) (r : Option Resolution) : booksLeaf (.refused why) r = none := rfl

/-- A booking that did not walk to its leaf, or whose leaf is global, marks none (06 R127). -/
theorem booksLeaf_of_unmarked {c : Committed} {slot : Nat} {barred global : Bool} {origin : Origin}
    (h : global = true ∨ ∀ own, origin ≠ .walk own) : booksLeaf c (some (.account slot barred global origin)) = none := by
  cases origin with
  | walk own =>
    obtain rfl : global = true := h.resolve_right fun hn => hn own rfl
    cases c <;> rfl
  | route => cases c <;> simp [booksLeaf]
  | cache => cases c <;> simp [booksLeaf]

/-- A booking that was taken and walked to a leaf that is not global marks it (06 R127). -/
theorem booksLeaf_of_walked {c : Committed} {slot : Nat} {barred : Bool} {own : LeafRef} (hc : ∀ why, c ≠ .refused why) :
    booksLeaf c (some (.account slot barred false (.walk own))) = some (.marking slot barred own) := by
  cases c
  case refused why => exact absurd rfl (hc why)
  all_goals rfl

/-- Only MARKING follows a commit that has booked (06 R127). -/
theorem booksLeaf_ne_committing {c : Committed} {r x : Option Resolution} {st : Bool} :
    booksLeaf c r ≠ some (.committing x st) := by
  unfold booksLeaf
  split <;> simp

/-! ### The state behind the access -/

/-- A commit access whose resolution is fresh at the grant (06 R122, R123). -/
theorem exec_commit {s y : State} {g : Grant} {h : InHand} {r : Option Resolution} {st : Bool} {c : Committed}
    {own : Nat → Account} (hs : Serves s g .bke) (hh : s.bke.inHand = some h) (hp : h.phase = .committing r st)
    (hq : s.bke.queue = []) (hg : g.stale = false) (hc : commitTo g (quantityOf g h) r s = (c, y)) (hy : Booked s y own) :
    exec (.commitAccess []) s = .next (committed h c (booksLeaf c r) y) := by
  have hexec := exec_commitAccess hs hh hp
  obtain ⟨-, hserving, -, hb, hr, hk⟩ := hs
  have harb : y.rst.arbiter = s.rst.arbiter := congrArg (·.rst.arbiter) hy.others
  have hbke : y.bke = s.bke := congrArg (·.bke) hy.others
  rw [hexec]
  simp only [commitEnds, hg, commitEffect, hc, committed]
  cases hm : booksLeaf c r with
  | none =>
    refine congrArg _ (release_endCycle ?_ ?_ ?_ ?_)
    · rw [State.modBke_bke, latchBooking_eq, settleChannel_bke, hbke, hq]
    all_goals rw [State.modBke_rst, settleChannel_rst, harb]; assumption
  | some p =>
    refine congrArg _ (release_setPhase ?_ ?_ ?_ ?_)
    · rw [State.modBke_rst, settleChannel_rst, harb, hserving]; rfl
    · rw [State.modBke_rst, settleChannel_rst, harb, hb]
    · rw [State.modBke_rst, settleChannel_rst, harb, hr]
    · rintro x st rfl
      exact absurd hm booksLeaf_ne_committing

/-! ### What the end of the access leaves -/

section

variable {s y : State} {own : Nat → Account} (hy : Booked s y own) (h : InHand) (c : Committed) (m : Option Phase)

/-- Outside the line, BKE and the arbiter the commit's own work on the store is all (06 R123). -/
theorem committed_others : committed h c m y = { y with
    line := (settleChannel h c y).line
    bke := (committed h c m y).bke
    rst := { y.rst with arbiter := (committed h c m y).rst.arbiter } } := by
  unfold committed
  rw [settleChannel_eq]
  cases m <;> rfl

include hy

theorem committed_account (k : Nat) : (committed h c m y).rst.account k = own k := by
  rw [committed_others]
  exact hy.accounts k

theorem committed_bke :
    (committed h c m y).bke = { latchBooking h c s.bke with inHand := m.map fun p => { h with phase := p } } := by
  unfold committed
  rw [settleChannel_eq, hy.others]
  cases m <;> rfl

theorem committed_arbiter_of_end : (committed h c none y).rst.arbiter = { s.rst.arbiter with serving := none } := by
  unfold committed
  rw [settleChannel_eq, hy.others]
  rfl

theorem committed_serving_of_mark (p : Phase) : (committed h c (some p) y).rst.arbiter.serving
    = some ⟨.bke, s.yard.period, s.yard.barometer, s.yard.declaredCv, false⟩ := by
  unfold committed
  rw [settleChannel_eq, hy.others]
  rfl

/-- What a commit does not touch at all (06 R123). -/
theorem committed_kept : (committed h c m y).yard = s.yard ∧ (committed h c m y).holders = s.holders
    ∧ (committed h c m y).districts = s.districts ∧ (committed h c m y).rex = s.rex
    ∧ (committed h c m y).inTransit = s.inTransit ∧ (committed h c m y).rst.mains = s.rst.mains
    ∧ (committed h c m y).rst.points = s.rst.points := by
  rw [committed_others, hy.others]
  exact ⟨rfl, rfl, rfl, rfl, rfl, rfl, rfl⟩

/-- The channels are those that the settling has left of the state before (06 R123). -/
theorem committed_channel_eq (a : Nat) (k : Fin 4) :
    (committed h c m y).channel a k = (settleChannel h c y).channel a k ∧ y.channel a k = s.channel a k :=
  ⟨by rw [committed_others]; rfl, by rw [hy.others]; rfl⟩

variable {c} {ch : Channel} (hch : s.channel h.address h.channel = some ch)

include hch

/-- A booking that was taken moves the base on (06 R123). -/
theorem committed_channel_of_taken (hc : ∀ why, c ≠ .refused why) :
    (committed h c m y).channel h.address h.channel = some { ch with base := h.target } := by
  obtain ⟨hsettled, hsame⟩ := committed_channel_eq hy h c m h.address h.channel
  rw [hsettled]
  cases c
  case refused why => exact absurd rfl (hc why)
  all_goals exact channel_modChannel _ (hsame.trans hch)

/-- A booking that was not taken leaves the base, and its channel waits (06 R116, R126). -/
theorem committed_channel_of_refused (why : Divert) (hq : s.bke.queue = []) :
    (committed h (.refused why) m y).channel h.address h.channel = some { ch with waiting := true } := by
  obtain ⟨hsettled, hsame⟩ := committed_channel_eq hy h (.refused why) m h.address h.channel
  have hn : y.bke.queued h.address h.channel = false := by
    rw [hy.others]
    simp [Bke.queued, hq]
  rw [hsettled, settleChannel, if_neg (by simp [hn])]
  exact channel_modChannel _ (hsame.trans hch)

end

/-- A resolution that is stale at the grant is worked again (06 R122). -/
theorem exec_commit_stale {s : State} {g : Grant} {h : InHand} {r : Option Resolution} {st : Bool} (hs : Serves s g .bke)
    (hh : s.bke.inHand = some h) (hp : h.phase = .committing r st) (hg : g.stale = true) :
    exec (.commitAccess []) s = .next (resolvedTo s h) := by
  have hexec := exec_commitAccess hs hh hp
  obtain ⟨-, hserving, -, hb, hr, -⟩ := hs
  rw [hexec, commitEnds, if_pos hg, release_resolve (by rw [hserving]; rfl) hb hr]

/-! ### The two ends of a diverted booking -/

theorem Diverts.readable {g : Grant} {q : Quantity} {r : Option Resolution} {s x : State} {reason : Divert}
    {own : Nat → Account} (hd : Diverts g q r s reason own x) (h : Readable s 0) : Readable x 0 :=
  ⟨hd.status.trans h.1, hd.flaws.trans_le h.2⟩

theorem Diverts.uncorrectable {g : Grant} {q : Quantity} {r : Option Resolution} {s x : State} {reason : Divert}
    {own : Nat → Account} (hd : Diverts g q r s reason own x) (h : Uncorrectable s 0) : Uncorrectable x 0 :=
  ⟨hd.status.trans h.1, h.2.trans_eq hd.flaws.symm⟩

/-- A diverted booking that suspense takes (06 R125). -/
theorem Diverts.added {g : Grant} {q : Quantity} {r : Option Resolution} {s x : State} {reason : Divert} {own : Nat → Account}
    {a : Account} (hd : Diverts g q r s reason own x) (ha : a = (s.rst.account 0).rolled g.period) (hr : Readable s 0)
    (hroom : RoomFor a q.volume g.declaredCv) :
    ∃ y, commitTo g q r s = (.suspense reason, y) ∧ y.rst.damaged = x.rst.damaged
      ∧ Booked s y fun k => if k = 0 then
          { withBooking a q.clamped q.volume g.declaredCv with diverts := a.diverts.raise reason } else own k := by
  subst ha
  rw [← hd.suspense] at hroom ⊢
  obtain ⟨y, hto, hdam, hy⟩ := toSuspense_added (reason := reason) hd.booked (hd.readable hr) hroom
  exact ⟨y, hd.goes.trans hto, hdam, hy⟩

/-- A diverted booking that suspense cannot take, being full or unreadable (06 R126, 08 R157). -/
theorem Diverts.refused {g : Grant} {q : Quantity} {r : Option Resolution} {s x : State} {reason why : Divert}
    {own : Nat → Account} {a left : Account} (hd : Diverts g q r s reason own x) (ha : a = (s.rst.account 0).rolled g.period)
    (h : (Readable s 0 ∧ ¬ RoomFor a q.volume g.declaredCv ∧ left = { a with limitReached := true } ∧ why = .full)
      ∨ (Uncorrectable s 0 ∧ left = Account.suspense g.period ∧ why = .damaged)) :
    ∃ y, commitTo g q r s = (.refused why, y) ∧ Booked s y fun k => if k = 0 then left else own k := by
  subst ha
  rw [← hd.suspense] at h
  rcases h with ⟨hr, hroom, rfl, rfl⟩ | ⟨hu, rfl, rfl⟩
  · obtain ⟨y, hto, hy⟩ := toSuspense_full (reason := reason) hd.booked (hd.readable hr) hroom
    exact ⟨y, hd.goes.trans hto, hy⟩
  · obtain ⟨y, hto, hy⟩ := toSuspense_afresh (g := g) (q := q) (reason := reason) hd.booked (hd.uncorrectable hu)
    exact ⟨y, hd.goes.trans hto, hy⟩

/-- DIVERTED, or for an implausible booking IMPLAUSIBLE, is latched behind suspense (06 R130). -/
theorem latchBooking_suspense (h : InHand) (reason : Divert) (b : Bke) :
    (reason = .implausible → (latchBooking h (.suspense reason) b).implausible = some ⟨h.address, h.channel, h.pulses⟩
      ∧ (latchBooking h (.suspense reason) b).diverted = b.diverted)
    ∧ (reason ≠ .implausible → (latchBooking h (.suspense reason) b).implausible = b.implausible
      ∧ (latchBooking h (.suspense reason) b).diverted
        = some ⟨addNew ((b.diverted.map (·.reasons)).getD []) reason, h.address, h.channel, h.point⟩) := by
  cases reason <;> simp [latchBooking, latchDiverted]

/-- Settles O59: the stale resolution, the booking added to its account, and each way of diversion with its two ends. -/
theorem commitsAddOrDivertBookings : Obligations.CommitsAddOrDivertBookings := by
  unfold Obligations.CommitsAddOrDivertBookings
  intro s g h r st dv hs hh hp hq hst hdv
  obtain rfl : dv = (quantityOf g h).volume := hdv
  refine ⟨fun _ _ hg => exec_commit_stale hs hh hp hg, ?_, ?_⟩
  · rintro slot global origin a hg rfl - - hr ha ho hroom
    obtain ⟨y, hto, hy⟩ := commitTo_added (global := global) (origin := origin) hst hr ha ho hroom
    refine ⟨_, exec_commit hs hh hp hq hg hto hy, ?_, fun k hk => ?_,
      fun c hc => committed_channel_of_taken hy h _ hc (by simp), ?_, fun hm => ?_, committed_kept hy ..⟩
    · exact (committed_account hy ..).trans (if_pos rfl)
    · exact (committed_account hy ..).trans (if_neg hk)
    · rintro own rfl rfl
      rw [booksLeaf_of_walked (by simp), committed_bke hy, committed_serving_of_mark hy]
      exact ⟨rfl, rfl⟩
    · rw [booksLeaf_of_unmarked hm, committed_bke hy, committed_arbiter_of_end hy]
      exact ⟨rfl, rfl⟩
  · rintro reason a own marks hg hcase ha
    obtain ⟨x, hx, hmarks⟩ : ∃ x, Diverts g (quantityOf g h) r s reason own x ∧ booksLeaf (.suspense reason) r = marks := by
      rcases hcase with ⟨rfl, rfl, rfl, rfl⟩ | ⟨why, rfl, rfl, rfl, rfl⟩ | ⟨slot, barred, global, origin, rfl, rfl, hcase⟩
      · exact ⟨s, diverts_unread hst rfl (by simp), rfl⟩
      · exact ⟨s, diverts_unread hst (commitTo_noRoute ..) (by simp), rfl⟩
      · refine (?_ : ∃ x, Diverts _ _ _ _ _ _ x).imp fun x hx => ⟨hx, by cases origin <;> cases global <;> rfl⟩
        rcases hcase with ⟨rfl, rfl, rfl⟩ | ⟨rfl, h1, hd | ⟨hu, h255⟩, rfl, rfl⟩ | ⟨rfl, h1, hr, ho, rfl, rfl⟩
          | ⟨rfl, h1, hr, ho, rfl, hroom, rfl⟩
        · exact ⟨s, diverts_unread hst rfl (by simp)⟩
        · exact ⟨s, diverts_damaged hst hd⟩
        · exact ⟨_, diverts_uncorrectable hst hu h1 h255⟩
        · exact diverts_closed hst h1 hr ho
        · exact diverts_full hst h1 hr ho hroom
    subst hmarks
    refine ⟨fun hr hroom => ?_, fun left why hleft => ?_⟩
    · obtain ⟨y, hto, hdam, hy⟩ := hx.added ha hr hroom
      obtain ⟨himp, hdiv⟩ := latchBooking_suspense h reason s.bke
      refine ⟨_, exec_commit hs hh hp hq hg hto hy, ?_, fun k hk => ?_,
        fun c hc => committed_channel_of_taken hy h _ hc (by simp), ?_, fun hm => ?_, fun hm => ?_, ?_, ?_,
        fun slot global origin he hu h1 => ?_⟩
      · exact (committed_account hy ..).trans (if_pos rfl)
      · exact (committed_account hy ..).trans (if_neg hk)
      · rw [committed_bke hy]
      · rw [hm, committed_arbiter_of_end hy]
      · obtain ⟨p, hp'⟩ := Option.ne_none_iff_exists'.1 hm
        rw [hp', committed_serving_of_mark hy]
      · rw [committed_bke hy]
        exact himp
      · rw [committed_bke hy]
        exact hdiv
      · rw [committed_others]
        exact (congrArg (readAt false · slot) hdam).trans (hx.damaged slot global origin he hu h1)
    · obtain ⟨y, hto, hy⟩ := hx.refused ha hleft
      refine ⟨_, exec_commit hs hh hp hq hg hto hy, ?_, fun k hk => ?_,
        fun c hc => committed_channel_of_refused hy h _ hc why hq, ?_, ?_, ?_⟩
      · exact (committed_account hy ..).trans (if_pos rfl)
      · exact (committed_account hy ..).trans (if_neg hk)
      · rw [committed_bke hy]; rfl
      · rw [booksLeaf_of_refused, committed_arbiter_of_end hy]
      · rw [committed_bke hy]; rfl

end Sys2Proof.Commits

/-! PROOFS. The work of the Holder Controller as a draft (02 R34, 03 R48): what each piece of work makes of the state and of the
things DIC is to be told, and which notices the things told become. -/

namespace Sys2Proof.HolderWork

open Sys2Proof.Machine Sys2Proof.Safety

/-! ### Pieces of work on a draft -/

@[simp] theorem draft_eq (s : State) : s.draft = ⟨s, []⟩ := rfl
@[simp] theorem holder_eq (s : State) (ps : List Part) (h : HolderId) : (⟨s, ps⟩ : Draft).holder h = s.holder h := rfl
@[simp] theorem mod_eq (s : State) (ps : List Part) (h : HolderId) (f : Holder → Holder) :
    (⟨s, ps⟩ : Draft).mod h f = ⟨s.setHolder h (f (s.holder h)), ps⟩ := rfl
@[simp] theorem tell_eq (s : State) (ps : List Part) (p : Part) : (⟨s, ps⟩ : Draft).tell p = ⟨s, ps ++ [p]⟩ := rfl
@[simp] theorem drive_eq (s : State) (ps : List Part) (h : HolderId) (v : Option Drive) :
    (⟨s, ps⟩ : Draft).drive h v = ⟨s.setDrive h v, ps⟩ := rfl

/-- What entering FAULTED makes of a holder's record (02 R31). -/
def faultedWith (reason : FaultReason) (r : Holder) : Holder :=
  { r with
    changeOver := none, faultStep := (r.changeOver.map (·.step)).getD 0, active := none, next := none, activationWaits := false
    faulted := true, faultReason := some reason, state := .faulted, latches := { r.latches with fault := true } }

/-- A holder enters FAULTED: its drive is withdrawn and DIC is told to remove it (02 R31). -/
theorem enterFaulted_eq (h : HolderId) (reason : FaultReason) (s : State) (ps : List Part) :
    enterFaulted h reason ⟨s, ps⟩ = ⟨(s.setHolder h (faultedWith reason (s.holder h))).setDrive h none, ps ++ [.remove]⟩ := rfl

/-! ### Notices -/

/-- A notice carries a holder's values as its record has them (02 R34). -/
@[simp] theorem plainNotice_setHolder (s : State) (h : HolderId) (r : Holder) :
    plainNotice (s.setHolder h r) h = ⟨h, r.answering, r.stagePressure, none, false, false⟩ := by
  simp [plainNotice]
@[simp] theorem plainNotice_setDrive (s : State) (h g : HolderId) (v : Option Drive) :
    plainNotice (s.setDrive h v) g = plainNotice s g := rfl

@[simp] theorem giveEach_nothing (s : State) (h : HolderId) : (⟨s, []⟩ : Draft).giveEach h = s := rfl
@[simp] theorem giveEach_one (s : State) (h : HolderId) (p : Part) :
    (⟨s, [p]⟩ : Draft).giveEach h = s.send (partMessage (plainNotice s h) p) := rfl

end Sys2Proof.HolderWork

/-! PROOFS. The words of OLC, the move timer and the scrubber (02 R32, 03 R47, 04 R70, R74, 08 R155 to R163, 10 R187): what each
leaves of a holder, a district, the yard and the slot at the scrub pointer (O51). -/

namespace Sys2Proof.Silences

open Sys2Proof.Machine Sys2Proof.Safety Sys2Proof.HolderWork

/-! ### Crowns and move timers -/

theorem exec_crownSilentNotice {s : State} (h : HolderId) (hr : s.running = true) :
    exec (.crownSilentNotice h) s = .next (crownSilent h (s.taken (.crownSilentNotice h))) :=
  whenRunning_of_running (fun s => crownSilent h (s.taken (.crownSilentNotice h))) hr

/-- A crown that answered falls silent: DIC is told (02 R32). -/
theorem crownSilent_of_answering {s : State} {h : HolderId} (he : (s.crownEntry h).isSome = true)
    (ha : (s.holder h).answering = true) :
    crownSilent h s = (s.setHolder h { s.holder h with
      answering := false, latches := { (s.holder h).latches with crownSilent := true } }).send
        (.holderValuesNotice ⟨h, false, (s.holder h).stagePressure, none, false, false⟩) := by
  simp [crownSilent, he, ha, partMessage, plainNotice]

/-- A crown that did not answer falls silent: the latch is set and DIC is told nothing new (02 R32). -/
theorem crownSilent_of_silent {s : State} {h : HolderId} (he : (s.crownEntry h).isSome = true)
    (ha : (s.holder h).answering = false) :
    crownSilent h s
      = s.setHolder h { s.holder h with latches := { (s.holder h).latches with crownSilent := true } } := by
  simp [crownSilent, he, ha]

/-- A word of silence for a holder without a crown entry is not taken (log entry 7). -/
theorem crownSilent_of_unlinked {s : State} {h : HolderId} (he : s.crownEntry h = none) : crownSilent h s = s := by
  simp [crownSilent, he]

theorem exec_moveTimerExpiry {s : State} (h : HolderId) (hr : s.running = true) :
    exec (.moveTimerExpiry h) s = .next (moveTimerExpires h s) := whenRunning_of_running _ hr

/-- A move timer that runs out makes the holder FAULTED, at the step of its change-over (03 R47, 02 R31). -/
theorem moveTimerExpires_of_timed {s : State} {h : HolderId} {c : ChangeOver} {t : Nat} (hc : (s.holder h).changeOver = some c)
    (ht : c.timer = some t) :
    moveTimerExpires h s = ((s.setHolder h { s.holder h with
      changeOver := none, faultStep := c.step, active := none, next := none, activationWaits := false, faulted := true
      faultReason := some .noProof, state := .faulted, latches := { (s.holder h).latches with fault := true } }).setDrive h
        none).send (.removeNotice ⟨h, (s.holder h).answering, (s.holder h).stagePressure, none, false, false⟩) := by
  simp [moveTimerExpires, hc, ht, enterFaulted_eq, faultedWith, partMessage, plainNotice]

/-- With no timer running none runs out (log entry 7). -/
theorem moveTimerExpires_of_untimed {s : State} {h : HolderId} (hc : ∀ c, (s.holder h).changeOver = some c → c.timer = none) :
    moveTimerExpires h s = s := by
  unfold moveTimerExpires
  cases hk : (s.holder h).changeOver with
  | none => rfl
  | some c => simp [hc c hk]

/-! ### The line -/

theorem exec_lineDeadNotice {s : State} (hr : s.running = true) :
    exec .lineDeadNotice s = .next (lineDies (s.taken .lineDeadNotice)) :=
  whenRunning_of_running (fun s => lineDies (s.taken .lineDeadNotice)) hr

/-! ### The scrub timer -/

theorem exec_scrubTimerExpiry {s : State} (hr : s.running = true) :
    exec .scrubTimerExpiry s = .next (scrubTimerExpires s) := whenRunning_of_running _ hr

/-- With the scrub timer stopped nothing expires (08 R161, log entry 7). -/
theorem scrubTimerExpires_of_stopped {s : State} (ht : s.rst.scrubTimer = none) : scrubTimerExpires s = s := by
  simp [scrubTimerExpires, ht]

/-- A check still waiting is not asked for again (08 R161). -/
theorem scrubTimerExpires_of_pending {s : State} (ht : s.rst.scrubTimer.isSome = true) (hp : s.rst.scrubPending = true) :
    scrubTimerExpires s = { s with rst := { s.rst with scrubTimer := some s.yard.scrubInterval } } := by
  obtain ⟨t, ht⟩ := Option.isSome_iff_exists.1 ht
  simp [scrubTimerExpires, ht, hp, State.modRst]

/-- A check is asked for, and an idle arbiter grants it at once (08 R161, R163). -/
theorem scrubTimerExpires_of_idle {s : State} (ht : s.rst.scrubTimer.isSome = true) (hp : s.rst.scrubPending = false)
    (hi : StoreIdle s) :
    scrubTimerExpires s = { s with rst := { s.rst with
      scrubTimer := some s.yard.scrubInterval
      scrubPending := true
      arbiter := { s.rst.arbiter with
        serving := some ⟨.scrub, s.yard.period, s.yard.barometer, s.yard.declaredCv, s.bke.staleCommit⟩ } } } := by
  obtain ⟨t, ht⟩ := Option.isSome_iff_exists.1 ht
  obtain ⟨hs, hb, hx, hk⟩ := hi
  simp [scrubTimerExpires, ht, hp, State.modRst, request, arbitrate, grant, hs, hb, hx, hk]

/-! ### The scrub check -/

/-- The slot that the scrubber checks next (08 R161). -/
def nextSlot (p : Nat) : Nat := if p < 343 then p + 1 else 0

/-- What a check of slot `p` makes of the state its read has left: the pointer goes on and the arbiter is idle (08 R161, R163). -/
def scrubbed (p : Nat) (t : State) : State :=
  { t with rst := { t.rst with
    scrubPointer := nextSlot p, scrubPending := false, arbiter := { t.rst.arbiter with serving := none } } }

/-- A judging of a read leaves the arbiter and the scrub pointer alone (08 R155). -/
theorem judge_scrubber (own : Bool) (period n : Nat) (s : State) :
    (judge own period n s).2.rst.arbiter = s.rst.arbiter ∧ (judge own period n s).2.rst.scrubPointer = s.rst.scrubPointer := by
  unfold judge takeDamage
  split
  · exact ⟨rfl, rfl⟩
  · split
    · exact ⟨rfl, rfl⟩
    · exact ⟨rfl, rfl⟩
    · dsimp only
      split
      · exact ⟨rfl, rfl⟩
      · split <;> exact ⟨rfl, rfl⟩

/-- A granted check judges the slot at the pointer (08 R155, R161). -/
theorem exec_scrubCheck {s : State} {g : Grant} (h : Serves s g .scrub) :
    exec (.scrubCheck []) s = .next (scrubbed s.rst.scrubPointer (judge false g.period s.rst.scrubPointer s).2) := by
  obtain ⟨hr, hg, hq, hb, hx, hk⟩ := h
  obtain ⟨ha, hp⟩ := judge_scrubber false g.period s.rst.scrubPointer s
  have hserved : s.served .scrub = some g := by simp [State.served, hg, hq, Option.filter]
  change execScrubCheck [] s = _
  rw [execScrubCheck, storeCommand_nil _ hr]
  simp only [hserved, scrubEffect]
  rw [release_of_none_waits (by simpa [ha] using hb) (by simpa [ha] using hx) (by simpa [ha] using hk)]
  have hnext (p : Nat) : (if p + 1 < Config.slots then p + 1 else 0) = nextSlot p := by
    by_cases h : p < 343 <;> simp [nextSlot, Config.slots, h, show p + 1 < 344 ↔ p < 343 by omega]
  simp only [hnext, hp, scrubbed, State.modRst]

/-- An uncorrectable read of the suspense account starts it afresh (08 R157). -/
theorem takeDamage_suspense (own : Bool) (period : Nat) (s : State) : takeDamage own period 0 s
    = { s with rst := (s.rst.noteDamaged 0).putAccount 0 (Account.suspense period) } := rfl

/-- An uncorrectable read of another slot, not the walk's own, marks it damaged, and a table's makes the booking in hand stale
(05 R108, 08 R156, R158). -/
theorem takeDamage_other {period n : Nat} {s : State} (h : 1 ≤ n) : takeDamage false period n s = slotDamaged s n := by
  have h0 : n ≠ 0 := by omega
  by_cases h255 : n ≤ 255
  · have hlt : n < Config.accounts := by simp only [Config.accounts]; omega
    simp [takeDamage, slotDamaged, h0, hlt, h255, Rst.noteDamaged, Rst.setDamaged, State.modRst, Config.maxCount]
  · have hlt : ¬ n < Config.accounts := by simp only [Config.accounts]; omega
    have hstale (p : Phase) : p.markStale = match p with
        | .resolving w => .resolving { w with stale := true }
        | .committing (some x) _ => .committing (some x) true
        | p => p := by
      match p with
      | .resolving _ | .committing (some _) _ | .committing none _ | .marking _ _ _ => rfl
    simp only [takeDamage, slotDamaged, h0, hlt, h255, if_false, markStale, hstale]
    rfl

/-- Settles O51: each word, expiry and check by what its function makes of the state. -/
theorem silencesAndTimersAreTaken : Obligations.SilencesAndTimersAreTaken := by
  unfold Obligations.SilencesAndTimersAreTaken
  intro s h d hr
  refine ⟨fun he ha => ?_, fun he ha => ?_, fun he => ?_,
    whenRunning_of_running (fun s => governorSilent d (s.taken (.governorSilentNotice d))) hr,
    whenRunning_of_running (·.taken (.telltaleSilentNotice d)) hr, fun hm => ?_, fun hm => ?_,
    whenRunning_of_running (·.taken .lineAliveNotice) hr, fun c t hc ht => ?_, fun hc => ?_, fun ht => ?_, fun ht hp => ?_,
    fun ht hp hi => ?_, fun g hg hclean => ?_, fun g hg hd hf => ?_, fun g p r hg hp hd hf hr' => ?_⟩
  · exact (exec_crownSilentNotice h hr).trans (congrArg Host.Outcome.next (crownSilent_of_answering he ha))
  · exact (exec_crownSilentNotice h hr).trans (congrArg Host.Outcome.next (crownSilent_of_silent he ha))
  · exact (exec_crownSilentNotice h hr).trans (congrArg Host.Outcome.next (crownSilent_of_unlinked he))
  · exact (exec_lineDeadNotice hr).trans (congrArg Host.Outcome.next (if_pos hm))
  · exact (exec_lineDeadNotice hr).trans (congrArg Host.Outcome.next (if_neg hm))
  · rw [exec_moveTimerExpiry h hr, moveTimerExpires_of_timed hc ht]
  · rw [exec_moveTimerExpiry h hr, moveTimerExpires_of_untimed hc]
  · rw [exec_scrubTimerExpiry hr, scrubTimerExpires_of_stopped ht]
  · rw [exec_scrubTimerExpiry hr, scrubTimerExpires_of_pending ht hp]
  · rw [exec_scrubTimerExpiry hr, scrubTimerExpires_of_idle ht hp hi]
  · rw [exec_scrubCheck hg]
    rcases Bool.eq_false_or_eq_true (s.rst.isDamaged s.rst.scrubPointer) with hd | hd
    · rw [judge_of_damaged hd]
      rfl
    · rw [judge_of_clean hd (hclean.resolve_left (by simp [hd]))]
      rfl
  · rw [exec_scrubCheck hg, judge_of_correctable hd hf]
    rfl
  · subst hr'
    rw [exec_scrubCheck hg, ← hp, judge_of_uncorrectable hd hf]
    refine ⟨fun h0 => ?_, fun h1 h255 => ?_, fun h256 => ?_⟩
    · rw [h0, takeDamage_suspense]
      rfl
    · rw [takeDamage_other h1]
      simp only [slotDamaged, h255, if_true]
      rfl
    · rw [takeDamage_other (by omega)]
      simp only [slotDamaged, show ¬ p ≤ 255 by omega, if_false]
      rfl

end Sys2Proof.Silences

/-! PROOFS. The answers of the looks (02 R35, 04 R87, 06 R131, 07 R143, 08 R160, 09 R177, 10 R181, 11 R200): each answer is its
record's form, field by field (O45). -/

namespace Sys2Proof.Looks

open Sys2Proof.Machine Sys2Proof.Safety

/-! ### Fields that may be absent, lists and numbers -/

@[simp] theorem optField_eq {α : Type} (f : α → List Field) (o : Option α) : optField f o = optional f o := by
  cases o <;> rfl

@[simp] theorem listField_eq {α : Type} (f : α → List Field) (l : List α) : listField f l = listed f l := by
  simp [listField, listed, List.flatMap]

@[simp] theorem optional_none {α : Type} (f : α → List Field) : optional f none = [.presence false] := rfl
@[simp] theorem optional_some {α : Type} (f : α → List Field) (a : α) : optional f (some a) = .presence true :: f a := rfl
@[simp] theorem optional_map {α β : Type} (f : β → List Field) (g : α → β) (o : Option α) :
    optional f (o.map g) = optional (fun a => f (g a)) o := by
  cases o <;> rfl

@[simp] theorem n1_eq : n1 = fun v => [.num 1 v] := rfl
@[simp] theorem n2_eq : n2 = fun v => [.num 2 v] := rfl
@[simp] theorem n4_eq : n4 = fun v => [.num 4 v] := rfl
@[simp] theorem n5_eq : n5 = fun v => [.num 5 v] := rfl

@[simp] theorem conditionsField_eq (s : State) (x : Source) : conditionsField s x = conditionList s x := by
  simp only [conditionsField, listField_eq, conditionList]
  rfl

/-! ### Choices: each value is numbered by its place (11 R201) -/

@[simp] theorem orderKind_index (k : OrderKind) : k.index = [OrderKind.draw, .fill, .float, .stand].idxOf k := by
  cases k <;> rfl
@[simp] theorem endAction_index (a : EndAction) : a.index = [EndAction.stand, .cont].idxOf a := by
  cases a <;> rfl
@[simp] theorem holderState_index (x : HolderState) : x.index
    = [HolderState.recovering, .standing, .filling, .drawing, .floating, .changing, .isolated, .faulted].idxOf x := by
  cases x <;> rfl
@[simp] theorem valve_index (v : Valve) : v.index = [Valve.opened, .closed].idxOf v := by
  cases v <;> rfl
@[simp] theorem proved_index (p : Proved) : p.index = [Proved.unknown, .opened, .closed, .moving, .conflict].idxOf p := by
  cases p <;> rfl
@[simp] theorem faultReason_index (f : FaultReason) :
    f.index = [FaultReason.uncommanded, .noProof, .recoveryMismatch, .orphan].idxOf f := by
  cases f <;> rfl
@[simp] theorem districtState_index (x : DistrictState) :
    x.index = [DistrictState.out, .serving, .short, .starved, .tripped].idxOf x := by
  cases x <;> rfl
@[simp] theorem entryState_index (x : EntryState) : x.index = [EntryState.untried, .answering, .silent].idxOf x := by
  cases x <;> rfl
@[simp] theorem entryKind_index (k : EntryKind) :
    k.index = [EntryKind.crown, .meter, .governor, .telltale, .barometer].idxOf k := by
  cases k <;> rfl
@[simp] theorem drive_index (d : Drive) :
    d.index = [Drive.inletOpen, .inletClosed, .outletOpen, .outletClosed].idxOf d := by
  cases d <;> rfl
@[simp] theorem noRoute_index (x : NoRoute) :
    x.index = [NoRoute.invalidRoot, .invalidMain, .invalidLeaf, .badIndirect, .damaged].idxOf x := by
  cases x <;> rfl
@[simp] theorem accountState_index (x : AccountState) : x.index = [AccountState.free, .opened, .closed].idxOf x := by
  cases x <;> rfl
@[simp] theorem accountKind_index (k : AccountKind) :
    k.index = [AccountKind.receipt, .sendOut, .worksUse, .suspense].idxOf k := by
  cases k <;> rfl

/-! ### Holders (02 R35) -/

@[simp] theorem liftFields_eq : liftFields = fun l => [.num 2 l.area, .num 2 l.stroke, .num 2 l.pressure] := rfl

@[simp] theorem orderFields_eq : orderFields = orderForm := by
  funext o
  simp [orderFields, orderForm]

@[simp] theorem moveFields_eq : moveFields = moveForm := by
  funext m
  cases m <;> rfl

/-- The number of a target's state and its district (03 R37). -/
theorem targetFields_eq (t : Target) :
    .choice t.state.index :: optField (fun d : DistrictId => n1 d) t.district = targetForm t := by
  cases t <;> rfl

@[simp] theorem changeFields_eq :
    changeFields = fun c => targetForm c.target ++ listed moveForm c.moves ++ [.num 1 c.step] := by
  funext c
  rw [changeFields, targetFields_eq]
  simp

/-- An unfitted holder shows its configuration alone, a fitted one its values behind it (02 R20, R35). -/
theorem holderAnswer_eq (s : State) (h : HolderId) : holderAnswer s h = holderForm s h := by
  unfold holderAnswer holderForm configFields
  cases hf : (s.holder h).fitted with
  | false => simp [hf]
  | true => cases hj : (s.holder h).jump <;> simp [hf, hj]

/-! ### Districts (04 R87) -/

theorem toList_four {α : Type} (v : Vector α 4) : v.toList = [v[0], v[1], v[2], v[3]] := by
  obtain ⟨⟨l⟩, hl⟩ := v
  match l, hl with
  | [_, _, _, _], _ => rfl

@[simp] theorem readingFields_eq : readingFields = readingForm := by
  funext r
  cases r <;> simp [readingFields, readingForm, toList_four]

@[simp] theorem stationFields_eq : stationFields = stationForm := by
  funext e
  simp [stationFields, stationForm]

@[simp] theorem rootFields_eq (d : Desc) : descFields d = rootForm d := by
  obtain ⟨table, _, _⟩ := d
  cases table <;> rfl

@[simp] theorem stepFields_eq : stepFields = fun t => [.num 2 t.start, .num 1 t.setPoint] := rfl
@[simp] theorem holderField_eq : holderField = fun h => [.num 1 (h : Nat)] := rfl
@[simp] theorem feedFields_eq (s : State) :
    feedFields s = fun h => [.num 1 (h : Nat), .flag (s.view h).answering, .num 2 (s.view h).pressure] := rfl

theorem districtAnswer_eq (s : State) (d : DistrictId) : districtAnswer s d = districtForm s d := by
  unfold districtAnswer districtForm
  simp only [optField_eq, listField_eq, n1_eq, n2_eq, optional_map, stationFields_eq, rootFields_eq, stepFields_eq,
    holderField_eq, feedFields_eq, conditionsField_eq, districtState_index, List.append_assoc, List.cons_append, List.nil_append]

/-! ### The booking engine (06 R131) -/

@[simp] theorem routeFields_eq (f : RouteSettings) : routeFields f = routeForm f := by
  simp [routeFields, routeForm]

@[simp] theorem queueFields_eq : queueFields = fun q =>
    [.num 1 q.address, .num 1 (q.channel : Nat), .num 2 q.target, .num 2 q.pressure, .int 2 q.temp] := rfl
@[simp] theorem cacheFields_eq : cacheFields = fun e => [.num 2 e.point, .num 1 e.slot, .flag e.barred, .flag e.global] := rfl

/-- A phase's number and what the booking has been resolved to in it (06 R119). -/
theorem resolutionFields_eq (p : Phase) : .choice p.index :: resolutionFields p = resolutionForm p := by
  match p with
  | .resolving _ | .committing (some (.account _ _ _ .route)) _ | .committing (some (.account _ _ _ .cache)) _
  | .committing (some (.account _ _ _ (.walk _))) _ | .committing none _ | .marking _ _ _ => rfl
  | .committing (some (.noRoute reason)) _ => cases reason <;> rfl

@[simp] theorem inHandFields_eq : inHandFields = fun h =>
    [.num 1 h.address, .num 1 (h.channel : Nat), .num 2 h.target, .num 2 h.pulses] ++ resolutionForm h.phase := by
  funext h
  rw [inHandFields, ← resolutionFields_eq]
  rfl

theorem walkFields_eq (b : Option InHand) : (b.map fun h => walkFields h.phase).getD [.presence false]
    = optional walkForm (b.bind fun h => match h.phase with
      | .resolving w => some w
      | _ => none) := by
  cases b with
  | none => rfl
  | some h =>
    obtain ⟨_, _, _, _, _, _, _, _, _, phase⟩ := h
    cases phase with
    | resolving w =>
      obtain ⟨_, level, _, target, _, _⟩ := w
      cases level <;> cases target <;> rfl
    | _ => rfl

theorem bookingAnswer_eq (s : State) : bookingAnswer s = bookingForm s := by
  unfold bookingAnswer bookingForm
  simp only [walkFields_eq]
  simp [waitingChannels, List.countP_eq_length_filter] <;> rfl

/-! ### The store (08 R160) -/

@[simp] theorem mainAllocFields_eq (r : Rst) : mainAllocFields r
    = listed (fun x : Nat × MainAlloc => [.num 1 x.1, .num 1 x.2.district, .flag x.2.provisional])
      (r.mainAlloc.filterMap fun p => p.2.map fun a => (p.1, a)) := by
  have hrow (p : Nat × Option MainAlloc) : (p.2.map fun a => n1 p.1 ++ n1 a.district ++ [.flag a.provisional])
      = (p.2.map fun a => (p.1, a)).map fun x => [.num 1 x.1, .num 1 x.2.district, .flag x.2.provisional] := by
    rw [Option.map_map]
    rfl
  rw [mainAllocFields, funext hrow, ← List.map_filterMap]
  simp [listed]

@[simp] theorem pointAllocFields_eq (r : Rst) : pointAllocFields r
    = listed (fun x : Nat × PointAlloc => [.num 1 x.1, .num 1 x.2.main, .num 1 x.2.index, .flag x.2.provisional])
      (r.pointAlloc.filterMap fun p => p.2.map fun a => (p.1, a)) := by
  have hrow (p : Nat × Option PointAlloc) : (p.2.map fun a => n1 p.1 ++ n1 a.main ++ n1 a.index ++ [.flag a.provisional])
      = (p.2.map fun a => (p.1, a)).map fun x => [.num 1 x.1, .num 1 x.2.main, .num 1 x.2.index, .flag x.2.provisional] := by
    rw [Option.map_map]
    rfl
  rw [pointAllocFields, funext hrow, ← List.map_filterMap]
  simp [listed]

theorem storeAnswer_eq (s : State) : storeAnswer s = storeForm s := by
  simp [storeAnswer, storeForm]

/-! ### The line (09 R177) -/

@[simp] theorem linkFields_eq (l : Link) : linkFields l = Safety.linkForm l := by
  cases l <;> rfl

@[simp] theorem commandFields_eq : commandFields = commandForm := by
  funext c
  cases c <;> simp [commandFields, commandForm]

/-- A channel has outstanding pulses while it is bound and its latest count is known (06 R110). -/
theorem outstanding_eq (c : Channel) : optional (fun n => [.num 2 n]) c.outstanding
    = optional (fun n => [.num 2 ((n % 65536 + 65536 - c.base % 65536) % 65536)])
      (if c.enabled = true ∧ c.baseTaken = true then c.latest else none) := by
  by_cases h : c.enabled = true ∧ c.baseTaken = true
  · simp [Channel.outstanding, pulsesBetween, h]
  · have h' : (c.enabled && c.baseTaken) = false := by simpa using h
    simp [Channel.outstanding, h', if_neg h]

@[simp] theorem channelFields_eq : channelFields = channelForm := by
  funext c
  rw [channelForm, ← outstanding_eq]
  simp [channelFields]

@[simp] theorem entryFields_eq : entryFields = entryForm := by
  funext e
  simp [entryFields, entryForm, toList_four]

@[simp] theorem rx_index (x : Rx) : x.index = match x with
    | .hunt => 0
    | .frame _ => 1
    | .escaped _ => 2 := by
  cases x <;> rfl

theorem lineAnswer_eq (s : State) : lineAnswer s = Safety.lineForm s := by
  unfold lineAnswer Safety.lineForm
  cases h : s.line.rx <;> simp [h]

/-! ### The yard (10 R181) and an account (07 R143) -/

theorem yardAnswer_eq (s : State) : yardAnswer s = yardForm s := by
  unfold yardAnswer yardForm
  cases hm : s.yard.mode <;> cases hp : s.yard.priority <;> simp [hm, hp, Mode.index, PriorityOrder.index]

theorem accountFields_eq (slot : Nat) (a : Account) :
    accountFields slot a = if a.state = .free then [.choice 0] else accountForm slot a := by
  unfold accountFields accountForm
  by_cases hf : a.state = .free
  · simp [hf]
  · by_cases h0 : slot = 0 <;> simp [hf, h0, divertFields]

/-! ### A look of a part that is ready -/

/-- A look that is answered at its start is queued as its response, and nothing else changes (11 R194). -/
theorem exec_look {i : Instr} {tag : Byte} {q : Request} {s : State} {result : Result} {fields : List Field}
    (hi : i.request = some (tag, q)) (hr : Ready s) (hq : q.code = 0x50) (him : immediate tag q s = none)
    (hs : startRequest q (headState s tag q) = (.answered result fields, headState s tag q)) :
    exec i s = .next (withResponse s tag 0x50 result fields) := by
  have ha : admits q s.yard.mode = true := by
    rw [admits, hq]
    rfl
  rw [exec_of_answered hi hr him ha hs rfl, hq]

/-- Only a number below the bound names a holder (02, "The holder record"). -/
theorem holderOf_of_le {n : Nat} (h : 6 ≤ n) : holderOf n = none := by
  simp [holderOf, show ¬ n < 6 by omega]

theorem holderOf_val (h : HolderId) : holderOf h = some h := by
  simp [holderOf]

theorem districtOf_of_le {n : Nat} (h : 8 ≤ n) : districtOf n = none := by
  simp [districtOf, show ¬ n < 8 by omega]

theorem districtOf_val (d : DistrictId) : districtOf d = some d := by
  simp [districtOf]

/-! ### The look of an account -/

/-- A request that awaits one access at an idle store, answered by it with nothing changed (11 R194, 08 R163). -/
theorem headAnswered_startedHead {s : State} {tag : Byte} {q : Request} {w : HeadWork} {result : Result} {fields : List Field}
    (hr : Ready s) (hi : StoreIdle s) : headAnswered (startedHead s tag q w) tag q result fields
      = withResponse (accessesDone s s.rst) tag q.code result fields := by
  obtain ⟨-, hk, hw⟩ := hr
  obtain ⟨-, -, hx, -⟩ := hi
  simp only [headAnswered, startedHead, withResponse, accessesDone, hk, hw, hx]

theorem exec_lookAccount {s : State} {n : Nat} (tag : Byte) (hr : Ready s) (hi : StoreIdle s) (hn : n ≤ 255) :
    exec (.lookAccount tag n) s = .next (startedHead s tag (.lookAccount n) .account) :=
  exec_of_awaits rfl hr hi rfl rfl (if_neg (by omega : ¬ 255 < n))

/-- The look's one access answers it (07 R143). -/
theorem after_lookAccount {s : State} {tag : Byte} {n : Nat} {result : Result} {fields : List Field} (hr : Ready s)
    (hi : StoreIdle s) (hn : n ≤ 255)
    (ha : lookAccess (rexGrant s) n (startedHead s tag (.lookAccount n) .account)
      = (.answered result fields, startedHead s tag (.lookAccount n) .account)) :
    after [.lookAccount tag n, .accountRequestAccess []] s
      = .next (withResponse (accessesDone s s.rst) tag 0x50 result fields) := by
  have hrun : (startedHead s tag (.lookAccount n) .account).running = true := hr.1.1
  have hend : exec (.accountRequestAccess []) (startedHead s tag (.lookAccount n) .account)
      = .next (withResponse (accessesDone s s.rst) tag 0x50 result fields) := by
    change execAccountRequestAccess [] _ = _
    rw [execAccountRequestAccess, storeCommand_nil _ hrun,
      headAccessEnds_answered (headAwaits_startedHead tag (.lookAccount n) .account hr hi) rfl ha rfl rfl,
      headAnswered_startedHead hr hi]
    rfl
  simp only [after, exec_lookAccount tag hr hi hn, hend]

/-- Settles O45: each look's answer by its record's form. -/
theorem looksReportAndChangeNothing : Obligations.LooksReportAndChangeNothing := by
  unfold Obligations.LooksReportAndChangeNothing
  intro s tag hr
  refine ⟨fun h => exec_look rfl hr rfl rfl ?_, fun n hn => exec_look rfl hr rfl rfl ?_, fun d => exec_look rfl hr rfl rfl ?_,
    fun n hn => exec_look rfl hr rfl rfl ?_, exec_look rfl hr rfl rfl ?_, exec_look rfl hr rfl rfl ?_,
    exec_look rfl hr rfl rfl ?_, fun a e he => exec_look rfl hr rfl rfl ?_, fun a he => exec_look rfl hr rfl rfl ?_,
    exec_look rfl hr rfl rfl ?_, exec_look rfl hr rfl rfl ?_, fun n hn => exec_look rfl hr rfl rfl (if_pos hn),
    fun n hi hn => ⟨exec_lookAccount tag hr hi hn, fun hc => after_lookAccount hr hi hn ?_,
      fun hd => after_lookAccount hr hi hn ?_⟩⟩
  · simp only [startRequest, lookHolder, holderOf_val, holderAnswer_eq]
    rfl
  · simp only [startRequest, lookHolder, holderOf_of_le hn, refuse]
  · simp only [startRequest, lookDistrict, districtOf_val, districtAnswer_eq]
    rfl
  · simp only [startRequest, lookDistrict, districtOf_of_le hn, refuse]
  · simp only [startRequest, lookBooking, bookingAnswer_eq]
    rfl
  · simp only [startRequest, lookStore, storeAnswer_eq]
    rfl
  · simp only [startRequest, lookLine, lineAnswer_eq]
    rfl
  · have he' : (headState s tag (.lookLine (some a))).line.entry a = some e := he
    simp only [startRequest, lookLine, he', entryFields_eq]
  · have he' : (headState s tag (.lookLine (some a))).line.entry a = none := he
    simp only [startRequest, lookLine, he', refuse]
  · simp only [startRequest, lookYard, yardAnswer_eq]
    rfl
  · have hw : (headState s tag .lookLink).rex.work = none := hr.2.2
    have hk : (headState s tag .lookLink).rex.stack = [⟨tag, .lookLink, true⟩] := rfl
    simp only [startRequest, lookLink, linkAnswer, hw, hk, listField_eq, n1_eq, n2_eq, rx_index]
    rfl
  · simp only [lookAccess, onContents, judge_startedHead hc, accountFields_eq]
    rfl
  · simp only [lookAccess, onContents, judge_of_damaged (show (startedHead s tag (.lookAccount n) .account).rst.isDamaged n = true from hd), refuse]

end Sys2Proof.Looks

/-! PROOFS. SET-HOLDER (02 R19, R20): which settings it refuses, what it writes in a holder's record, and how it links, releases and
drives crown entries (O24). -/

namespace Sys2Proof.Fitting

open Sys2Proof.Machine Sys2Proof.Safety Sys2Proof.HolderWork

/-! ### Refusals -/

theorem setHolder_of_number {n : Nat} (f : HolderSettings) (s : State) (hn : 6 ≤ n) : setHolder n f s = (.noRecord, s) := by
  simp [setHolder, Looks.holderOf_of_le hn]

theorem setHolder_of_invalid {f : HolderSettings} (h : HolderId) (s : State) (hv : settingsValid f = false) :
    setHolder h f s = (.range, s) := by
  simp [setHolder, Looks.holderOf_val, hv]

theorem setHolder_of_refusal {f : HolderSettings} {h : HolderId} {s : State} {r : Result} (hv : settingsValid f = true)
    (hr : crownEntryRefusal s h f.crownEntry = some r) : setHolder h f s = (r, s) := by
  simp [setHolder, Looks.holderOf_val, hv, hr]

theorem setHolder_of_kept {f : HolderSettings} {h : HolderId} {s : State} (hv : settingsValid f = true)
    (hr : crownEntryRefusal s h f.crownEntry = none) (hw : (s.holder h).fitted = true) (hf : f.fitted = false)
    (hk : keepsFitted s h = true) : setHolder h f s = (.wrongState, s) := by
  simp [setHolder, Looks.holderOf_val, hv, hr, hw, hf, hk]

/-- A holder newly fitted takes its configuration and the starting values, its crown entry changes, and DIC is told (02 R20). -/
theorem setHolder_of_fitted {f : HolderSettings} {h : HolderId} {s : State} (hv : settingsValid f = true)
    (hr : crownEntryRefusal s h f.crownEntry = none) (hw : (s.holder h).fitted = false) (hf : f.fitted = true) :
    setHolder h f s = (.done,
      (((relinkCrown h f.crownEntry ⟨s.setHolder h ((s.holder h).configure f), []⟩).mod h (·.fit s.yard.barometer)).tell
        .values).giveEach h) := by
  simp [setHolder, Looks.holderOf_val, hv, hr, hw, hf, crownAddress]

/-- The crown entry a holder has once it is set again or unfitted (02 R19; log entry 19). -/
def namedEntry (r : Holder) (f : HolderSettings) : Option Nat := if r.fitted = true ∧ f.fitted = false then none else f.crownEntry

/-- A holder set again or unfitted takes its configuration, and its crown entry changes (02 R19, R20). -/
theorem setHolder_of_set {f : HolderSettings} {h : HolderId} {s : State} (hv : settingsValid f = true)
    (hr : crownEntryRefusal s h f.crownEntry = none) (hset : (s.holder h).fitted = true ∨ f.fitted = false)
    (hk : (s.holder h).fitted = true → f.fitted = false → keepsFitted s h = false) :
    setHolder h f s = (.done,
      (relinkCrown h (namedEntry (s.holder h) f) ⟨s.setHolder h ((s.holder h).configure f), []⟩).giveEach h) := by
  cases hw : (s.holder h).fitted <;> cases hf : f.fitted
  · simp [setHolder, Looks.holderOf_val, hv, hr, hw, hf, crownAddress, namedEntry]
  · simp [hw, hf] at hset
  · simp [setHolder, Looks.holderOf_val, hv, hr, hw, hf, crownAddress, namedEntry, hk hw hf]
  · simp [setHolder, Looks.holderOf_val, hv, hr, hw, hf, crownAddress, namedEntry]

theorem mem_districtIds : ∀ d : DistrictId, d ∈ districtIds := by decide

/-- A holder in use keeps its fitting (02 R20). -/
theorem keepsFitted_iff (s : State) (h : HolderId) : keepsFitted s h = true ↔
    (s.holder h).inletIntent = .opened ∨ (s.holder h).outletIntent = .opened ∨ (s.holder h).changeOver ≠ none
      ∨ s.feedOf h ≠ none ∨ ∃ d, h ∈ (s.district d).feeds ∨ h ∈ (s.district d).standby := by
  have hall (p : DistrictId → Bool) : districtIds.any p = true ↔ ∃ d, p d = true := by
    simp only [List.any_eq_true]
    exact ⟨fun ⟨d, _, hd⟩ => ⟨d, hd⟩, fun ⟨d, hd⟩ => ⟨d, mem_districtIds d, hd⟩⟩
  simp only [keepsFitted, Bool.or_eq_true, hall, decide_eq_true_eq, Option.isSome_iff_ne_none, or_assoc]

theorem keepsFitted_of_idle {s : State} {h : HolderId} (hi : (s.holder h).inletIntent = .closed)
    (ho : (s.holder h).outletIntent = .closed) (hc : (s.holder h).changeOver = none) (hf : s.feedOf h = none)
    (hd : ∀ d, h ∉ (s.district d).feeds ∧ h ∉ (s.district d).standby) : keepsFitted s h = false := by
  rw [← Bool.not_eq_true, keepsFitted_iff]
  rintro (h | h | h | h | ⟨d, h | h⟩)
  · simp [hi] at h
  · simp [ho] at h
  · exact h hc
  · exact h hf
  · exact (hd d).1 h
  · exact (hd d).2 h

/-! ### The crown entry a request names -/

section
variable {s : State} {h : HolderId} {a : Nat} {e : PollEntry}

theorem crownEntryRefusal_of_absent (he : s.line.entry a = none) : crownEntryRefusal s h (some a) = some .noRecord := by
  simp [crownEntryRefusal, he]

theorem crownEntryRefusal_of_kind (he : s.line.entry a = some e) (hk : e.kind ≠ .crown) :
    crownEntryRefusal s h (some a) = some .noRecord := by
  simp [crownEntryRefusal, he, hk]

theorem crownEntryRefusal_of_linked {g : HolderId} (he : s.line.entry a = some e) (hk : e.kind = .crown)
    (hl : e.link = .holder g) (hg : g ≠ h) : crownEntryRefusal s h (some a) = some .inUse := by
  simp [crownEntryRefusal, he, hk, hl, hg]

/-- A request passes that names no entry, a free crown entry or the holder's own (02 R19). -/
theorem crownEntryRefusal_of_named {named : Option Nat}
    (hn : ∀ a, named = some a → ∃ e, s.line.entry a = some e ∧ e.kind = .crown ∧ (e.link = .none ∨ e.link = .holder h)) :
    crownEntryRefusal s h named = none := by
  cases named with
  | none => rfl
  | some a =>
    obtain ⟨e, he, hk, hl⟩ := hn a rfl
    rcases hl with hl | hl <;> simp [crownEntryRefusal, he, hk, hl]

end

/-! ### The change of a crown entry -/

/-- What a changed crown entry makes of an entry of the poll list: the one named is linked and takes the drive in flight, the one
linked before is released with its command (02 R19). -/
def relinkedEntry (h : HolderId) (named : Option Nat) (drive : Option Drive) (e : PollEntry) : PollEntry :=
  if named = some e.address then
    { e with link := .holder h, handed := false, command := (drive.map Command.drive).orElse fun _ => e.command }
  else if e.kind = .crown ∧ e.link = .holder h then { e with link := .none, command := none, handed := false }
  else e

@[simp] theorem crownEntry_setHolder (s : State) (h g : HolderId) (r : Holder) :
    (s.setHolder h r).crownEntry g = s.crownEntry g := rfl

/-- An unchanged crown entry leaves the work as it was (02 R19). -/
theorem relinkCrown_of_same {h : HolderId} {named : Option Nat} {s : State} (ps : List Part)
    (hs : (s.crownEntry h).map (·.address) = named) : relinkCrown h named ⟨s, ps⟩ = ⟨s, ps⟩ := by
  simp [relinkCrown, hs]

/-- The link that changes, entry by entry, without a drive. -/
theorem relink_crown {h : HolderId} {named : Option Nat} {l : Line} (hs : (l.linked .crown (.holder h)).map (·.address) ≠ named)
    (hfree : ∀ e ∈ l.entries, named = some e.address → ¬ (e.kind = .crown ∧ e.link = .holder h)) :
    l.relink .crown (.holder h) named = { l with entries := l.entries.map (relinkedEntry h named none) } := by
  rw [relink_entries hs]
  congr 1
  apply List.map_congr_left
  intro e he
  by_cases hn : named = some e.address
  · simp [relinkedEntry, hn, if_neg (hfree e he hn)]
  · simp [relinkedEntry, hn]

/-- A drive placed behind the link reaches the entry named and no other (02 R19). -/
theorem drive_relinked {h : HolderId} {named : Option Nat} {es : List PollEntry} (v : Drive)
    (hcrown : ∀ e ∈ es, named = some e.address → e.kind = .crown) :
    ((es.map (relinkedEntry h named none)).map fun e =>
      if e.kind = .crown ∧ e.link = .holder h then { e with command := some (.drive v) } else e)
      = es.map (relinkedEntry h named (some v)) := by
  rw [List.map_map]
  apply List.map_congr_left
  intro e he
  by_cases hn : named = some e.address
  · simp [relinkedEntry, hn, hcrown e he hn]
  · by_cases hl : e.kind = .crown ∧ e.link = .holder h
    · simp [relinkedEntry, hn, hl]
    · simp [relinkedEntry, hn, hl]

/-- The state with its poll list as a changed crown entry leaves it. -/
def withRelinked (h : HolderId) (named : Option Nat) (drive : Option Drive) (s : State) : State :=
  { s with line := { s.line with entries := s.line.entries.map (relinkedEntry h named drive) } }

@[simp] theorem withRelinked_holder (h g : HolderId) (named : Option Nat) (drive : Option Drive) (s : State) :
    (withRelinked h named drive s).holder g = s.holder g := rfl
@[simp] theorem withRelinked_setHolder (h g : HolderId) (named : Option Nat) (drive : Option Drive) (s : State) (r : Holder) :
    (withRelinked h named drive s).setHolder g r = withRelinked h named drive (s.setHolder g r) := rfl
@[simp] theorem withRelinked_send (h : HolderId) (named : Option Nat) (drive : Option Drive) (s : State) (m : Instr) :
    (withRelinked h named drive s).send m = withRelinked h named drive (s.send m) := rfl

/-- A changed crown entry: the entries as they are linked and driven, and, where one is released, the answering flag and the jump
candidate cleared, with DIC told where the flag was set (02 R19). -/
theorem relinkCrown_of_changed {h : HolderId} {named : Option Nat} {s : State} {r : Holder}
    (hs : (s.crownEntry h).map (·.address) ≠ named)
    (hfree : ∀ e ∈ s.line.entries, named = some e.address → ¬ (e.kind = .crown ∧ e.link = .holder h))
    (hcrown : driveInFlight r ≠ none → ∀ e ∈ s.line.entries, named = some e.address → e.kind = .crown) :
    relinkCrown h named ⟨s.setHolder h r, []⟩
      = ⟨withRelinked h named (driveInFlight r)
          (s.setHolder h (if s.crownEntry h = none then r else { r with answering := false, jump := none })),
        if s.crownEntry h ≠ none ∧ r.answering = true then [.values] else []⟩ := by
  have hlink : ((s.setHolder h r).modLine fun l => l.relink .crown (.holder h) named)
      = withRelinked h named none (s.setHolder h r) :=
    congrArg (fun l => { s.setHolder h r with line := l }) (relink_crown hs hfree)
  have hdrive (v : Drive) (hd : driveInFlight r = some v) :
      (withRelinked h named none (s.setHolder h r)).setDrive h (some v) = withRelinked h named (some v) (s.setHolder h r) :=
    congrArg (fun es => { s.setHolder h r with line := { s.line with entries := es } })
      (drive_relinked v (hcrown (by simp [hd])))
  rw [driveInFlight_eq] at hdrive ⊢
  simp only [relinkCrown, holder_eq, crownEntry_setHolder, State.holder_setHolder_self, if_neg hs, hlink, withRelinked_holder]
  cases hd : r.driven with
  | none => cases s.crownEntry h <;> cases ha : r.answering <;> simp
  | some p =>
    rw [hd] at hdrive
    cases s.crownEntry h <;> cases ha : r.answering <;> simp [hdrive _ rfl]

/-! ### The record of a holder newly fitted -/

/-- Nothing is raised at height 0 (01 R15). -/
theorem raisedSum_zero (lifts : List Lift) : ∀ b, raisedSum 0 b lifts = 0 := by
  induction lifts with
  | nil => intro b; rfl
  | cons l ls ih => intro b; simp [raisedSum, ih]

/-- No lift is raised at height 0 (01 R16). -/
theorem stageOf_zero (lifts : List Lift) : stageOf lifts 0 = 0 := by
  cases lifts <;> rfl

/-- A holder newly fitted stands landed and RECOVERING with both intents CLOSED, its stock worked out at height 0 and 60.0 degrees
(02 R20). -/
def newlyFitted (f : HolderSettings) (barometer : Nat) (r : Holder) : Holder :=
  { r with
    fitted := true, lifts := f.lifts, landed := f.landed, lowStop := f.lowStop, topStop := f.topStop
    maxStep := f.maxStep, travel := f.travel.getD 120, inletIntent := .closed, outletIntent := .closed
    isolated := false, faulted := false, faultReason := none, faultStep := 0, height := 0, temp := 600, stage := 0
    stagePressure := 0, gv := f.landed, stock := stockOf f.landed (correction barometer 0 600)
    stockClamped := decide (clampBarometer barometer ≠ barometer), lastOrder := none
    terminal := false, state := .recovering, changeOver := none, active := none, next := none
    activationWaits := false, startStock := none, remainder := none, answering := false, jump := none
    provedInlet := .unknown, provedOutlet := .unknown }

theorem configure_fit (r : Holder) {f : HolderSettings} (barometer : Nat) (hf : f.fitted = true) :
    (r.configure f).fit barometer = newlyFitted f barometer r := by
  have htemp : clampTemp 600 = 600 := by decide
  simp [Holder.fit, Holder.recompute, Holder.configure, Holder.clearVolatile, newlyFitted, Quantities.clampTo_zero,
    geometricVolume, raisedSum_zero, stageOf_zero, stagePressureOf, htemp, hf]

/-- The state once a holder has been fitted and DIC told its values (02 R20). -/
def fittedState (h : HolderId) (f : HolderSettings) (s : State) : State :=
  (s.setHolder h (newlyFitted f s.yard.barometer (s.holder h))).send (.holderValuesNotice ⟨h, false, 0, none, false, false⟩)

/-- A holder newly fitted that keeps the crown entry it has, or has none (02 R20). -/
theorem setHolder_of_fitted_same {f : HolderSettings} {h : HolderId} {s : State} (hv : settingsValid f = true)
    (hr : crownEntryRefusal s h f.crownEntry = none) (hw : (s.holder h).fitted = false) (hf : f.fitted = true)
    (hs : f.crownEntry = (s.crownEntry h).map (·.address)) : setHolder h f s = (.done, fittedState h f s) := by
  rw [setHolder_of_fitted hv hr hw hf, relinkCrown_of_same _ (by exact hs.symm)]
  simp only [mod_eq, tell_eq, List.nil_append, giveEach_one, State.setHolder_setHolder, State.holder_setHolder_self,
    configure_fit _ _ hf, partMessage, plainNotice]
  rfl

/-- A holder newly fitted, without a crown entry before, that names a free one (02 R19, R20). -/
theorem setHolder_of_fitted_linked {f : HolderSettings} {h : HolderId} {s : State} (hv : settingsValid f = true)
    (hr : crownEntryRefusal s h f.crownEntry = none) (hw : (s.holder h).fitted = false) (hf : f.fitted = true)
    (hs : s.crownEntry h = none) (hn : f.crownEntry ≠ none) (hc : (s.holder h).changeOver = none) :
    setHolder h f s = (.done, withRelinked h f.crownEntry none (fittedState h f s)) := by
  have hfree (e : PollEntry) (he : e ∈ s.line.entries) : ¬ (e.kind = .crown ∧ e.link = .holder h) := by
    simpa using List.find?_eq_none.1 hs e he
  have hdrive : driveInFlight ((s.holder h).configure f) = none := by simp [driveInFlight, Holder.configure, hc]
  rw [setHolder_of_fitted hv hr hw hf,
    relinkCrown_of_changed (by simpa [hs] using hn.symm) (fun e he _ => hfree e he) (by simp [hdrive])]
  simp [hs, hdrive, configure_fit _ _ hf, partMessage, plainNotice, fittedState]
  rfl

/-! ### A holder set again or unfitted -/

/-- The address of a linked crown entry is not one of a free entry. -/
theorem not_linked_of_entry {s : State} {h : HolderId} {named : Option Nat} (hp : pollSound s.line = true)
    (hn : ∀ a, named = some a → ∃ e, s.line.entry a = some e ∧ e.kind = .crown ∧ e.link = .none) :
    ∀ e ∈ s.line.entries, named = some e.address → e.kind = .crown ∧ ¬ (e.kind = .crown ∧ e.link = .holder h) := by
  intro e he hname
  obtain ⟨x, hx, hk, hl⟩ := hn _ hname
  simp only [pollSound, Bool.and_eq_true, decide_eq_true_eq] at hp
  obtain rfl := entry_unique hp.2 hx he rfl
  simp [hk, hl]

@[simp] theorem configure_answering (r : Holder) (f : HolderSettings) : (r.configure f).answering = r.answering := rfl
@[simp] theorem configure_stagePressure (r : Holder) (f : HolderSettings) :
    (r.configure f).stagePressure = r.stagePressure := rfl
@[simp] theorem driveInFlight_configure (r : Holder) (f : HolderSettings) :
    driveInFlight (r.configure f) = driveInFlight r := rfl

/-- One whose crown entry does not change has no more than its configuration written (02 R20). -/
theorem setHolder_of_unchanged {f : HolderSettings} {h : HolderId} {s : State} (hv : settingsValid f = true)
    (hr : crownEntryRefusal s h f.crownEntry = none) (hset : (s.holder h).fitted = true ∨ f.fitted = false)
    (hk : (s.holder h).fitted = true → f.fitted = false → keepsFitted s h = false)
    (hs : namedEntry (s.holder h) f = (s.crownEntry h).map (·.address)) :
    setHolder h f s = (.done, s.setHolder h ((s.holder h).configure f)) := by
  rw [setHolder_of_set hv hr hset hk, relinkCrown_of_same _ (by exact hs.symm), giveEach_nothing]

/-- One whose crown entry changes has it linked and driven, and the one before released (02 R19, R20). -/
theorem setHolder_of_changed {f : HolderSettings} {h : HolderId} {s : State} (hv : settingsValid f = true)
    (hr : crownEntryRefusal s h f.crownEntry = none) (hset : (s.holder h).fitted = true ∨ f.fitted = false)
    (hk : (s.holder h).fitted = true → f.fitted = false → keepsFitted s h = false)
    (hs : (s.crownEntry h).map (·.address) ≠ namedEntry (s.holder h) f) (hp : pollSound s.line = true)
    (hn : ∀ a, namedEntry (s.holder h) f = some a → ∃ e, s.line.entry a = some e ∧ e.kind = .crown ∧ e.link = .none) :
    setHolder h f s = (.done,
      let x := (s.holder h).configure f
      let t := withRelinked h (namedEntry (s.holder h) f) (driveInFlight (s.holder h))
        (s.setHolder h (if s.crownEntry h = none then x else { x with answering := false, jump := none }))
      if s.crownEntry h ≠ none ∧ (s.holder h).answering = true then
        t.send (.holderValuesNotice ⟨h, false, (s.holder h).stagePressure, none, false, false⟩)
      else t) := by
  have hfree := not_linked_of_entry (h := h) hp hn
  rw [setHolder_of_set hv hr hset hk,
    relinkCrown_of_changed hs (fun e he ha => (hfree e he ha).2) (fun _ e he ha => (hfree e he ha).1)]
  rw [driveInFlight_configure, configure_answering]
  by_cases hc : s.crownEntry h = none
  · simp [hc]
  · by_cases ha : (s.holder h).answering = true <;> simp [hc, ha, partMessage, plainNotice]

/-! ### SET-HOLDER of a part that is ready -/

theorem exec_setHolder {s t : State} {tag : Byte} {n : Nat} {f : HolderSettings} {result : Result} (hr : Ready s)
    (hm : s.yard.mode = .setup)
    (hs : setHolder n f (headState s tag (.setHolder n f)) = (result, headState t tag (.setHolder n f))) (ht : t.rex = s.rex) :
    exec (.setHolder tag n f) s = .next (withResponse t tag 0x02 result []) := by
  have ha : admits (.setHolder n f) s.yard.mode = true := by rw [hm]; rfl
  refine exec_of_answered rfl hr rfl ha ?_ ht
  simp only [startRequest, hs, atOnce]

/-- Settles O24: the refusals in their order, the fitting, and the three changes of a crown entry. -/
theorem setHolderFitsAHolder : Obligations.SetHolderFitsAHolder := by
  unfold Obligations.SetHolderFitsAHolder
  intro s tag h f hr hm
  refine ⟨fun n hn => exec_setHolder hr hm (setHolder_of_number f _ hn) rfl,
    fun hv => exec_setHolder hr hm (setHolder_of_invalid h _ hv) rfl, fun hv hc hf hw hk => ?_, fun hv hf hw hs hn => ?_,
    fun a hv hc => ⟨fun he => ?_, fun e he hk => ?_, fun e g he hk hl hg => ?_, fun e he hk hl hs hf hw ho => ?_⟩,
    fun named x y es hv hset hkept hn hnamed hx => ?_⟩
  · refine exec_setHolder hr hm (setHolder_of_kept hv (by rw [hc]; rfl) hw hf ?_) rfl
    rw [keepsFitted_iff]
    rcases hk with hk | hk | hk | hk
    · exact .inl hk
    · exact .inr (.inl hk)
    · exact .inr (.inr (.inl hk))
    · exact .inr (.inr (.inr (.inr hk)))
  · have hn' := crownEntryRefusal_of_named fun a ha => (hn a ha).imp fun e ⟨he, hk, hl⟩ => ⟨he, hk, .inr hl⟩
    exact exec_setHolder hr hm (setHolder_of_fitted_same hv hn' hw hf hs) rfl
  · exact exec_setHolder hr hm (setHolder_of_refusal hv (by rw [hc]; exact crownEntryRefusal_of_absent he)) rfl
  · exact exec_setHolder hr hm (setHolder_of_refusal hv (by rw [hc]; exact crownEntryRefusal_of_kind he hk)) rfl
  · exact exec_setHolder hr hm (setHolder_of_refusal hv (by rw [hc]; exact crownEntryRefusal_of_linked he hk hl hg)) rfl
  · have hv' : settingsValid { f with crownEntry := none } = true := by
      simp only [settingsValid, Bool.and_eq_true] at hv ⊢
      exact ⟨hv.1, rfl⟩
    have hn' := crownEntryRefusal_of_named (h := h) (named := f.crownEntry) (s := s) fun b hb => by
      obtain rfl : a = b := Option.some.inj (hc.symm.trans hb)
      exact ⟨e, he, hk, .inl hl⟩
    have hentries : s.line.entries.map (relinkedEntry h (some a) none)
        = s.line.entries.map fun e => if e.address = a then { e with link := .holder h, handed := false } else e :=
      List.map_congr_left fun e he => by
        have hfree : ¬ (e.kind = .crown ∧ e.link = .holder h) := by simpa using List.find?_eq_none.1 hs e he
        by_cases hea : e.address = a
        · simp [relinkedEntry, hea]
        · simp [relinkedEntry, hea, Ne.symm hea, hfree]
    refine ⟨_, _, exec_setHolder (t := fittedState h { f with crownEntry := none } s) hr hm
        (setHolder_of_fitted_same hv' rfl hw hf (congrArg (Option.map _) hs).symm) rfl,
      exec_setHolder (t := withRelinked h f.crownEntry none (fittedState h f s)) hr hm
        (setHolder_of_fitted_linked hv hn' hw hf hs (by simp [hc]) ho) rfl, ?_⟩
    rw [← hentries, hc]
    rfl
  · have hk : (s.holder h).fitted = true → f.fitted = false → keepsFitted s h = false := fun hw hf => by
      obtain ⟨hi, ho, hc, hfeed, hlists⟩ := hkept hw hf
      exact keepsFitted_of_idle hi ho hc hfeed hlists
    have hnamed' : named = namedEntry (s.holder h) f := hnamed
    rw [hnamed', hx]
    refine ⟨fun hs => exec_setHolder hr hm (setHolder_of_unchanged hv (crownEntryRefusal_of_named hn) hset hk hs) rfl,
      fun hs hp hfree hy hes => ?_⟩
    subst hy hes
    have hfree' (a : Nat) (ha : namedEntry (s.holder h) f = some a) :
        ∃ e, s.line.entry a = some e ∧ e.kind = .crown ∧ e.link = .none := by
      have hfa : f.crownEntry = some a := by
        unfold namedEntry at ha
        split at ha
        · cases ha
        · exact ha
      obtain ⟨e, he, hkind, -⟩ := hn a hfa
      exact ⟨e, he, hkind, hfree a e ha he⟩
    have hchanged := setHolder_of_changed (s := headState s tag (.setHolder h f)) hv (crownEntryRefusal_of_named hn) hset hk
      (Ne.symm hs) hp hfree'
    by_cases hrel : s.crownEntry h ≠ none ∧ (s.holder h).answering = true
    · simp only [if_pos hrel]
      exact exec_setHolder hr hm (hchanged.trans (congrArg _ (if_pos hrel))) rfl
    · simp only [if_neg hrel]
      exact exec_setHolder hr hm (hchanged.trans (congrArg _ (if_neg hrel))) rfl

end Sys2Proof.Fitting

/-! PROOFS. Crown replies (02 R23 to R31, 03 R46, R50, R54, R55, 10 R189): what a reading makes of a holder's record, which valves it
finds at their intents, and what recovery, a move, a fault or a limit makes of the holder then (O52). -/

namespace Sys2Proof.CrownReplies

open Sys2Proof.Machine Sys2Proof.Safety Sys2Proof.HolderWork

/-! ### The reading -/

theorem provedFrom_eq (isOpen isClosed : Bool) : provedFrom isOpen isClosed = provedBy isOpen isClosed := by
  cases isOpen <;> cases isClosed <;> rfl

/-- The record of a holder as a reading leaves it, with the height and the jump candidate of `x` (02 R23, R24, R29). -/
def readAs (c : CrownReading) (barometer : Nat) (x : Holder) : Holder :=
  ({ x with
    temp := c.temp, answering := true
    provedInlet := provedBy c.inletOpen c.inletClosed, provedOutlet := provedBy c.outletOpen c.outletClosed }).recompute barometer

/-- The first reading after a reset is taken as it comes (02 R25, R27). -/
theorem takeReading_of_recovering (c : CrownReading) (barometer : Nat) {r : Holder} (hs : r.state = .recovering) :
    takeReading c barometer r = readAs c barometer
      { r with height := if c.landing then 0 else min c.height (totalStroke r.lifts), jump := none } := by
  cases hl : c.landing <;>
    simp [takeReading, takeProved, takeHeight, readAs, hs, hl, provedFrom_eq, Quantities.clampTo_zero, Holder.recompute]

/-- What a height taken changes of a holder: the height in use, the jump candidate and its latch (02 R25, R26). -/
theorem changes_of_takesHeight {r x : Holder} {c : CrownReading} (h : TakesHeight r c x) :
    ∃ height jump latch, x = { r with height := height, jump := jump, latches := { r.latches with crownJump := latch } } := by
  obtain ⟨reading, -, ⟨-, rfl⟩ | ⟨-, -, rfl⟩ | ⟨-, -, -, rfl⟩ | ⟨j, -, -, -, ⟨-, rfl⟩ | ⟨-, -, rfl⟩ | ⟨-, -, rfl⟩⟩⟩ := h <;>
    exact ⟨_, _, _, rfl⟩

/-- A later reading is judged by the height in use and the jump candidate (02 R25 to R27). -/
theorem takeReading_of_takesHeight {c : CrownReading} {barometer : Nat} {r x : Holder} (hs : r.state ≠ .recovering)
    (hx : TakesHeight r c x) : takeReading c barometer r = readAs c barometer
      { x with latches := { x.latches with crownReturned := x.latches.crownReturned || !r.answering } } := by
  have hclose (step a b : Nat) : closeTo step a b = decide (WithinStep step a b) := by simp [closeTo]
  have hreturned : (!r.answering && decide (r.state ≠ .recovering)) = !r.answering := by simp [hs]
  obtain ⟨reading, hreading, h⟩ := hx
  simp only [takeReading, takeProved, takeHeight, judgeHeight, Quantities.clampTo_zero, ← hreading, hclose, hs, hreturned, provedFrom_eq]
  rcases h with ⟨hl, rfl⟩ | ⟨hl, hw, rfl⟩ | ⟨hl, hw, hj, rfl⟩ | ⟨j, hl, hw, hj, ⟨hj', rfl⟩ | ⟨hj', hc, rfl⟩ | ⟨hj', hc, rfl⟩⟩
  · simp [hl, readAs, Holder.recompute]
  · simp [hl, readAs, Holder.recompute, hw]
  · simp [hl, readAs, Holder.recompute, hw, hj]
  · simp [hl, readAs, Holder.recompute, hw, hj, hj']
  · simp [hl, readAs, Holder.recompute, hw, hj, hj', show ¬ 3 ≤ j.count + 1 by omega]
  · simp [hl, readAs, Holder.recompute, hw, hj, hj', show 3 ≤ j.count + 1 by omega]

/-- What a reply leaves of a holder's record until its valves, its orders and its limits are judged. -/
structure Keeps (before r : Holder) : Prop where
  answering : r.answering = true
  state : r.state = before.state
  inlet : r.inletIntent = before.inletIntent
  outlet : r.outletIntent = before.outletIntent
  changeOver : r.changeOver = before.changeOver
  active : r.active = before.active
  next : r.next = before.next
  waits : r.activationWaits = before.activationWaits
  startStock : r.startStock = before.startStock
  remainder : r.remainder = before.remainder
  travel : r.travel = before.travel

/-- A later reading keeps the state, the intents, the change-over and the orders (02 R23). -/
theorem keeps_readAs {c : CrownReading} {barometer : Nat} {before x : Holder} (l : HolderLatches)
    (hx : TakesHeight before c x) : Keeps before (readAs c barometer { x with latches := l }) := by
  obtain ⟨height, jump, latch, rfl⟩ := changes_of_takesHeight hx
  constructor <;> rfl

/-- A reply that finds the answering flag set latches no return (02 R23). -/
theorem readAs_of_answering {c : CrownReading} {barometer : Nat} {before x : Holder} (hx : TakesHeight before c x)
    (ha : before.answering = true) :
    readAs c barometer { x with latches := { x.latches with crownReturned := x.latches.crownReturned || !before.answering } }
      = ({ x with
          temp := c.temp, provedInlet := provedBy c.inletOpen c.inletClosed
          provedOutlet := provedBy c.outletOpen c.outletClosed }).recompute barometer := by
  obtain ⟨height, jump, latch, rfl⟩ := changes_of_takesHeight hx
  simp [readAs, ha]

/-! ### Valves -/

theorem proof_eq (v : Valve) : v.proof = if v = .opened then .opened else .closed := by
  cases v <;> rfl

theorem atIntent_inlet (r : Holder) : r.atIntent .inlet = true ↔ InletAt r := by
  simp only [Holder.atIntent, proof_eq, decide_eq_true_iff]
  rfl

theorem atIntent_outlet (r : Holder) : r.atIntent .outlet = true ↔ OutletAt r := by
  simp only [Holder.atIntent, proof_eq, decide_eq_true_iff]
  rfl

/-- The other valve of a holder. -/
def other : Which → Which
  | .inlet => .outlet
  | .outlet => .inlet

/-- A valve that no move drives is judged by its intent alone: one at its intent is not in CONFLICT (02 R29, R30). -/
theorem judged_of_undriven (r : Holder) (w : Which) : (decide (r.proved w = .conflict) || !r.atIntent w) = !r.atIntent w := by
  cases ha : r.atIntent w with
  | false => simp
  | true =>
    have hp : r.proved w = (r.intent w).proof := by simpa [Holder.atIntent] using ha
    cases hi : r.intent w <;> simp [hp, hi, Valve.proof]

/-- Whether the valves of a holder are judged in its state (02 R30). -/
def judgedState (r : Holder) : Bool := decide (r.state ≠ .recovering) && decide (r.state ≠ .faulted)

/-- With no move driving a valve, one away from its intent is a fault (02 R30). -/
theorem uncommanded_of_still {r : Holder} (hd : r.driven = none) :
    uncommanded r = (judgedState r && !(r.atIntent .inlet && r.atIntent .outlet)) := by
  simp [uncommanded, judgedState, hd, judged_of_undriven]

/-- While a move drives a valve, CONFLICT of it is a fault, and so is the other valve away from its intent (02 R30). -/
theorem uncommanded_of_driven {r : Holder} {w : Which} {v : Valve} (hd : r.driven = some (w, v)) :
    uncommanded r = (judgedState r && (decide (r.proved w = .conflict) || !r.atIntent (other w))) := by
  cases w with
  | inlet => simp [uncommanded, judgedState, hd, judged_of_undriven, other]
  | outlet =>
    rw [Bool.or_comm (decide _)]
    simp [uncommanded, judgedState, hd, judged_of_undriven, other]

/-! ### What a reply does -/

theorem exec_crownReply {s : State} (h : HolderId) (c : CrownReading) (hr : s.running = true) :
    exec (.crownReply h c) s = .next (crownReply h c (s.taken (.crownReply h c))) :=
  whenRunning_of_running (fun s => crownReply h c (s.taken (.crownReply h c))) hr

/-- What DIC is told of a holder's values after a reply, where the answering flag or the stage pressure has changed (02 R34). -/
def valuesTold (before r : Holder) : List Part :=
  if before.answering = true ∧ r.stagePressure = before.stagePressure then [] else [.values]

/-- The work of a reply in RECOVERING (02 R23, 10 R189). -/
theorem replyWork_of_recovering {s : State} {h : HolderId} {c : CrownReading} {r : Holder}
    (hs : (s.holder h).state = .recovering) (hr : takeReading c s.yard.barometer (s.holder h) = r) :
    replyWork h c s = recover h ⟨s.setHolder h r, valuesTold (s.holder h) r ++ [.values]⟩ := by
  by_cases hv : (s.holder h).answering = true ∧ r.stagePressure = (s.holder h).stagePressure <;>
    simp [replyWork, hs, hr, valuesTold, hv]

/-- The work of a later reply behind the judging of its move and its valves: tracking and limits (02 R23). -/
def limitsWork (h : HolderId) (c : CrownReading) (before : Holder) (d : Draft) : Draft :=
  let d := if uncommanded (d.holder h) then enterFaulted h .uncommanded d else d
  if (d.holder h).state = .faulted then d
  else judgeLimits h c (if before.startStock.isSome ∧ !before.activationWaits then track h d else d)

theorem replyWork_of_later {s : State} {h : HolderId} {c : CrownReading} {r : Holder} (hs : (s.holder h).state ≠ .recovering)
    (hr : takeReading c s.yard.barometer (s.holder h) = r) :
    replyWork h c s
      = limitsWork h c (s.holder h) (judgeMove h ⟨s.setHolder h r, valuesTold (s.holder h) r⟩) := by
  by_cases hv : (s.holder h).answering = true ∧ r.stagePressure = (s.holder h).stagePressure <;>
    simp [replyWork, hs, hr, valuesTold, hv, limitsWork]

/-- A move whose valve is not yet at the intent it set goes on (03 R46). -/
theorem judgeMove_of_unproved {h : HolderId} {s : State} {ps : List Part}
    (hd : ∀ w v, (s.holder h).driven = some (w, v) → (s.holder h).proved w ≠ v.proof) : judgeMove h ⟨s, ps⟩ = ⟨s, ps⟩ := by
  unfold judgeMove
  cases hk : (s.holder h).driven with
  | none => simp [hk]
  | some p => simp [hk, hd p.1 p.2 hk]

/-- The states in which a reply judges no limit (02 R23, 03 R54, R55). -/
theorem judgeLimits_of_unlimited {h : HolderId} {c : CrownReading} {s : State} {ps : List Part}
    (hs : (s.holder h).state ≠ .drawing ∧ (s.holder h).state ≠ .floating ∧ (s.holder h).state ≠ .filling) :
    judgeLimits h c ⟨s, ps⟩ = ⟨s, ps⟩ := by
  obtain ⟨hd, hf, hi⟩ := hs
  unfold judgeLimits
  cases hk : (s.holder h).state <;> simp_all

/-- Valves at their intents, no tracking and no limit: the work is done (02 R23). -/
theorem limitsWork_of_quiet {h : HolderId} {c : CrownReading} {before : Holder} {s : State} {ps : List Part}
    (hu : uncommanded (s.holder h) = false) (ht : before.startStock = none)
    (hs : (s.holder h).state ≠ .drawing ∧ (s.holder h).state ≠ .floating ∧ (s.holder h).state ≠ .filling) :
    limitsWork h c before ⟨s, ps⟩ = ⟨s, ps⟩ := by
  simp [limitsWork, hu, ht, judgeLimits_of_unlimited hs]

/-- A valve found uncommanded makes the holder FAULTED, and nothing more is judged (02 R30, R31). -/
theorem limitsWork_of_uncommanded {h : HolderId} {c : CrownReading} {before : Holder} {s : State} {ps : List Part}
    (hu : uncommanded (s.holder h) = true) :
    limitsWork h c before ⟨s, ps⟩
      = ⟨(s.setHolder h (faultedWith .uncommanded (s.holder h))).setDrive h none, ps ++ [.remove]⟩ := by
  simp [limitsWork, hu, enterFaulted_eq, faultedWith]

/-! ### The one notice of a reply -/

/-- The values ride with whatever else a reply's notice carries (02 R34). -/
theorem replyNotice_values (n : HolderNotice) (ps : List Part) : replyNotice n (.values :: ps) = replyNotice n ps := by
  simp [replyNotice, joinOf, pendOf]

theorem giveReply_values (s : State) (h : HolderId) (ps : List Part) :
    (⟨s, .values :: ps⟩ : Draft).giveReply h = s.send (replyNotice (plainNotice s h) ps) := by
  simp [Draft.giveReply, replyNotice_values]

/-- A reply that moves nothing tells DIC of changed values alone (02 R34). -/
theorem giveReply_valuesTold (before r : Holder) (s : State) (h : HolderId) :
    (⟨s, valuesTold before r⟩ : Draft).giveReply h
      = if before.answering = true ∧ r.stagePressure = before.stagePressure then s
        else s.send (.holderValuesNotice (plainNotice s h)) := by
  unfold valuesTold
  split
  · rfl
  · exact giveReply_values s h []

/-- The notice of a reply that has one more thing to tell (02 R34; log entry 6). -/
theorem giveReply_told (before r : Holder) (s : State) (h : HolderId) (p : Part) :
    (⟨s, valuesTold before r ++ [p]⟩ : Draft).giveReply h = s.send (replyNotice (plainNotice s h) [p]) := by
  unfold valuesTold
  split
  · rfl
  · exact giveReply_values s h [p]

/-- The notice of a reply in RECOVERING always carries the values (10 R189). -/
theorem giveReply_recovered (before r : Holder) (s : State) (h : HolderId) (ps : List Part) :
    (⟨s, valuesTold before r ++ [.values] ++ ps⟩ : Draft).giveReply h = s.send (replyNotice (plainNotice s h) ps) := by
  unfold valuesTold
  split
  · exact giveReply_values s h ps
  · exact (giveReply_values s h (.values :: ps)).trans (congrArg s.send (replyNotice_values _ ps))

/-! ### Replies that move nothing, and faults -/

theorem crownReply_of_unlinked {s : State} {h : HolderId} (c : CrownReading)
    (hu : (s.holder h).fitted = false ∨ s.crownEntry h = none) : crownReply h c s = s := by
  rcases hu with hu | hu <;> simp [crownReply, hu]

theorem crownReply_of_linked {s : State} {h : HolderId} (c : CrownReading) (hf : (s.holder h).fitted = true)
    (he : (s.crownEntry h).isSome = true) : crownReply h c s = (replyWork h c s).giveReply h := by
  simp [crownReply, hf, he]

section
variable {s : State} {h : HolderId} {c : CrownReading} {r : Holder} (hf : (s.holder h).fitted = true)
  (he : (s.crownEntry h).isSome = true) (hs : (s.holder h).state ≠ .recovering)
  (hr : takeReading c s.yard.barometer (s.holder h) = r)
  (hd : ∀ w v, r.driven = some (w, v) → r.proved w ≠ v.proof)

include hf he hs hr hd

/-- A reply behind which nothing is judged but the valves, all of them in order: DIC is told of changed values (02 R23, R34). -/
theorem crownReply_quiet (ha : r.answering = true) (hu : uncommanded r = false) (ht : (s.holder h).startStock = none)
    (hstate : r.state ≠ .drawing ∧ r.state ≠ .floating ∧ r.state ≠ .filling) :
    crownReply h c s
      = if (s.holder h).answering = true ∧ r.stagePressure = (s.holder h).stagePressure then s.setHolder h r
        else (s.setHolder h r).send (.holderValuesNotice ⟨h, true, r.stagePressure, none, false, false⟩) := by
  rw [crownReply_of_linked c hf he, replyWork_of_later hs hr, judgeMove_of_unproved (by simpa using hd),
    limitsWork_of_quiet (by simpa using hu) ht (by simpa using hstate), giveReply_valuesTold, plainNotice_setHolder, ha]

/-- A reply that finds a valve uncommanded (02 R30, R31). -/
theorem crownReply_uncommanded {y : Holder} (ha : r.answering = true) (hu : uncommanded r = true)
    (hy : faultedWith .uncommanded r = y) : crownReply h c s = ((s.setHolder h y).setDrive h none).send
      (.removeNotice ⟨h, true, r.stagePressure, none, false, false⟩) := by
  subst hy
  rw [crownReply_of_linked c hf he, replyWork_of_later hs hr, judgeMove_of_unproved (by simpa using hd),
    limitsWork_of_uncommanded (by simpa using hu), giveReply_told]
  simp only [State.holder_setHolder_self, State.setHolder_setHolder, plainNotice_setDrive, plainNotice_setHolder]
  rw [show (faultedWith .uncommanded r).answering = true from ha]
  rfl

end

/-! ### Recovery -/

/-- A holder with RECOVERED latched (10 R189). -/
def recovered (r : Holder) : Holder := { r with latches := { r.latches with recovered := true } }

/-- The state that a holder's intents name when it has recovered (10 R189). -/
def settledState (r : Holder) : HolderState :=
  if r.outletIntent = .opened then if r.inletIntent = .opened then .floating else .drawing
  else if r.inletIntent = .opened then .filling
  else if r.isolated = true then .isolated else .standing

/-- Recovery settles the state by the first case that applies (the table of 10 R189). -/
theorem recover_eq (h : HolderId) (s : State) (r : Holder) (ps : List Part) : recover h ⟨s.setHolder h r, ps⟩
    = if r.faulted = true then ⟨s.setHolder h { recovered r with state := .faulted }, ps⟩
      else if ¬ (InletAt r ∧ OutletAt r) then
        ⟨(s.setHolder h (faultedWith .recoveryMismatch (recovered r))).setDrive h none, ps ++ [.remove]⟩
      else if r.outletIntent = .opened ∧ s.feedOf h = none then
        ⟨(s.setHolder h (faultedWith .orphan (recovered r))).setDrive h none, ps ++ [.remove]⟩
      else ⟨s.setHolder h { recovered r with state := settledState r },
        ps ++ if settledState r = .standing then [.standing] else []⟩ := by
  have hmod : (⟨s.setHolder h r, ps⟩ : Draft).mod h (fun r => { r with latches := { r.latches with recovered := true } })
      = ⟨s.setHolder h (recovered r), ps⟩ := by
    rw [mod_eq, State.setHolder_setHolder, State.holder_setHolder_self]
    rfl
  have hat : ((!(recovered r).atIntent .inlet) || !(recovered r).atIntent .outlet) = true ↔ ¬ (InletAt r ∧ OutletAt r) := by
    rw [← Bool.not_and, Bool.not_eq_true', ← Bool.not_eq_true, Bool.and_eq_true, atIntent_inlet, atIntent_outlet]
    rfl
  have hfeed : (s.setHolder h (recovered r)).feedOf h = s.feedOf h := rfl
  simp only [recover, hmod]
  simp only [holder_eq, mod_eq, tell_eq, enterFaulted_eq, State.holder_setHolder_self, State.setHolder_setHolder, hat, hfeed]
  refine if_congr Iff.rfl rfl (if_congr Iff.rfl rfl (if_congr Iff.rfl rfl ?_))
  have hi : (recovered r).inletIntent = r.inletIntent := rfl
  have ho : (recovered r).outletIntent = r.outletIntent := rfl
  have hiso : (recovered r).isolated = r.isolated := rfl
  rw [hi, ho, hiso, settledState]
  cases r.inletIntent <;> cases r.outletIntent <;> cases r.isolated <;> simp

/-- Entering FAULTED with no change-over in flight leaves fault step 0 (02 R31). -/
theorem faultedWith_of_still (reason : FaultReason) {r : Holder} (hc : r.changeOver = none) : faultedWith reason r
    = { r with
        active := none, next := none, activationWaits := false, faultStep := 0, faulted := true, faultReason := some reason
        state := .faulted, latches := { r.latches with fault := true } } := by
  simp [faultedWith, hc]

section
variable {s : State} {h : HolderId} {c : CrownReading} {r : Holder} (hf : (s.holder h).fitted = true)
  (he : (s.crownEntry h).isSome = true) (hs : (s.holder h).state = .recovering)
  (hr : takeReading c s.yard.barometer (s.holder h) = r)

include hf he hs hr

theorem crownReply_of_recovering : crownReply h c s
    = (recover h ⟨s.setHolder h r, valuesTold (s.holder h) r ++ [.values]⟩).giveReply h := by
  rw [crownReply_of_linked c hf he, replyWork_of_recovering hs hr]

/-- A recovery that fails makes the holder FAULTED and has DIC remove it (10 R189). -/
theorem crownReply_recovery_fails {reason : FaultReason}
    (hrec : ∀ ps, recover h ⟨s.setHolder h r, ps⟩
      = ⟨(s.setHolder h (faultedWith reason (recovered r))).setDrive h none, ps ++ [.remove]⟩) :
    crownReply h c s = ((s.setHolder h (faultedWith reason (recovered r))).setDrive h none).send
      (.removeNotice ⟨h, r.answering, r.stagePressure, none, false, false⟩) := by
  rw [crownReply_of_recovering hf he hs hr, hrec, giveReply_recovered, plainNotice_setDrive, plainNotice_setHolder]
  rfl

/-- A recovery that settles tells DIC the values, of a STANDING holder in a standing notice (02 R34, 10 R189). -/
theorem crownReply_recovery_settles {st : HolderState} {ps : List Part}
    (hrec : ∀ qs, recover h ⟨s.setHolder h r, qs⟩ = ⟨s.setHolder h { recovered r with state := st }, qs ++ ps⟩) :
    crownReply h c s = (s.setHolder h { recovered r with state := st }).send
      (replyNotice ⟨h, r.answering, r.stagePressure, none, false, false⟩ ps) := by
  rw [crownReply_of_recovering hf he hs hr, hrec, giveReply_recovered, plainNotice_setHolder]
  rfl

end

/-! ### Feeds -/

/-- A message that changes nothing may be taken out of those a fold goes through. -/
theorem foldl_erase {α β : Type} [DecidableEq α] {f : β → α → β} {m : α} (hm : ∀ b, f b m = b) (ms : List α) :
    ∀ b, (ms.erase m).foldl f b = ms.foldl f b := by
  induction ms with
  | nil => intro b; rfl
  | cons x ms ih =>
    intro b
    by_cases hx : x = m
    · simp [hx, hm]
    · simp [List.erase_cons_tail (show ¬ (x == m) = true by simpa using hx), ih]

/-- A crown reply in transit tells DIC nothing: the feeds are the same once it is taken (log entry 5). -/
theorem feedOf_taken (s : State) (h g : HolderId) (c : CrownReading) : (s.taken (.crownReply g c)).feedOf h = s.feedOf h := by
  have hgiven (d : DistrictId) : (s.taken (.crownReply g c)).given d = s.given d := foldl_erase (fun _ => rfl) _ _
  simp only [State.feedOf, hgiven]

/-- With no notice in transit a holder feeds the one district whose list holds it. -/
theorem feedOf_of_feeds {s : State} {h : HolderId} {d : DistrictId} (ht : s.inTransit = [])
    (hd : ∀ e : DistrictId, h ∈ (s.district e).feeds ↔ e = d) : s.feedOf h = some d := by
  have hgiven (e : DistrictId) : (s.given e).feeds = (s.district e).feeds := by simp [State.given, ht, District.lists]
  have hfind : ∀ d : DistrictId, districtIds.find? (fun e => decide (e = d)) = some d := by decide
  simp only [State.feedOf, hgiven, hd, hfind]

/-- With no notice in transit a holder in no list feeds no district. -/
theorem feedOf_of_no_feeds {s : State} {h : HolderId} (ht : s.inTransit = [])
    (hd : ∀ e : DistrictId, h ∉ (s.district e).feeds) : s.feedOf h = none := by
  have hgiven (e : DistrictId) : (s.given e).feeds = (s.district e).feeds := by simp [State.given, ht, District.lists]
  simp [State.feedOf, hgiven, hd]

/-! ### Moves and limits -/

section
variable {h : HolderId} {s : State} {r : Holder} {ps : List Part}

/-- The ACTIVE place is empty: no order is turned to (03 R43). -/
theorem settle_of_idle (n : Nat) (hs : (s.holder h).active = none) : settle n h ⟨s, ps⟩ = ⟨s, ps⟩ := by
  cases n with
  | zero => rfl
  | succ n => simp [settle, hs]

/-- The last move of a change-over ends, with no order to turn to: the target is reached (03 R37, R46, R49). -/
theorem endMove_of_last {k : ChangeOver} (hk : r.changeOver = some k) (hlast : k.moves.length ≤ k.step + 1)
    (ht : k.target = .filling) (ha : r.active = none) :
    endMove h ⟨s.setHolder h r, ps⟩
      = ⟨(s.setHolder h { r with changeOver := none, state := .filling }).setDrive h none, ps⟩ := by
  have : ¬ k.step + 1 < k.moves.length := by omega
  simp only [endMove, holder_eq, State.holder_setHolder_self, hk, if_neg this, drive_eq, reachTarget, ht, mod_eq,
    setHolder_setDrive, State.setHolder_setHolder, setDrive_holder]
  rw [if_neg (by decide), settle_of_idle _ (by simpa using ha)]
  simp [Target.state]

/-- A change-over that leaves a feed list first tells DIC so (03 R45, R46, R48). -/
theorem build_of_leave {t : Target} {ms : List Move} (hm : s.yard.mode ≠ .hold)
    (hb : buildMoves r.inletIntent r.outletIntent (s.feedOf h) t = .leave :: ms) (haim : aimsAt ms = none) :
    build h t ⟨s.setHolder h r, ps⟩
      = ⟨s.setHolder h { r with state := .changing, changeOver := some ⟨t, .leave :: ms, 0, true, none⟩ }, ps ++ [.leave]⟩ := by
  have hb' : buildMoves r.inletIntent r.outletIntent ((s.setHolder h r).feedOf h) t = .leave :: ms := hb
  have haim' : aimsAt (.leave :: ms) = none := haim
  simp [build, hb', haim', startMove, hm, Move.valve]

/-- A change-over that closes the inlet first drives it (03 R45, R46). -/
theorem build_of_closeInlet {t : Target} {ms : List Move} (hm : s.yard.mode ≠ .hold)
    (hb : buildMoves r.inletIntent r.outletIntent (s.feedOf h) t = .closeInlet :: ms) (haim : aimsAt ms = none) :
    build h t ⟨s.setHolder h r, ps⟩
      = ⟨(s.setHolder h { r with
            state := .changing, inletIntent := .closed
            changeOver := some ⟨t, .closeInlet :: ms, 0, true, some r.travel⟩ }).setDrive h (some .inletClosed), ps⟩ := by
  have hb' : buildMoves r.inletIntent r.outletIntent ((s.setHolder h r).feedOf h) t = .closeInlet :: ms := hb
  have haim' : aimsAt (.closeInlet :: ms) = none := haim
  simp [build, hb', haim', startMove, hm, Move.valve, Holder.setIntent, driveOf]

/-- A limit ends the ACTIVE order SHORT, or leaves an idle holder's mark, and its change-over is built (03 R52, R54, R55). -/
theorem limitEnd_eq (t : Target) (idle : Holder → Holder) : limitEnd h t idle ⟨s.setHolder h r, ps⟩
    = build h t ⟨s.setHolder h (if r.active.isSome then r.latchShort.promote else idle r), ps⟩ := by
  simp [limitEnd]

/-- The low stop ends a holder that gives gas (03 R54). -/
theorem judgeLimits_of_low {c : CrownReading} (hs : r.state = .drawing ∨ r.state = .floating)
    (hl : r.height ≤ r.lowStop ∨ c.landing = true) : judgeLimits h c ⟨s.setHolder h r, ps⟩
      = limitEnd h .standing (fun r => { r with latches := { r.latches with lowStopWithdrawn := true } }) ⟨s.setHolder h r, ps⟩ := by
  rcases hs with hs | hs <;> simp [judgeLimits, hs, hl]

/-- The top stop ends a holder that takes gas alone (03 R55). -/
theorem judgeLimits_of_top {c : CrownReading} (hs : r.state = .filling) (ht : r.topStop ≤ r.height ∨ c.topStop = true) :
    judgeLimits h c ⟨s.setHolder h r, ps⟩ = limitEnd h .standing id ⟨s.setHolder h r, ps⟩ := by
  simp [judgeLimits, hs, ht]

/-- The top stop makes a FLOATING holder give gas alone (03 R55). -/
theorem judgeLimits_of_top_floating {c : CrownReading} {d : DistrictId} (hs : r.state = .floating)
    (hl : ¬ (r.height ≤ r.lowStop ∨ c.landing = true)) (ht : r.topStop ≤ r.height ∨ c.topStop = true)
    (hd : s.feedOf h = some d) :
    judgeLimits h c ⟨s.setHolder h r, ps⟩ = limitEnd h (.drawing d) id ⟨s.setHolder h r, ps⟩ := by
  have hd' : (s.setHolder h r).feedOf h = some d := hd
  simp [judgeLimits, hs, hl, ht, hd']

/-- A reply before its limits are judged: a quantity order short of its quantity has its remainder tracked, and at the limit the orders
end as `LimitEnded` says (03 R50, R52). -/
theorem track_of_limitEnded {before y : Holder} {idle : Holder → Holder} (hk : Keeps before r)
    (hl : LimitEnded before r (idle r) y) : ∃ left,
      (if before.startStock.isSome ∧ !before.activationWaits then track h ⟨s.setHolder h r, ps⟩ else ⟨s.setHolder h r, ps⟩)
        = ⟨s.setHolder h { r with remainder := left }, ps⟩
      ∧ (if r.active.isSome then Holder.promote (Holder.latchShort { r with remainder := left })
          else idle { r with remainder := left }) = y := by
  rcases hl with ⟨ha, hstart, rfl⟩ | ⟨o, ha, hq, hstart, rfl⟩ | ⟨o, q, start, left, ha, hq, hstart, hw, hleft, hne, rfl⟩
  · exact ⟨r.remainder, by simp [hstart], if_neg (by simp [hk.active, ha])⟩
  · refine ⟨r.remainder, by simp [hstart], ?_⟩
    have hr := hk.remainder
    cases hn : before.next <;>
      simp [hk.active, ha, Holder.promote, Holder.latchShort, Holder.becomeActive, hk.next, hn, hr]
  · refine ⟨some left, ?_, ?_⟩
    · simp [hstart, hw, track, hk.active, ha, hk.startStock, hq, progress, ← hleft, hne]
    · cases hn : before.next <;>
        simp [hk.active, ha, Holder.promote, Holder.latchShort, Holder.becomeActive, hk.next, hn]

end

/-- With no change-over no move drives a valve (02 R30). -/
theorem driven_of_no_change {r : Holder} (hc : r.changeOver = none) : r.driven = none := by
  simp [Holder.driven, hc]

/-- Valves at their intents with no move driving one are in order (02 R30). -/
theorem uncommanded_of_at {r : Holder} (hc : r.changeOver = none) (hi : InletAt r) (ho : OutletAt r) : uncommanded r = false := by
  rw [uncommanded_of_still (driven_of_no_change hc), (atIntent_inlet r).2 hi, (atIntent_outlet r).2 ho]
  simp

/-- A reply at a limit: the orders end, and the limit's change-over is built (03 R50, R52, R54, R55). -/
theorem crownReply_limited {s : State} {h : HolderId} {c : CrownReading} {r y : Holder} {t : Target} {idle : Holder → Holder}
    (hf : (s.holder h).fitted = true) (he : (s.crownEntry h).isSome = true) (hs : (s.holder h).state ≠ .recovering)
    (hr : takeReading c s.yard.barometer (s.holder h) = r) (hk : Keeps (s.holder h) r)
    (hc : (s.holder h).changeOver = none) (hi : InletAt r) (ho : OutletAt r) (hfault : (s.holder h).state ≠ .faulted)
    (hl : LimitEnded (s.holder h) r (idle r) y)
    (hj : ∀ left ps, judgeLimits h c ⟨s.setHolder h { r with remainder := left }, ps⟩
      = limitEnd h t idle ⟨s.setHolder h { r with remainder := left }, ps⟩) :
    crownReply h c s = (build h t ⟨s.setHolder h y, valuesTold (s.holder h) r⟩).giveReply h := by
  have hc' : r.changeOver = none := hk.changeOver.trans hc
  obtain ⟨left, htrack, rfl⟩ := track_of_limitEnded (h := h) (s := s) (ps := valuesTold (s.holder h) r) hk hl
  have hfault' : r.state ≠ .faulted := by rwa [hk.state]
  rw [crownReply_of_linked c hf he, replyWork_of_later hs hr,
    judgeMove_of_unproved (by simp [driven_of_no_change hc'])]
  simp only [limitsWork, holder_eq, State.holder_setHolder_self, uncommanded_of_at hc' hi ho, Bool.false_eq_true, if_false,
    if_neg hfault', htrack, hj, limitEnd_eq]

/-- What a limit's end leaves of a holder: the values DIC is told of and its valves. -/
structure Shown (r y : Holder) : Prop where
  answering : y.answering = r.answering
  pressure : y.stagePressure = r.stagePressure
  inlet : y.inletIntent = r.inletIntent
  outlet : y.outletIntent = r.outletIntent
  travel : y.travel = r.travel

theorem shown_of_limitEnded {before r idle y : Holder} (hl : LimitEnded before r idle y) (hi : Shown r idle) : Shown r y := by
  rcases hl with ⟨-, -, rfl⟩ | ⟨o, -, -, -, rfl⟩ | ⟨o, q, start, left, -, -, -, -, -, -, rfl⟩
  · exact hi
  · constructor <;> rfl
  · constructor <;> rfl

/-- A message that does not stand in transit is taken without a trace. -/
theorem taken_of_empty {s : State} (m : Instr) (ht : s.inTransit = []) : s.taken m = s := by
  have : s.inTransit.erase m = s.inTransit := by rw [ht]; rfl
  simp only [State.taken, this]

section
variable {s : State} {h : HolderId} {c : CrownReading} {r : Holder} (hf : (s.holder h).fitted = true)
  (he : (s.crownEntry h).isSome = true) (hs : (s.holder h).state = .recovering)
  (hr : takeReading c s.yard.barometer (s.holder h) = r) (ha : r.answering = true)

include hf he hs hr ha

/-- A holder marked FAULTED before the reset is FAULTED again (10 R189). -/
theorem crownReply_recovers_faulted (hfault : r.faulted = true) :
    crownReply h c s = (s.setHolder h { recovered r with state := .faulted }).send
      (.holderValuesNotice ⟨h, true, r.stagePressure, none, false, false⟩) :=
  ha ▸ crownReply_recovery_settles (ps := []) hf he hs hr fun qs => by rw [recover_eq, if_pos hfault, List.append_nil]

/-- Valves away from their intents (10 R189). -/
theorem crownReply_recovers_mismatch {y : Holder} (hy : faultedWith .recoveryMismatch (recovered r) = y)
    (hfault : r.faulted = false) (hv : ¬ (InletAt r ∧ OutletAt r)) :
    crownReply h c s = ((s.setHolder h y).setDrive h none).send
      (.removeNotice ⟨h, true, r.stagePressure, none, false, false⟩) :=
  hy ▸ ha ▸ crownReply_recovery_fails hf he hs hr fun ps => by
    rw [recover_eq, if_neg (Bool.eq_false_iff.1 hfault), if_pos hv]

/-- An open outlet that feeds no district (10 R189). -/
theorem crownReply_recovers_orphan {y : Holder} (hy : faultedWith .orphan (recovered r) = y) (hfault : r.faulted = false)
    (hi : InletAt r) (ho : OutletAt r) (hopen : r.outletIntent = .opened) (hfeed : s.feedOf h = none) :
    crownReply h c s = ((s.setHolder h y).setDrive h none).send
      (.removeNotice ⟨h, true, r.stagePressure, none, false, false⟩) :=
  hy ▸ ha ▸ crownReply_recovery_fails hf he hs hr fun ps => by
    rw [recover_eq, if_neg (Bool.eq_false_iff.1 hfault), if_neg (not_not_intro ⟨hi, ho⟩), if_pos ⟨hopen, hfeed⟩]

/-- A recovery in which nothing is wrong settles the state that the intents name (10 R189). -/
theorem crownReply_recovers_settled {st : HolderState} (hst : settledState r = st) (hfault : r.faulted = false) (hi : InletAt r)
    (ho : OutletAt r) (hfeed : ¬ (r.outletIntent = .opened ∧ s.feedOf h = none)) :
    crownReply h c s = (s.setHolder h { recovered r with state := st }).send
      (replyNotice ⟨h, true, r.stagePressure, none, false, false⟩ (if st = .standing then [.standing] else [])) := by
  subst hst
  exact ha ▸ crownReply_recovery_settles hf he hs hr fun qs => by
    rw [recover_eq, if_neg (Bool.eq_false_iff.1 hfault), if_neg (not_not_intro ⟨hi, ho⟩), if_neg hfeed]

/-- A holder that settles in another state than STANDING tells DIC its values alone (02 R34, 10 R189). -/
theorem crownReply_recovers_working {st : HolderState} (hst : settledState r = st) (hne : st ≠ .standing)
    (hfault : r.faulted = false) (hi : InletAt r) (ho : OutletAt r)
    (hfeed : ¬ (r.outletIntent = .opened ∧ s.feedOf h = none)) :
    crownReply h c s = (s.setHolder h { recovered r with state := st }).send
      (.holderValuesNotice ⟨h, true, r.stagePressure, none, false, false⟩) := by
  rw [crownReply_recovers_settled hf he hs hr ha hst hfault hi ho hfeed, if_neg hne]
  rfl

end

/-- What a started move on a valve drives, what the reply shows of it, and the valve it leaves alone (03 R46). -/
theorem driven_of_started {r : Holder} {k : ChangeOver} {m : Move} {seen goal : Proved} {rest : Prop}
    (hc : r.changeOver = some k) (hstarted : k.started = true) (hm : k.moves[k.step]? = some m)
    (hvalve : (m = .openInlet ∧ seen = r.provedInlet ∧ goal = .opened ∧ (rest ↔ OutletAt r))
      ∨ (m = .closeInlet ∧ seen = r.provedInlet ∧ goal = .closed ∧ (rest ↔ OutletAt r))
      ∨ (m = .openOutlet ∧ seen = r.provedOutlet ∧ goal = .opened ∧ (rest ↔ InletAt r))
      ∨ (m = .closeOutlet ∧ seen = r.provedOutlet ∧ goal = .closed ∧ (rest ↔ InletAt r))) :
    ∃ w v, r.driven = some (w, v) ∧ seen = r.proved w ∧ goal = v.proof ∧ (rest ↔ r.atIntent (other w) = true) := by
  have hdriven : r.driven = m.valve := by simp [Holder.driven, hc, ChangeOver.current, hstarted, hm]
  rcases hvalve with ⟨rfl, hseen, rfl, hrest⟩ | ⟨rfl, hseen, rfl, hrest⟩ | ⟨rfl, hseen, rfl, hrest⟩ | ⟨rfl, hseen, rfl, hrest⟩
  · exact ⟨.inlet, .opened, hdriven, hseen, rfl, hrest.trans (atIntent_outlet r).symm⟩
  · exact ⟨.inlet, .closed, hdriven, hseen, rfl, hrest.trans (atIntent_outlet r).symm⟩
  · exact ⟨.outlet, .opened, hdriven, hseen, rfl, hrest.trans (atIntent_inlet r).symm⟩
  · exact ⟨.outlet, .closed, hdriven, hseen, rfl, hrest.trans (atIntent_inlet r).symm⟩

/-- Entering FAULTED leaves the step of the change-over in flight, if any, as the fault step (02 R31). -/
theorem faultedWith_of_step (reason : FaultReason) {r : Holder} {n : Nat} (hn : (r.changeOver.map (·.step)).getD 0 = n) :
    faultedWith reason r = { r with
      changeOver := none, active := none, next := none, activationWaits := false, faultStep := n, faulted := true
      faultReason := some reason, state := .faulted, latches := { r.latches with fault := true } } := by
  subst hn
  rfl

section
variable {s : State} {h : HolderId} {c : CrownReading} {r : Holder} (hf : (s.holder h).fitted = true)
  (he : (s.crownEntry h).isSome = true)
  (hread : (s.holder h).state ≠ .recovering → takeReading c s.yard.barometer (s.holder h) = r) (hk : Keeps (s.holder h) r)

include hf he hread hk

/-- A holder at rest whose valves stand at their intents goes on (02 R30). -/
theorem crownReply_rest_at_intents (hs : (s.holder h).state = .standing ∨ (s.holder h).state = .isolated)
    (hc : (s.holder h).changeOver = none) (hstart : (s.holder h).startStock = none) (hi : InletAt r) (ho : OutletAt r) :
    crownReply h c s
      = if (s.holder h).answering = true ∧ r.stagePressure = (s.holder h).stagePressure then s.setHolder h r
        else (s.setHolder h r).send (.holderValuesNotice ⟨h, true, r.stagePressure, none, false, false⟩) := by
  have hc' : r.changeOver = none := hk.changeOver.trans hc
  have hne : (s.holder h).state ≠ .recovering := by rcases hs with hs | hs <;> simp [hs]
  have hlimit : r.state ≠ .drawing ∧ r.state ≠ .floating ∧ r.state ≠ .filling := by rcases hs with hs | hs <;> simp [hk.state, hs]
  exact crownReply_quiet hf he hne (hread hne) (by simp [driven_of_no_change hc']) hk.answering (uncommanded_of_at hc' hi ho) hstart
    hlimit

/-- A holder at rest with a valve away from its intent is FAULTED (02 R30, R31). -/
theorem crownReply_rest_off_intents {y : Holder} (hs : (s.holder h).state = .standing ∨ (s.holder h).state = .isolated)
    (hc : (s.holder h).changeOver = none) (hv : ¬ (InletAt r ∧ OutletAt r)) (hy : faultedWith .uncommanded r = y) :
    crownReply h c s = ((s.setHolder h y).setDrive h none).send (.removeNotice ⟨h, true, r.stagePressure, none, false, false⟩) := by
  have hdriven := driven_of_no_change (hk.changeOver.trans hc)
  have hne : (s.holder h).state ≠ .recovering := by rcases hs with hs | hs <;> simp [hs]
  have hjudged : judgedState r = true := by rcases hs with hs | hs <;> simp [judgedState, hk.state, hs]
  have hu : uncommanded r = true := by
    rw [uncommanded_of_still hdriven, hjudged, Bool.true_and, Bool.not_eq_true', ← Bool.not_eq_true, Bool.and_eq_true,
      atIntent_inlet, atIntent_outlet]
    exact hv
  exact crownReply_uncommanded hf he hne (hread hne) (by simp [hdriven]) hk.answering hu hy

/-- In FAULTED no valve is judged (02 R30). -/
theorem crownReply_in_faulted (hs : (s.holder h).state = .faulted) (hc : (s.holder h).changeOver = none)
    (hstart : (s.holder h).startStock = none) :
    crownReply h c s
      = if (s.holder h).answering = true ∧ r.stagePressure = (s.holder h).stagePressure then s.setHolder h r
        else (s.setHolder h r).send (.holderValuesNotice ⟨h, true, r.stagePressure, none, false, false⟩) := by
  have hdriven := driven_of_no_change (hk.changeOver.trans hc)
  have hne : (s.holder h).state ≠ .recovering := by simp [hs]
  have hu : uncommanded r = false := by simp [uncommanded_of_still hdriven, judgedState, hk.state, hs]
  exact crownReply_quiet hf he hne (hread hne) (by simp [hdriven]) hk.answering hu hstart (by simp [hk.state, hs])

section
variable {w : Which} {v : Valve} (hs : (s.holder h).state = .changing) (hdriven : r.driven = some (w, v))
  (hgoal : r.proved w ≠ v.proof)

include hs hdriven hgoal

/-- A move that is not yet proved goes on while its valve is not in CONFLICT and the other stands at its intent (02 R30, 03 R46). -/
theorem crownReply_move_goes_on (hstart : (s.holder h).startStock = none) (hseen : r.proved w ≠ .conflict)
    (hat : r.atIntent (other w) = true) :
    crownReply h c s
      = if (s.holder h).answering = true ∧ r.stagePressure = (s.holder h).stagePressure then s.setHolder h r
        else (s.setHolder h r).send (.holderValuesNotice ⟨h, true, r.stagePressure, none, false, false⟩) := by
  have hne : (s.holder h).state ≠ .recovering := by simp [hs]
  have hu : uncommanded r = false := by simp [uncommanded_of_driven hdriven, hseen, hat]
  refine crownReply_quiet hf he hne (hread hne) ?_ hk.answering hu hstart (by simp [hk.state, hs])
  simpa [hdriven] using hgoal

/-- A CONFLICT of the valve that moves, or the other valve away from its intent, is a fault (02 R30, R31). -/
theorem crownReply_move_fails {y : Holder} (hfault : r.proved w = .conflict ∨ ¬ r.atIntent (other w) = true)
    (hy : faultedWith .uncommanded r = y) :
    crownReply h c s = ((s.setHolder h y).setDrive h none).send (.removeNotice ⟨h, true, r.stagePressure, none, false, false⟩) := by
  have hne : (s.holder h).state ≠ .recovering := by simp [hs]
  have hu : uncommanded r = true := by
    rw [uncommanded_of_driven hdriven]
    simpa [judgedState, hk.state, hs] using hfault
  refine crownReply_uncommanded hf he hne (hread hne) ?_ hk.answering hu hy
  simpa [hdriven] using hgoal

end

end

/-- A move whose valve is found at the intent it set ends (03 R46). -/
theorem judgeMove_of_proved {h : HolderId} {s : State} {ps : List Part} {w : Which} {v : Valve}
    (hd : (s.holder h).driven = some (w, v)) (hp : (s.holder h).proved w = v.proof) : judgeMove h ⟨s, ps⟩ = endMove h ⟨s, ps⟩ := by
  simp [judgeMove, hd, hp]

/-- A holder that takes gas below its top stop goes on (03 R55). -/
theorem judgeLimits_of_below_top {h : HolderId} {c : CrownReading} {s : State} {ps : List Part}
    (hs : (s.holder h).state = .filling) (hheight : (s.holder h).height < (s.holder h).topStop) (ht : c.topStop = false) :
    judgeLimits h c ⟨s, ps⟩ = ⟨s, ps⟩ := by
  have : ¬ (s.holder h).topStop ≤ (s.holder h).height := by omega
  simp [judgeLimits, hs, this, ht]

/-- The reply that proves the last valve of a change-over to FILLING, with no order to turn to (03 R37, R46). -/
theorem crownReply_fill_reached {s : State} {h : HolderId} {c : CrownReading} {r : Holder} {k : ChangeOver} {w : Which} {v : Valve}
    (hf : (s.holder h).fitted = true) (he : (s.crownEntry h).isSome = true) (hs : (s.holder h).state ≠ .recovering)
    (hr : takeReading c s.yard.barometer (s.holder h) = r) (htold : valuesTold (s.holder h) r = [])
    (hstart : (s.holder h).startStock = none) (hk : r.changeOver = some k) (hlast : k.moves.length ≤ k.step + 1)
    (ht : k.target = .filling) (ha : r.active = none) (hd : r.driven = some (w, v)) (hp : r.proved w = v.proof)
    (hi : InletAt r) (ho : OutletAt r) (hheight : r.height < r.topStop) (htop : c.topStop = false) :
    crownReply h c s = (s.setHolder h { r with changeOver := none, state := .filling }).setDrive h none := by
  have hu : uncommanded { r with changeOver := none, state := .filling } = false := uncommanded_of_at rfl hi ho
  have hbelow (ps : List Part) := judgeLimits_of_below_top (h := h) (c := c) (ps := ps)
    (s := (s.setHolder h { r with changeOver := none, state := .filling }).setDrive h none) (by simp) (by simpa using hheight) htop
  rw [crownReply_of_linked c hf he, replyWork_of_later hs hr, htold,
    judgeMove_of_proved (by simpa using hd) (by simpa using hp), endMove_of_last hk hlast ht ha]
  simp [limitsWork, hu, hstart, hbelow, Draft.giveReply]

section
variable {s : State} {h : HolderId} {c : CrownReading} {r y : Holder} {ms : List Move} (hf : (s.holder h).fitted = true)
  (he : (s.crownEntry h).isSome = true) (hr : takeReading c s.yard.barometer (s.holder h) = r) (hk : Keeps (s.holder h) r)
  (hc : (s.holder h).changeOver = none) (hi : InletAt r) (ho : OutletAt r) (hm : s.yard.mode ≠ .hold)

include hf he hr hk hc hi ho hm

/-- At its low stop a holder that gives gas is withdrawn: it leaves its feed list first (03 R54). -/
theorem crownReply_low_stop (hs : (s.holder h).state = .drawing ∨ (s.holder h).state = .floating)
    (hlow : r.height ≤ r.lowStop ∨ c.landing = true)
    (hl : LimitEnded (s.holder h) r { r with latches := { r.latches with lowStopWithdrawn := true } } y)
    (hb : buildMoves r.inletIntent r.outletIntent (s.feedOf h) .standing = .leave :: ms) (haim : aimsAt ms = none) :
    crownReply h c s = (s.setHolder h { y with
        state := .changing, changeOver := some ⟨.standing, .leave :: ms, 0, true, none⟩ }).send
      (.leaveNotice ⟨h, true, r.stagePressure, none, false, false⟩) := by
  obtain ⟨hanswer, hpressure, hinlet, houtlet, -⟩ := shown_of_limitEnded hl (by constructor <;> rfl)
  have hjudge (left : Option Nat) (ps : List Part) := judgeLimits_of_low (h := h) (s := s) (r := { r with remainder := left }) (ps := ps)
    (hk.state ▸ hs) hlow
  rw [crownReply_limited hf he (by rcases hs with hs | hs <;> simp [hs]) hr hk hc hi ho
      (by rcases hs with hs | hs <;> simp [hs]) hl hjudge,
    build_of_leave hm (by rw [hinlet, houtlet]; exact hb) haim, giveReply_told, plainNotice_setHolder]
  simp only [hanswer, hpressure, hk.answering]
  rfl

/-- At a top stop the inlet closes, and DIC is told of changed values alone (03 R55). -/
theorem crownReply_top_stop {t : Target} (hne : (s.holder h).state = .filling ∨ (s.holder h).state = .floating)
    (hanswering : (s.holder h).answering = true) (hl : LimitEnded (s.holder h) r r y)
    (hjudge : ∀ left ps, judgeLimits h c ⟨s.setHolder h { r with remainder := left }, ps⟩
      = limitEnd h t id ⟨s.setHolder h { r with remainder := left }, ps⟩)
    (hb : buildMoves r.inletIntent r.outletIntent (s.feedOf h) t = .closeInlet :: ms) (haim : aimsAt ms = none) :
    crownReply h c s =
      let u := (s.setHolder h { y with
        state := .changing, inletIntent := .closed
        changeOver := some ⟨t, .closeInlet :: ms, 0, true, some (s.holder h).travel⟩ }).setDrive h (some .inletClosed)
      if r.stagePressure = (s.holder h).stagePressure then u
      else u.send (.holderValuesNotice ⟨h, true, r.stagePressure, none, false, false⟩) := by
  obtain ⟨hanswer, hpressure, hinlet, houtlet, htravel⟩ := shown_of_limitEnded hl (by constructor <;> rfl)
  rw [crownReply_limited hf he (by rcases hne with hs | hs <;> simp [hs]) hr hk hc hi ho
      (by rcases hne with hs | hs <;> simp [hs]) (idle := id) hl hjudge,
    build_of_closeInlet hm (by rw [hinlet, houtlet]; exact hb) haim, giveReply_valuesTold, plainNotice_setDrive, plainNotice_setHolder]
  simp only [hanswer, hpressure, hk.answering, hanswering, true_and, htravel, hk.travel]

end

/-- What a later reply has read, in the record it leaves: its height and the stops, and the proofs of its valves (02 R23, R29). -/
structure Reads (c : CrownReading) (x r : Holder) : Prop where
  height : r.height = x.height
  lowStop : r.lowStop = x.lowStop
  topStop : r.topStop = x.topStop
  inlet : r.provedInlet = provedBy c.inletOpen c.inletClosed
  outlet : r.provedOutlet = provedBy c.outletOpen c.outletClosed

/-- A reply that finds the answering flag set: the reading it takes, what it keeps and what it reads (02 R23). -/
theorem reading_of_answering {c : CrownReading} {barometer : Nat} {before x r : Holder} {inlet outlet : Proved}
    (hs : before.state ≠ .recovering) (hx : TakesHeight before c x) (ha : before.answering = true)
    (hi : provedBy c.inletOpen c.inletClosed = inlet) (ho : provedBy c.outletOpen c.outletClosed = outlet)
    (hr : r = ({ x with temp := c.temp, provedInlet := inlet, provedOutlet := outlet }).recompute barometer) :
    takeReading c barometer before = r ∧ Keeps before r ∧ Reads c x r := by
  subst hi ho
  have hread : readAs c barometer { x with
      latches := { x.latches with crownReturned := x.latches.crownReturned || !before.answering } } = r :=
    (readAs_of_answering hx ha).trans hr.symm
  refine ⟨(takeReading_of_takesHeight hs hx).trans hread, hread ▸ keeps_readAs _ hx, ?_⟩
  rw [hr]
  constructor <;> rfl

/-- A valve that reads as its intent says stands at it (02 R30). -/
theorem inletAt_of_reads {c : CrownReading} {before x r : Holder} (hk : Keeps before r) (hr : Reads c x r)
    (h : provedBy c.inletOpen c.inletClosed = if before.inletIntent = .opened then .opened else .closed) : InletAt r := by
  rw [InletAt, hr.inlet, hk.inlet, h]

theorem outletAt_of_reads {c : CrownReading} {before x r : Holder} (hk : Keeps before r) (hr : Reads c x r)
    (h : provedBy c.outletOpen c.outletClosed = if before.outletIntent = .opened then .opened else .closed) : OutletAt r := by
  rw [OutletAt, hr.outlet, hk.outlet, h]

/-- Settles O52: recovery case by case, the replies that move nothing or find a fault, the end of a move, and the two limits. -/
theorem crownRepliesMoveTheHolder : Obligations.CrownRepliesMoveTheHolder := by
  unfold Obligations.CrownRepliesMoveTheHolder
  intro s h c hrun
  let S := s.taken (.crownReply h c)
  have step {t : State} (ht : crownReply h c S = t) : exec (.crownReply h c) s = .next t :=
    (exec_crownReply h c hrun).trans (congrArg Host.Outcome.next ht)
  refine ⟨fun hu => step (crownReply_of_unlinked c hu), ?_, ?_, ?_, ?_, ?_⟩
  · intro r hf he hc hs hr settled failed
    have hfeedOf : S.feedOf h = s.feedOf h := feedOf_taken s h h c
    obtain ⟨x, hread, hanswer, hchange, rfl⟩ : ∃ x, takeReading c s.yard.barometer (s.holder h) = x ∧ x.answering = true
        ∧ (recovered x).changeOver = none ∧ r = recovered x :=
      ⟨_, takeReading_of_recovering c s.yard.barometer hs, rfl, hc, hr⟩
    refine ⟨fun hfault => step ?_, fun hfault hv => step ?_, fun hfault hi ho => ⟨fun hopen hfeed => step ?_,
      fun (hi' : x.inletIntent = .closed) (ho' : x.outletIntent = .closed) => ⟨fun (hiso : x.isolated = true) => step ?_,
        fun (hiso : x.isolated = false) => step ?_⟩,
      fun (hi' : x.inletIntent = .opened) (ho' : x.outletIntent = .closed) => step ?_,
      fun (hopen : x.outletIntent = .opened) hfeed => step ?_⟩⟩
    · exact crownReply_recovers_faulted (s := S) hf he hs hread hanswer hfault
    · exact crownReply_recovers_mismatch (s := S) hf he hs hread hanswer (faultedWith_of_still _ hchange) hfault hv
    · exact crownReply_recovers_orphan (s := S) hf he hs hread hanswer (faultedWith_of_still _ hchange) hfault hi ho hopen
        (hfeedOf.trans hfeed)
    · have hst : settledState x = .isolated := by simp [settledState, hi', ho', hiso]
      exact crownReply_recovers_working (s := S) hf he hs hread hanswer hst (by decide) hfault hi ho (by simp [ho'])
    · have hst : settledState x = .standing := by simp [settledState, hi', ho', hiso]
      exact crownReply_recovers_settled (s := S) hf he hs hread hanswer hst hfault hi ho (by simp [ho'])
    · have hst : settledState x = .filling := by simp [settledState, hi', ho']
      exact crownReply_recovers_working (s := S) hf he hs hread hanswer hst (by decide) hfault hi ho (by simp [ho'])
    · have hst : settledState x = if x.inletIntent = .opened then .floating else .drawing := if_pos hopen
      exact crownReply_recovers_working (s := S) hf he hs hread hanswer hst (by split <;> decide) hfault hi ho
        fun ⟨_, hnone⟩ => hfeed (hfeedOf.symm.trans hnone)
  · intro x r hf he hx hr taken told failed
    have hread (hs : (s.holder h).state ≠ .recovering) : takeReading c s.yard.barometer (s.holder h) = r :=
      (takeReading_of_takesHeight hs hx).trans hr.symm
    have hk : Keeps (s.holder h) r := by
      rw [hr]
      exact keeps_readAs (barometer := s.yard.barometer)
        { x.latches with crownReturned := x.latches.crownReturned || !(s.holder h).answering } hx
    refine ⟨fun _ hstart hc => ?_, fun _ hstart hs k m seen goal rest hc hstarted hm hvalve hgoal => ?_⟩
    · have hstep : (r.changeOver.map (·.step)).getD 0 = 0 := by rw [hk.changeOver, hc]; rfl
      exact ⟨fun hs => ⟨fun hi ho => step (crownReply_rest_at_intents (s := S) hf he hread hk hs hc hstart hi ho),
          fun hv => step (crownReply_rest_off_intents (s := S) hf he hread hk hs hc hv (faultedWith_of_step _ hstep))⟩,
        fun hs => step (crownReply_in_faulted (s := S) hf he hread hk hs hc hstart)⟩
    · have hc' : r.changeOver = some k := hk.changeOver.trans hc
      obtain ⟨w, v, hdriven, rfl, rfl, hrest⟩ := driven_of_started hc' hstarted hm hvalve
      have hstep : (r.changeOver.map (·.step)).getD 0 = k.step := by rw [hc']; rfl
      exact ⟨fun hseen hat => step (crownReply_move_goes_on (s := S) hf he hread hk hs hdriven hgoal hstart hseen (hrest.1 hat)),
        fun hfault => step (crownReply_move_fails (s := S) hf he hread hk hs hdriven hgoal (by rwa [← hrest])
          (faultedWith_of_step _ hstep))⟩
  · intro tm hf he hs hc hactive hstart hanswer hi ho hheight hstroke htop hlanding hct hio hic hoo hoc r hr hpressure
    have hne : (s.holder h).state ≠ .recovering := by simp [hs]
    have hx : TakesHeight (s.holder h) c { s.holder h with jump := none } :=
      ⟨c.height, (min_eq_left hstroke).symm, .inr (.inl ⟨hlanding, by constructor <;> omega, by rw [hheight]⟩)⟩
    obtain ⟨hread, hk, hreads⟩ := reading_of_answering (inlet := .opened) (outlet := .closed) hne hx hanswer (by rw [hio, hic]; rfl)
      (by rw [hoo, hoc]; rfl) hr
    have hproved : r.provedInlet = .opened := hreads.inlet.trans (by rw [hio, hic]; rfl)
    have hc' := hk.changeOver.trans hc
    refine step (crownReply_fill_reached (s := S) (w := .inlet) (v := .opened) hf he hne hread
      (if_pos ⟨hanswer, hpressure⟩) hstart hc' (by simp) rfl (hk.active.trans hactive)
      (by simp [Holder.driven, hc', ChangeOver.current, Move.valve]) hproved (inletAt_of_reads hk hreads (by simp [hio, hic, hi, provedBy]))
      (outletAt_of_reads hk hreads (by simp [hoo, hoc, ho, provedBy])) ?_ hct)
    rw [hreads.height, hreads.topStop]
    exact hheight ▸ htop
  · intro d x r y moves hf he hc hanswer hm htransit hfeeds hout hoo hoc hkind hx hlow hr hl
    have hfeed := feedOf_of_feeds htransit hfeeds
    have hs : (s.holder h).state = .drawing ∨ (s.holder h).state = .floating := hkind.imp And.left And.left
    obtain ⟨hread, hk, hreads⟩ := reading_of_answering (by rcases hs with hs | hs <;> simp [hs]) hx hanswer
      (by rcases hkind with ⟨-, -, hio, hic, -⟩ | ⟨-, -, hio, hic, -⟩ <;> simp [hio, hic, provedBy]) (by rw [hoo, hoc]; rfl) hr
    have hi : InletAt r := inletAt_of_reads hk hreads (by
      rcases hkind with ⟨-, hin, hio, hic, -⟩ | ⟨-, hin, hio, hic, -⟩ <;> simp [hin, hio, hic, provedBy])
    have ho : OutletAt r := outletAt_of_reads hk hreads (by simp [hoo, hoc, hout, provedBy])
    have hmoves : buildMoves r.inletIntent r.outletIntent (s.feedOf h) .standing = moves := by
      rw [hk.inlet, hk.outlet, hout, hfeed]
      rcases hkind with ⟨-, hin, -, -, rfl⟩ | ⟨-, hin, -, -, rfl⟩ <;> rw [hin] <;> rfl
    obtain ⟨ms, rfl, haim⟩ : ∃ ms, moves = .leave :: ms ∧ aimsAt ms = none := by
      rcases hkind with ⟨-, -, -, -, rfl⟩ | ⟨-, -, -, -, rfl⟩ <;> exact ⟨_, rfl, rfl⟩
    refine step ?_
    rw [show S = s from taken_of_empty _ htransit]
    exact crownReply_low_stop hf he hread hk hc hi ho hm hs (by rwa [hreads.height, hreads.lowStop]) hl hmoves haim
  · intro x r y target hf he hc hanswer hm htransit hin hio hic hkind hx htop hr hl
    have hs : (s.holder h).state = .filling ∨ (s.holder h).state = .floating := hkind.imp And.left fun ⟨_, hs, _⟩ => hs
    obtain ⟨hread, hk, hreads⟩ := reading_of_answering (by rcases hs with hs | hs <;> simp [hs]) hx hanswer (by rw [hio, hic]; rfl)
      (by rcases hkind with ⟨-, -, -, hoo, hoc, -⟩ | ⟨-, -, -, -, hoo, hoc, -⟩ <;> simp [hoo, hoc, provedBy]) hr
    have hi : InletAt r := inletAt_of_reads hk hreads (by simp [hio, hic, hin, provedBy])
    have ho : OutletAt r := outletAt_of_reads hk hreads (by
      rcases hkind with ⟨-, -, hout, hoo, hoc, -⟩ | ⟨-, -, -, hout, hoo, hoc, -⟩ <;> simp [hout, hoo, hoc, provedBy])
    have htop' : r.topStop ≤ r.height ∨ c.topStop = true := by rwa [hreads.height, hreads.topStop]
    have hmoves : buildMoves r.inletIntent r.outletIntent (s.feedOf h) target = [.closeInlet] := by
      rw [hk.inlet, hk.outlet, hin]
      rcases hkind with ⟨-, hfeeds, hout, -, -, rfl⟩ | ⟨d, -, hfeeds, hout, -, -, -, -, rfl⟩
      · rw [feedOf_of_no_feeds htransit hfeeds, hout]
        rfl
      · rw [feedOf_of_feeds htransit hfeeds, hout]
        simp [buildMoves, moveIf, Target.district, Target.inletOpen, Target.outletOpen]
    have hjudge (left : Option Nat) (ps : List Part) : judgeLimits h c ⟨s.setHolder h { r with remainder := left }, ps⟩
        = limitEnd h target id ⟨s.setHolder h { r with remainder := left }, ps⟩ := by
      rcases hkind with ⟨hs, -, -, -, -, rfl⟩ | ⟨d, hs, hfeeds, -, -, -, hlanding, hlow, rfl⟩
      · exact judgeLimits_of_top (r := { r with remainder := left }) (hk.state.trans hs) htop'
      · refine judgeLimits_of_top_floating (r := { r with remainder := left }) (hk.state.trans hs) ?_ htop'
          (feedOf_of_feeds htransit hfeeds)
        rintro (hlow' | hlow')
        · exact absurd (hreads.height ▸ hreads.lowStop ▸ hlow' : x.height ≤ x.lowStop) (by omega)
        · simp [hlanding] at hlow'
    refine step ?_
    rw [show S = s from taken_of_empty _ htransit]
    exact crownReply_top_stop hf he hread hk hc hi ho hm hs hanswer hl hjudge hmoves rfl

end Sys2Proof.CrownReplies

/-! PROOFS. What leaves every holder's record as it stands: the work of the line, the store, booking, the directory, the accounts, the
districts and the yard (03 R40, for O8). Each function of these blocks has its lemma, in the order of the model. -/

namespace Sys2Proof.HoldersKept

open Sys2Proof.Machine Sys2Proof.Safety

/-! ### The line -/

@[simp] theorem holders_setCommand (s : State) (kind : EntryKind) (link : Link) (c : Option Command) :
    (s.setCommand kind link c).holders = s.holders := rfl

@[simp] theorem holders_setDrive (s : State) (h : HolderId) (v : Option Drive) : (s.setDrive h v).holders = s.holders := rfl

@[simp] theorem holders_setLoadingCommand (s : State) (d : DistrictId) (l : Option Nat) :
    (s.setLoadingCommand d l).holders = s.holders := rfl

@[simp] theorem holders_nextTurn (gaveUp : Bool) (s : State) : (nextTurn gaveUp s).holders = s.holders := by
  obtain ⟨_, _, _, _, _, h⟩ := nextTurn_eq gaveUp s
  rw [h]

@[simp] theorem holders_judgeDead (s : State) : (judgeDead s).holders = s.holders := by
  obtain ⟨_, _, _, h⟩ := judgeDead_eq s
  rw [h]

@[simp] theorem holders_leaveLate (late : Bool) (s : State) : (leaveLate late s).holders = s.holders := rfl

@[simp] theorem holders_startAttempt (gaveUp : Bool) (e : PollEntry) (single : Bool) (s : State) :
    (startAttempt gaveUp e single s).holders = s.holders := rfl

@[simp] theorem holders_goSilent (e : PollEntry) (misses : Nat) (s : State) : (goSilent e misses s).holders = s.holders := by
  unfold goSilent
  cases silentMessage e <;> simp

@[simp] theorem holders_missAttempt (s : State) : (missAttempt s).holders = s.holders := by
  unfold missAttempt
  split <;> [rfl; split] <;> simp [apply_ite State.holders]

@[simp] theorem holders_goodReply (e : PollEntry) (r : Reading) (s : State) : (goodReply e r s).holders = s.holders := by
  unfold goodReply
  cases replyMessage e r <;> simp

@[simp] theorem holders_judgeGood (body : List Byte) (s : State) : (judgeGood body s).holders = s.holders := by
  unfold judgeGood
  dsimp only
  repeat' split
  all_goals simp

@[simp] theorem holders_judgeFrame (f : FrameEnd) (s : State) : (judgeFrame f s).holders = s.holders := by
  cases f <;> simp [judgeFrame, apply_ite State.holders]

@[simp] theorem holders_lineByte (s : State) (b : Byte) : (lineByte s b).holders = s.holders := by
  unfold lineByte
  dsimp only
  repeat' split
  all_goals simp

@[simp] theorem holders_waitExpires (s : State) : (waitExpires s).holders = s.holders := by
  simp [waitExpires, apply_ite State.holders]

@[simp] theorem holders_lineReset (s : State) : (lineReset s).holders = s.holders := by
  simp [lineReset]

@[simp] theorem holders_afterListChange (left : Option Nat) (s : State) : (afterListChange left s).holders = s.holders := by
  unfold afterListChange
  dsimp only
  repeat' split
  all_goals simp

@[simp] theorem holders_applyOutstation (address : Nat) (action : OutstationAction) (kind : EntryKind) (retry : Nat) (s : State) :
    (applyOutstation address action kind retry s).holders = s.holders := by
  unfold applyOutstation
  repeat' split
  all_goals simp

/-! ### The store -/

@[simp] theorem holders_takeDamage (own : Bool) (period n : Nat) (s : State) : (takeDamage own period n s).holders = s.holders := by
  simp [takeDamage, apply_ite State.holders]

@[simp] theorem holders_judge (own : Bool) (period n : Nat) (s : State) : (judge own period n s).2.holders = s.holders := by
  unfold judge
  repeat' split
  all_goals simp

/-- A judged read in parts: what it finds, and a state with the same holders. -/
theorem judge_keeps (own : Bool) (period n : Nat) (s : State) :
    ∃ found t, judge own period n s = (found, t) ∧ t.holders = s.holders := ⟨_, _, rfl, holders_judge own period n s⟩

@[simp] theorem holders_arbitrate (s : State) : (arbitrate s).holders = s.holders := by
  simp [arbitrate, grant, apply_ite State.holders]

@[simp] theorem holders_request (q : Requester) (s : State) : (request q s).holders = s.holders := by
  simp [request]

@[simp] theorem holders_release (s : State) : (release s).holders = s.holders := by
  simp [release]

@[simp] theorem holders_scrubTimerExpires (s : State) : (scrubTimerExpires s).holders = s.holders := by
  unfold scrubTimerExpires
  dsimp only
  repeat' split
  all_goals simp

@[simp] theorem holders_scrubEffect (g : Grant) (s : State) : (scrubEffect g s).holders = s.holders := by
  simp [scrubEffect]

@[simp] theorem holders_setScrubInterval (v : Nat) (s : State) : (setScrubInterval v s).holders = s.holders := by
  simp [setScrubInterval, apply_ite State.holders]

@[simp] theorem holders_setBookingShare (v : Nat) (s : State) : (setBookingShare v s).holders = s.holders := rfl

/-! ### Booking -/

@[simp] theorem holders_modChannel (s : State) (address : Nat) (ch : Fin 4) (f : Channel → Channel) :
    (s.modChannel address ch f).holders = s.holders := rfl

@[simp] theorem holders_conclude (h : InHand) (r : Option Resolution) (s : State) : (conclude h r s).holders = s.holders := by
  simp [conclude, setPhase]

@[simp] theorem holders_awaitLevel (h : InHand) (w : Walk) (level : WalkLevel) (s : State) :
    (awaitLevel h w level s).holders = s.holders := by
  simp [awaitLevel, setPhase]

@[simp] theorem holders_useRoot (d : DistrictId) (s : State) : (useRoot d s).holders = s.holders := rfl

@[simp] theorem holders_resolve (h : InHand) (s : State) : (resolve h s).holders = s.holders := by
  unfold resolve
  dsimp only
  repeat' split
  all_goals simp

@[simp] theorem holders_walkEnds (h : InHand) (w : Walk) (r : Resolution) (s : State) : (walkEnds h w r s).holders = s.holders := by
  unfold walkEnds
  cases r <;> simp [apply_ite State.holders]

@[simp] theorem holders_followIndirect (h : InHand) (w : Walk) (own : LeafRef) (target : Nat) (s : State) :
    (followIndirect h w own target s).holders = s.holders := by
  unfold followIndirect
  dsimp only
  split <;> simp

@[simp] theorem holders_passLeaf (h : InHand) (w : Walk) (t : Nat) (leaf : Leaf) (s : State) :
    (passLeaf h w t leaf s).holders = s.holders := by
  unfold passLeaf
  dsimp only
  split <;> simp

@[simp] theorem holders_flagAccess (own : Bool) (period slot : Nat) (f : Rst → Rst) (s : State) :
    (flagAccess own period slot f s).2.holders = s.holders := by
  obtain ⟨found, t, hj, ht⟩ := judge_keeps own period slot s
  cases found <;> simp [flagAccess, hj, ht]

@[simp] theorem holders_walkAccess (g : Grant) (w : Walk) (s : State) : (walkAccess g w s).2.holders = s.holders := by
  unfold walkAccess
  split <;> simp

@[simp] theorem holders_walkGoesOn (h : InHand) (w : Walk) (found : Found) (s : State) :
    (walkGoesOn h w found s).holders = s.holders := by
  unfold walkGoesOn
  dsimp only
  repeat' split
  all_goals simp

@[simp] theorem holders_walkAccessEnds (g : Grant) (h : InHand) (w : Walk) (s : State) :
    (walkAccessEnds g h w s).holders = s.holders := by
  simp [walkAccessEnds]

@[simp] theorem holders_takeHeads (qs : List QueueEntry) (s : State) : (takeHeads qs s).holders = s.holders := by
  induction qs generalizing s with
  | nil => rfl
  | cons q qs ih =>
    unfold takeHeads
    split
    · exact ih s
    · simp [apply_ite State.holders]

@[simp] theorem holders_endCycle (s : State) : (endCycle s).holders = s.holders := by
  simp [endCycle]

@[simp] theorem holders_toSuspense (g : Grant) (q : Quantity) (reason : Divert) (s : State) :
    (toSuspense g q reason s).2.holders = s.holders := by
  obtain ⟨found, t, hj, ht⟩ := judge_keeps false g.period 0 s
  cases found with
  | contents =>
    simp only [toSuspense, hj]
    split <;> simp [ht]
  | damaged => simp [toSuspense, hj, ht]
  | uncorrectable => simp [toSuspense, hj, ht]

@[simp] theorem holders_toAccount (g : Grant) (q : Quantity) (slot : Nat) (s : State) :
    (toAccount g q slot s).2.holders = s.holders := by
  obtain ⟨found, t, hj, ht⟩ := judge_keeps false g.period slot s
  cases found with
  | contents =>
    simp only [toAccount, hj]
    repeat' split
    all_goals simp [ht]
  | damaged => simp [toAccount, hj, ht]
  | uncorrectable => simp [toAccount, hj, ht]

@[simp] theorem holders_commitTo (g : Grant) (q : Quantity) (r : Option Resolution) (s : State) :
    (commitTo g q r s).2.holders = s.holders := by
  unfold commitTo
  repeat' split
  all_goals simp

@[simp] theorem holders_settleChannel (h : InHand) (c : Committed) (s : State) : (settleChannel h c s).holders = s.holders := by
  cases c <;> simp [settleChannel, apply_ite State.holders]

@[simp] theorem holders_commitEffect (g : Grant) (h : InHand) (r : Option Resolution) (s : State) :
    (commitEffect g h r s).2.holders = s.holders := by
  simp [commitEffect]

@[simp] theorem holders_commitEnds (g : Grant) (h : InHand) (r : Option Resolution) (s : State) :
    (commitEnds g h r s).holders = s.holders := by
  unfold commitEnds
  dsimp only
  repeat' split
  all_goals simp [setPhase]

@[simp] theorem holders_markBooked (g : Grant) (own : LeafRef) (s : State) : (markBooked g own s).holders = s.holders := by
  simp [markBooked]

@[simp] theorem holders_takeCount (address : Nat) (r : MeterReading) (s : State) (ch : Fin 4) :
    (takeCount address r s ch).holders = s.holders := by
  unfold takeCount
  dsimp only
  repeat' split
  all_goals simp

/-- What each of a list's pieces of work keeps, all of them keep. -/
theorem holders_foldl {α : Type} {f : State → α → State} (hf : ∀ s a, (f s a).holders = s.holders) (l : List α) (s : State) :
    (l.foldl f s).holders = s.holders := by
  induction l generalizing s with
  | nil => rfl
  | cons a l ih => exact (ih (f s a)).trans (hf s a)

@[simp] theorem holders_meterReply (address : Nat) (r : MeterReading) (s : State) : (meterReply address r s).holders = s.holders := by
  unfold meterReply
  repeat' split
  all_goals simp [holders_foldl]

@[simp] theorem holders_dropInHand (s : State) : (dropInHand s).holders = s.holders := by
  simp [dropInHand, withdrawBke]

@[simp] theorem holders_discardInHand (h : InHand) (s : State) : (discardInHand h s).holders = s.holders := by
  unfold discardInHand
  repeat' split
  all_goals simp

@[simp] theorem holders_removeWhere (address : Nat) (p : Fin 4 → Bool) (s : State) : (removeWhere address p s).holders = s.holders := by
  unfold removeWhere
  dsimp only
  rw [holders_foldl fun s ch => by split <;> rfl]
  repeat' split
  all_goals simp

@[simp] theorem holders_setChannel (address channel : Nat) (enabled : Bool) (point constant limit : Nat) (s : State) :
    (Machine.setChannel address channel enabled point constant limit s).2.holders = s.holders := by
  unfold Machine.setChannel
  dsimp only
  repeat' split
  all_goals simp [removeChannel]

@[simp] theorem holders_completeBke (g : Grant) (s : State) : (completeBke g s).holders = s.holders := by
  unfold completeBke
  repeat' split
  all_goals simp

/-! ### The directory -/

@[simp] theorem holders_completeChange (s : State) : (completeChange s).holders = s.holders := rfl

theorem holders_actAtOnce {a : DirAction} {s t : State} (h : actAtOnce a s = some t) : t.holders = s.holders := by
  cases a <;> simp only [actAtOnce, Option.some.injEq, reduceCtorEq] at h <;> subst h <;> rfl

@[simp] theorem holders_runPlan (plan : List DirAction) (s : State) : (runPlan plan s).2.holders = s.holders := by
  induction plan generalizing s with
  | nil => rfl
  | cons a plan ih =>
    unfold runPlan
    split
    · rename_i t ht
      exact (ih t).trans (holders_actAtOnce ht)
    · rfl

@[simp] theorem holders_refuse (r : Result) (s : State) : (refuse r s).2.holders = s.holders := rfl

@[simp] theorem holders_await (w : HeadWork) (s : State) : (await w s).2.holders = s.holders := rfl

@[simp] theorem holders_stopAtDamage (s : State) : (stopAtDamage s).2.holders = s.holders := rfl

@[simp] theorem holders_writeAccess (g : Grant) (slot : Nat) (f : Rst → Rst) (s : State) :
    (writeAccess g slot f s).2.holders = s.holders := by
  obtain ⟨found, t, hj, ht⟩ := judge_keeps false g.period slot s
  cases found <;> simp [writeAccess, hj, ht]

@[simp] theorem holders_actAccess (g : Grant) (p : Nat) (a : DirAction) (s : State) : (actAccess g p a s).2.holders = s.holders := by
  cases a <;> simp [actAccess]

@[simp] theorem holders_actFrees (plan : List DirAction) (s : State) : (actFrees plan s).holders = s.holders := by
  unfold actFrees
  refine holders_foldl (fun s a => ?_) _ s
  cases ha : actAtOnce a s with
  | none => rfl
  | some t => exact holders_actAtOnce ha

/-- An access of a plan in parts: the actions that follow, and a state with the same holders. -/
theorem actAccess_keeps (g : Grant) (p : Nat) (a : DirAction) (s : State) :
    ∃ more t, actAccess g p a s = (more, t) ∧ t.holders = s.holders := ⟨_, _, rfl, holders_actAccess g p a s⟩

@[simp] theorem holders_abandonedAction (g : Grant) (p : Nat) (plan : List DirAction) (s : State) :
    (abandonedAction g p plan s).holders = s.holders := by
  cases plan with
  | nil => rfl
  | cons a rest =>
    obtain ⟨more, t, ha, ht⟩ := actAccess_keeps g p a s
    simp only [abandonedAction, ha]
    split <;> simp_all

@[simp] theorem holders_planAccess (g : Grant) (p : Nat) (plan : List DirAction) (s : State) :
    (planAccess g p plan s).2.holders = s.holders := by
  cases plan with
  | nil => rfl
  | cons a rest =>
    obtain ⟨more, t, ha, ht⟩ := actAccess_keeps g p a s
    cases more <;> simp [planAccess, ha, ht]

@[simp] theorem holders_planWholePath (p : Nat) (leaf : Leaf) (s : State) : (planWholePath p leaf s).2.holders = s.holders := by
  unfold planWholePath
  dsimp only
  split <;> simp

@[simp] theorem holders_planPointTable (p : Nat) (leaf : Leaf) (main : Nat) (barred : Bool) (s : State) :
    (planPointTable p leaf main barred s).2.holders = s.holders := by
  unfold planPointTable
  split <;> simp

@[simp] theorem holders_planDamagedMain (p : Nat) (leaf : Leaf) (main : Nat) (s : State) :
    (planDamagedMain p leaf main s).2.holders = s.holders := by
  unfold planDamagedMain
  split <;> simp

theorem holders_enterPath (p : Nat) {noTable : State → Progress × State} (s : State) (hn : (noTable s).2.holders = s.holders) :
    (enterPath p noTable s).2.holders = s.holders := by
  unfold enterPath
  split <;> simp [hn]

@[simp] theorem holders_enterBinding (q : Request) (s : State) : (enterBinding q s).2.holders = s.holders :=
  holders_enterPath _ s (holders_planWholePath _ _ s)

@[simp] theorem holders_startMap (p slot : Nat) (s : State) : (startMap p slot s).2.holders = s.holders := by
  unfold startMap
  repeat' split
  all_goals rfl

@[simp] theorem holders_startLink (p target : Nat) (s : State) : (startLink p target s).2.holders = s.holders := by
  unfold startLink
  repeat' split
  all_goals rfl

@[simp] theorem holders_startUnmap (p : Nat) (s : State) : (startUnmap p s).2.holders = s.holders := by
  unfold startUnmap
  split
  · rfl
  · exact holders_enterPath p s rfl

@[simp] theorem holders_startBar (barred : Bool) (level : BarLevel) (p : Nat) (s : State) :
    (startBar barred level p s).2.holders = s.holders := by
  unfold startBar
  split
  · rfl
  · cases level with
    | root => exact holders_runPlan _ s
    | main => exact holders_enterPath p s rfl
    | point => exact holders_enterPath p s rfl

@[simp] theorem holders_startRoute (n : Nat) (f : RouteSettings) (s : State) : (startRoute n f s).2.holders = s.holders := by
  unfold startRoute
  repeat' split
  all_goals simp

@[simp] theorem holders_accountRead (g : Grant) (q : Request) (s : State) : (accountRead g q s).2.holders = s.holders := by
  obtain ⟨found, t, hj, ht⟩ := judge_keeps false g.period (checkedSlot q) s
  cases found with
  | contents =>
    simp only [accountRead, hj]
    repeat' split
    all_goals simp [ht]
  | damaged => simp [accountRead, hj, ht]
  | uncorrectable => simp [accountRead, hj, ht]

@[simp] theorem holders_targetMainRead (g : Grant) (target t : Nat) (s : State) :
    (targetMainRead g target t s).2.holders = s.holders := by
  obtain ⟨found, u, hj, hu⟩ := judge_keeps false g.period (mainSlot t) s
  cases found with
  | contents =>
    simp only [targetMainRead, hj]
    split <;> simp [hu]
  | damaged => simp [targetMainRead, hj, hu]
  | uncorrectable => simp [targetMainRead, hj, hu]

@[simp] theorem holders_targetPointRead (g : Grant) (q : Request) (target t : Nat) (s : State) :
    (targetPointRead g q target t s).2.holders = s.holders := by
  obtain ⟨found, u, hj, hu⟩ := judge_keeps false g.period (pointSlot t) s
  cases found with
  | contents =>
    simp only [targetPointRead, hj]
    split <;> simp [hu]
  | damaged => simp [targetPointRead, hj, hu]
  | uncorrectable => simp [targetPointRead, hj, hu]

@[simp] theorem holders_ownMainSound (q : Request) (t : Nat) (s : State) : (ownMainSound q t s).2.holders = s.holders := by
  unfold ownMainSound
  dsimp only
  repeat' split
  all_goals simp

@[simp] theorem holders_ownMainDamaged (q : Request) (t : Nat) (s : State) : (ownMainDamaged q t s).2.holders = s.holders := by
  unfold ownMainDamaged
  dsimp only
  split <;> simp

@[simp] theorem holders_ownMainRead (g : Grant) (q : Request) (t : Nat) (s : State) : (ownMainRead g q t s).2.holders = s.holders := by
  obtain ⟨found, u, hj, hu⟩ := judge_keeps false g.period (mainSlot t) s
  cases found <;> simp [ownMainRead, hj, hu]

@[simp] theorem holders_ownPointSound (q : Request) (main : Nat) (d : Desc) (t : Nat) (s : State) :
    (ownPointSound q main d t s).2.holders = s.holders := by
  unfold ownPointSound
  dsimp only
  repeat' split
  all_goals simp

@[simp] theorem holders_ownPointDamaged (q : Request) (main : Nat) (d : Desc) (t : Nat) (s : State) :
    (ownPointDamaged q main d t s).2.holders = s.holders := by
  unfold ownPointDamaged
  dsimp only
  split <;> simp

@[simp] theorem holders_ownPointRead (g : Grant) (q : Request) (main : Nat) (d : Desc) (t : Nat) (s : State) :
    (ownPointRead g q main d t s).2.holders = s.holders := by
  obtain ⟨found, u, hj, hu⟩ := judge_keeps false g.period (pointSlot t) s
  cases found <;> simp [ownPointRead, hj, hu]

@[simp] theorem holders_directoryAccess (g : Grant) (q : Request) (w : DirWork) (s : State) :
    (directoryAccess g q w s).2.holders = s.holders := by
  cases w <;> simp [directoryAccess]

@[simp] theorem holders_lookDone (p : Nat) (clear : Bool) (w : LookWork) (s : State) :
    (lookDone p clear w s).2.holders = s.holders := by
  unfold lookDone
  repeat' split
  all_goals rfl

@[simp] theorem holders_lookTarget (p : Nat) (clear : Bool) (w : LookWork) (s : State) :
    (lookTarget p clear w s).2.holders = s.holders := by
  unfold lookTarget
  dsimp only
  repeat' split
  all_goals simp

@[simp] theorem holders_startLookPoint (p : Nat) (clear : Bool) (s : State) : (startLookPoint p clear s).2.holders = s.holders := by
  unfold startLookPoint
  dsimp only
  repeat' split
  all_goals simp

@[simp] theorem holders_seeMain (g : Grant) (t i : Nat) (s : State) : (seeMain g t i s).2.holders = s.holders := by
  obtain ⟨found, u, hj, hu⟩ := judge_keeps false g.period (mainSlot t) s
  cases found <;> simp [seeMain, hj, hu]

@[simp] theorem holders_seeLeaf (g : Grant) (t i : Nat) (s : State) : (seeLeaf g t i s).2.holders = s.holders := by
  obtain ⟨found, u, hj, hu⟩ := judge_keeps false g.period (pointSlot t) s
  cases found <;> simp [seeLeaf, hj, hu]

@[simp] theorem holders_lookPointAccess (g : Grant) (p : Nat) (clear : Bool) (w : LookWork) (s : State) :
    (lookPointAccess g p clear w s).2.holders = s.holders := by
  unfold lookPointAccess
  dsimp only
  repeat' split
  all_goals simp

/-! ### Accounts and the balance -/

@[simp] theorem holders_startOnSlot (slot : Nat) (fieldsOk : Bool) (next : HeadWork) (s : State) :
    (startOnSlot slot fieldsOk next s).2.holders = s.holders := by
  unfold startOnSlot
  repeat' split
  all_goals rfl

@[simp] theorem holders_startOpen (slot : Nat) (kind : AccountKind) (cv : Option Nat) (s : State) :
    (startOpen slot kind cv s).2.holders = s.holders := holders_startOnSlot _ _ _ s

@[simp] theorem holders_startReopen (slot : Nat) (s : State) : (startReopen slot s).2.holders = s.holders := by
  unfold startReopen
  repeat' split
  all_goals rfl

@[simp] theorem holders_startAdjust (source target cuft therms : Nat) (s : State) :
    (startAdjust source target cuft therms s).2.holders = s.holders := by
  unfold startAdjust
  split <;> rfl

@[simp] theorem holders_startLookAccount (slot : Nat) (s : State) : (startLookAccount slot s).2.holders = s.holders := by
  unfold startLookAccount
  split <;> rfl

@[simp] theorem holders_writeSlot (slot : Nat) (a : Account) (s : State) : (writeSlot slot a s).2.holders = s.holders := rfl

theorem holders_onContents (g : Grant) (slot : Nat) (damaged : Result) {f : Account → State → Progress × State} (s : State)
    (hf : ∀ a t, (f a t).2.holders = t.holders) : (onContents g slot damaged f s).2.holders = s.holders := by
  obtain ⟨found, t, hj, ht⟩ := judge_keeps false g.period slot s
  cases found <;> simp [onContents, hj, ht, hf]

@[simp] theorem holders_retireNext (left : List Nat) (s : State) : (retireNext left s).2.holders = s.holders := by
  unfold retireNext
  split <;> rfl

@[simp] theorem holders_retireCheck (g : Grant) (slot : Nat) (s : State) : (retireCheck g slot s).2.holders = s.holders := by
  refine holders_onContents g slot _ s fun a t => ?_
  repeat' split
  all_goals simp

@[simp] theorem holders_retireScan (g : Grant) (slot : Nat) (left : List Nat) (s : State) :
    (retireScan g slot left s).2.holders = s.holders := by
  cases left with
  | nil => rfl
  | cons t left =>
    obtain ⟨found, u, hj, hu⟩ := judge_keeps false g.period (pointSlot t) s
    cases found with
    | contents =>
      simp only [retireScan, hj]
      split <;> simp [hu]
    | damaged => simp [retireScan, hj, hu]
    | uncorrectable => simp [retireScan, hj, hu]

@[simp] theorem holders_retireFinal (g : Grant) (slot : Nat) (s : State) : (retireFinal g slot s).2.holders = s.holders := by
  refine holders_onContents g slot _ s fun a t => ?_
  split <;> rfl

@[simp] theorem holders_restoreAccess (g : Grant) (slot : Nat) (c : AccountContents) (s : State) :
    (restoreAccess g slot c s).2.holders = s.holders := by
  obtain ⟨found, u, hj, hu⟩ := judge_keeps false g.period slot s
  cases found with
  | contents =>
    simp only [restoreAccess, hj]
    split <;> simp [hu]
  | damaged => simp [restoreAccess, hj, hu]
  | uncorrectable => simp [restoreAccess, hj, hu]

@[simp] theorem holders_adjustAccess (g : Grant) (source target cuft therms : Nat) (s : State) :
    (adjustAccess g source target cuft therms s).2.holders = s.holders := by
  obtain ⟨fa, t, ha, ht⟩ := judge_keeps false g.period source s
  obtain ⟨fb, u, hb, hu⟩ := judge_keeps false g.period target t
  simp only [adjustAccess, ha, hb]
  repeat' split
  all_goals simp [ht, hu]

@[simp] theorem holders_accountAccess (g : Grant) (q : Request) (s : State) : (accountAccess g q s).2.holders = s.holders := by
  unfold accountAccess
  split
  · exact holders_onContents g _ _ s fun a t => by split <;> rfl
  · exact holders_onContents g _ _ s fun a t => by split <;> rfl
  · exact holders_onContents g _ _ s fun a t => by split <;> rfl
  · simp
  · simp
  · exact holders_onContents g _ _ s fun a t => rfl
  · rfl

@[simp] theorem holders_startClose (s : State) : (startClose s).2.holders = s.holders := by
  simp [startClose, apply_ite State.holders]

@[simp] theorem holders_passNext (tables : List Nat) (leaves : List PassLeaf) (m : Sums) (s : State) :
    (passNext tables leaves m s).2.holders = s.holders := by
  unfold passNext
  split <;> rfl

@[simp] theorem holders_closeScanAccess (g : Grant) (slot : Nat) (m : Sums) (s : State) :
    (closeScanAccess g slot m s).2.holders = s.holders := by
  obtain ⟨found, u, hj, hu⟩ := judge_keeps false g.period slot s
  cases found with
  | contents =>
    simp only [closeScanAccess, hj]
    split <;> simp [hu]
  | damaged => simp [closeScanAccess, hj, hu]
  | uncorrectable => simp [closeScanAccess, hj, hu]

@[simp] theorem holders_closeScan (g : Grant) (slot : Nat) (m : Sums) (s : State) :
    (closeScan g slot m s).2.holders = s.holders := by
  unfold closeScan
  dsimp only
  split <;> simp

@[simp] theorem holders_passAccess (g : Grant) (tables : List Nat) (leaves : List PassLeaf) (s : State) :
    (passAccess g tables leaves s).2.holders = s.holders := by
  match leaves, tables with
  | p :: leaves, tables => exact holders_flagAccess ..
  | [], t :: tables =>
    obtain ⟨found, u, hj, hu⟩ := judge_keeps false g.period (pointSlot t) s
    cases found <;> simp [passAccess, hj, hu]
  | [], [] => rfl

@[simp] theorem holders_bookedPass (g : Grant) (tables : List Nat) (leaves : List PassLeaf) (m : Sums) (s : State) :
    (bookedPass g tables leaves m s).2.holders = s.holders := by
  simp [bookedPass]

@[simp] theorem holders_balanceRead (g : Grant) (slot : Nat) (m : Sums) (s : State) :
    (balanceRead g slot m s).2.holders = s.holders := by
  obtain ⟨found, u, hj, hu⟩ := judge_keeps false g.period slot s
  simp only [balanceRead, hj]
  repeat' split
  all_goals simp_all

/-! ### Districts -/

@[simp] theorem holders_evaluate (d : DistrictId) (s : State) : (evaluate d s).holders = s.holders := by
  unfold evaluate takeJudged
  dsimp only
  repeat' split
  all_goals simp [occasion]

@[simp] theorem holders_takeJudged (d : DistrictId) (s : State) : (takeJudged d s).holders = s.holders := by
  unfold takeJudged
  dsimp only
  repeat' split
  all_goals simp [occasion]

@[simp] theorem holders_placeLoading (d : DistrictId) (s : State) : (placeLoading d s).holders = s.holders := rfl

@[simp] theorem holders_withdrawLoading (d : DistrictId) (s : State) : (withdrawLoading d s).holders = s.holders := rfl

@[simp] theorem holders_occasion (d : DistrictId) (s : State) : (occasion d s).holders = s.holders := rfl

@[simp] theorem holders_adjustDistrict (d : DistrictId) (f : District → District) (s : State) :
    (adjustDistrict d f s).holders = s.holders := by
  unfold adjustDistrict
  dsimp only
  repeat' split
  all_goals simp

@[simp] theorem holders_judgeDistrictSchedule (s : State) (d : DistrictId) : (judgeDistrictSchedule s d).holders = s.holders := by
  unfold judgeDistrictSchedule
  dsimp only
  split <;> simp

@[simp] theorem holders_runOccasions (s : State) : (runOccasions s).holders = s.holders :=
  (StationReplies.judged_runOccasions s).kept.1

@[simp] theorem holders_takeLists (m : Instr) (n : HolderNotice) (ends : DistrictId → Bool) (s : State) (d : DistrictId) :
    (takeLists m n ends s d).holders = s.holders := by
  unfold takeLists
  dsimp only
  split <;> rfl

@[simp] theorem holders_evaluateAfter (before : State) (n : HolderNotice) (s : State) (d : DistrictId) :
    (evaluateAfter before n s d).holders = s.holders := by
  unfold evaluateAfter
  dsimp only
  repeat' split
  all_goals simp

@[simp] theorem holders_takeNotice (m : Instr) (n : HolderNotice) (ends : DistrictId → Bool) (standing : Bool) (s : State) :
    (takeNotice m n ends standing s).holders = s.holders := by
  unfold takeNotice standingOccasions takeView
  dsimp only
  rw [holders_runOccasions]
  split
  · rw [holders_foldl (fun s d => by split <;> rfl), holders_foldl (holders_evaluateAfter s n), holders_foldl (holders_takeLists m n ends)]
    rfl
  · rw [holders_foldl (holders_evaluateAfter s n), holders_foldl (holders_takeLists m n ends)]
    rfl

@[simp] theorem holders_takesNotice (m : Instr) (n : HolderNotice) (ends : DistrictId → Bool) (standing : Bool) (s : State) :
    (takesNotice m n ends standing s).holders = s.holders := by
  simp [takesNotice]

@[simp] theorem holders_autoJoinAnswer (h : HolderId) (d : DistrictId) (result : Result) (s : State) :
    (autoJoinAnswer h d result s).holders = s.holders := by
  have hfirst : (takePendingFirst h d s).holders = s.holders := by
    unfold takePendingFirst
    split <;> simp
  unfold autoJoinAnswer joinFailed
  dsimp only
  rw [holders_runOccasions]
  split <;> exact hfirst

@[simp] theorem holders_takeMinute (s : State) : (takeMinute s).holders = s.holders := by
  simp [takeMinute, holders_foldl]

@[simp] theorem holders_setClock (day minute : Nat) (s : State) : (setClock day minute s).2.holders = s.holders := by
  unfold setClock
  split <;> simp

@[simp] theorem holders_telltaleReply (d : DistrictId) (p : Nat) (s : State) : (telltaleReply d p s).holders = s.holders := by
  unfold telltaleReply
  repeat' split
  all_goals simp

@[simp] theorem holders_governorReply (d : DistrictId) (g : GovernorReading) (s : State) : (governorReply d g s).holders = s.holders := by
  unfold governorReply takeTrip takeEcho
  dsimp only
  repeat' split
  all_goals simp

theorem holders_onDistrict (n : Nat) (s : State) {f : DistrictId → Result × State} (hf : ∀ d, (f d).2.holders = s.holders) :
    (onDistrict n s f).2.holders = s.holders := by
  unfold onDistrict
  split
  · rfl
  · exact hf _

@[simp] theorem holders_enterService (d : DistrictId) (s : State) : (enterService d s).holders = s.holders := by
  simp [enterService]

@[simp] theorem holders_districtIn (n : Nat) (s : State) : (districtIn n s).2.holders = s.holders := by
  refine holders_onDistrict n s fun d => ?_
  dsimp only
  repeat' split
  all_goals simp

@[simp] theorem holders_districtRestore (n : Nat) (s : State) : (districtRestore n s).2.holders = s.holders := by
  refine holders_onDistrict n s fun d => ?_
  split <;> simp

@[simp] theorem holders_districtOut (n : Nat) (s : State) : (districtOut n s).2.holders = s.holders := by
  refine holders_onDistrict n s fun d => ?_
  repeat' split
  all_goals rfl

@[simp] theorem holders_setDistrict (n : Nat) (f : DistrictSettings) (s : State) : (Machine.setDistrict n f s).2.holders = s.holders := by
  refine holders_onDistrict n s fun d => ?_
  dsimp only
  repeat' split
  all_goals simp

@[simp] theorem holders_relinkStation (d : DistrictId) (kind : EntryKind) (address : Option Nat) (s : State) :
    (relinkStation d kind address s).holders = s.holders := by
  cases address <;> rfl

@[simp] theorem holders_relinkGovernor (d : DistrictId) (address : Option Nat) (s : State) :
    (relinkGovernor d address s).holders = s.holders := by
  unfold relinkGovernor
  dsimp only
  repeat' split
  all_goals simp

@[simp] theorem holders_setStations (n : Nat) (governor telltale : Option Nat) (s : State) :
    (setStations n governor telltale s).2.holders = s.holders := by
  refine holders_onDistrict n s fun d => ?_
  repeat' split
  all_goals simp

@[simp] theorem holders_replaceLoading (s : State) (d : DistrictId) : (replaceLoading s d).holders = s.holders := by
  unfold replaceLoading
  split <;> rfl

/-! ### The yard -/

theorem holders_setting {α : Type} (v : Option α) {f : α → State → State} (hf : ∀ a s, (f a s).holders = s.holders) (s : State) :
    (setting v f s).holders = s.holders := by
  cases v with
  | none => rfl
  | some a => exact hf a s

@[simp] theorem holders_setYard (f : YardSettings) (s : State) : (Machine.setYard f s).2.holders = s.holders := by
  unfold Machine.setYard
  split
  · rfl
  · dsimp only
    rw [holders_setting, holders_setting, holders_setting, holders_setting, holders_setting, holders_setting, holders_setting]
    all_goals intro v t
    all_goals simp [setFallback, setFastShare]

@[simp] theorem holders_setOutstation (address : Nat) (action : OutstationAction) (kind : Option EntryKind) (retry : Option Nat)
    (s : State) : (Machine.setOutstation address action kind retry s).2.holders = s.holders := by
  unfold Machine.setOutstation
  dsimp only
  repeat' split
  all_goals simp [removeChannels]

@[simp] theorem holders_setup (s : State) : (Machine.setup s).2.holders = s.holders := by
  unfold Machine.setup
  repeat' split
  all_goals rfl

@[simp] theorem holders_yardHold (s : State) : (Machine.yardHold s).2.holders = s.holders := by
  unfold Machine.yardHold
  split <;> rfl

@[simp] theorem holders_lineDies (s : State) : (lineDies s).holders = s.holders := by
  unfold lineDies
  split <;> rfl

end Sys2Proof.HoldersKept

/-! PROOFS. ISOLATE in three steps (03 R57): the record it begins from, its moves, and its change-over (O8, O22). -/

namespace Sys2Proof.HolderWork

open Sys2Proof.Machine

/-- A holder's record as ISOLATE begins: no orders, and the valve that a move was driving to be closed (step 1 of 03 R57). -/
def isolateStart (r : Holder) : Holder :=
  match isolateFirst r with
  | some (w, _) => r.discardOrders.setIntent w .closed
  | none => r.discardOrders

/-- The moves of an ISOLATE change-over: a valve that moves first, then the leave, the outlet and the inlet (03 R57). -/
def isolateMoves (r : Holder) (feed : Option DistrictId) : List Move :=
  ((isolateFirst r).map fun p => closing p.1).toList ++ moveIf feed.isSome .leave
    ++ moveIf (decide ((isolateStart r).outletIntent = .opened)) .closeOutlet
    ++ moveIf (decide ((isolateStart r).inletIntent = .opened)) .closeInlet

/-- ISOLATE in three steps: the orders and the valve in flight, the thing withdrawn, and the change-over (03 R57). -/
theorem isolateWork_eq (h : HolderId) (s : State) : isolateWork h s
    = let r := s.holder h
      let first := isolateFirst r
      let moves := isolateMoves r (isolateFeed s h)
      let d : Draft := ⟨(s.setHolder h (isolateStart r)).setDrive h (first.map fun p => driveOf p.1 .closed),
        ((isolateWithdraws r).map Part.withdraw).toList⟩
      if moves.isEmpty then reachTarget h .isolated d
      else startMove h (d.mod h fun r => { r with
        changeOver := some ⟨.isolated, moves, 0, first.isSome, first.bind (·.2)⟩
        state := if r.state = .faulted then .faulted else .changing }) := by
  unfold isolateWork isolateMoves isolateStart
  dsimp only
  rcases isolateFirst (s.holder h) with _ | ⟨w, t⟩ <;> cases isolateWithdraws (s.holder h) <;> simp

@[simp] theorem isolateStart_next (r : Holder) : (isolateStart r).next = none := by
  unfold isolateStart
  split
  · rename_i w _ _
    cases w <;> rfl
  · rfl

end Sys2Proof.HolderWork

/-! PROOFS. A holder has a NEXT order only behind an ACTIVE one (03 R40): each piece of HOC's work keeps every stack in order, the other
blocks leave the records alone, and so every step keeps it (O8). -/

namespace Sys2Proof.OrderStacks

open Sys2Proof.Machine Sys2Proof.Safety Sys2Proof.HolderWork Sys2Proof.HoldersKept

/-- A NEXT order stands only behind an ACTIVE one (03 R40). -/
def NextBehindActive (r : Holder) : Prop := r.active = none → r.next = none

/-- Every holder's order stack is in order (03 R40). -/
def OrdersStacked (s : State) : Prop := ∀ h, NextBehindActive (s.holder h)

theorem ordersSound_iff (s : State) : ordersSound s.holders = true ↔ OrdersStacked s := by
  have hids : ∀ h : HolderId, h ∈ holderIds := by decide
  have hstacked (r : Holder) : (r.next.isNone || r.active.isSome) = true ↔ NextBehindActive r := by
    cases ha : r.active <;> simp [NextBehindActive, ha]
  simp only [ordersSound, List.all_eq_true, hstacked]
  exact ⟨fun hs h => hs h (hids h), fun hs h _ => hs h⟩

/-! ### Changes of one record -/

/-- The records alone decide. -/
theorem OrdersStacked.of_holders {s t : State} (hs : OrdersStacked s) (h : t.holders = s.holders) : OrdersStacked t := by
  intro k
  rw [State.holder, h]
  exact hs k

theorem OrdersStacked.setHolder {s : State} {r : Holder} (hs : OrdersStacked s) (h : HolderId) (hr : NextBehindActive r) :
    OrdersStacked (s.setHolder h r) := by
  intro k
  by_cases hk : k = h
  · subst hk
    simpa using hr
  · rw [State.holder_setHolder_ne s r hk]
    exact hs k

theorem OrdersStacked.mod {d : Draft} {f : Holder → Holder} (hd : OrdersStacked d.s) (h : HolderId)
    (hf : ∀ r, NextBehindActive r → NextBehindActive (f r)) :
    OrdersStacked (d.mod h f).s := hd.setHolder h (hf _ (hd h))

/-- A change of other fields of a record leaves its order stack. -/
theorem OrdersStacked.keeps {d : Draft} {f : Holder → Holder} (hd : OrdersStacked d.s) (h : HolderId)
    (hf : ∀ r, (f r).active = r.active ∧ (f r).next = r.next) : OrdersStacked (d.mod h f).s := by
  refine hd.mod h fun r hr ha => ?_
  obtain ⟨hactive, hnext⟩ := hf r
  rw [hnext]
  exact hr (hactive ▸ ha)

theorem nextBehindActive_of_active {r : Holder} (h : r.active.isSome = true) : NextBehindActive r := by
  intro ha
  simp [ha] at h

theorem nextBehindActive_of_no_next {r : Holder} (h : r.next = none) : NextBehindActive r := fun _ => h

/-- A NEXT order that has become ACTIVE leaves its place (03 R40). -/
theorem nextBehindActive_promote (r : Holder) : NextBehindActive r.promote := by
  unfold Holder.promote
  split
  · exact nextBehindActive_of_no_next rfl
  · rename_i hn
    exact nextBehindActive_of_no_next hn

theorem OrdersStacked.drive {d : Draft} (hd : OrdersStacked d.s) (h : HolderId) (v : Option Drive) : OrdersStacked (d.drive h v).s := hd

theorem nextBehindActive_setIntent {r : Holder} (w : Which) (v : Valve) (hr : NextBehindActive r) : NextBehindActive
    (r.setIntent w v) := by
  cases w <;> exact hr

/-! ### Change-overs and the ends of orders -/

theorem OrdersStacked.startMove {d : Draft} (hd : OrdersStacked d.s) (h : HolderId) : OrdersStacked (startMove h d).s := by
  unfold Machine.startMove
  split
  · exact hd
  · split
    · exact hd
    · split
      · exact hd
      · split
        · rename_i w v _
          refine OrdersStacked.drive (hd.keeps h fun r => ?_) h _
          cases w <;> exact ⟨rfl, rfl⟩
        · exact hd.keeps h fun _ => ⟨rfl, rfl⟩

theorem OrdersStacked.reachTarget {d : Draft} (hd : OrdersStacked d.s) (h : HolderId) (t : Target) :
    OrdersStacked (reachTarget h t d).s := by
  unfold Machine.reachTarget
  dsimp only
  split <;> exact hd.keeps h fun _ => ⟨rfl, rfl⟩

theorem OrdersStacked.build {d : Draft} (hd : OrdersStacked d.s) (h : HolderId) (t : Target) : OrdersStacked (build h t d).s := by
  unfold Machine.build
  dsimp only
  split
  · exact hd.reachTarget h t
  · refine OrdersStacked.startMove ?_ h
    split <;> exact hd.keeps h fun _ => ⟨rfl, rfl⟩

theorem OrdersStacked.endAction {d : Draft} (hd : OrdersStacked d.s) (h : HolderId) (o : Order) : OrdersStacked (endAction h o d).s := by
  unfold Machine.endAction
  split
  · split
    · split
      · exact hd.keeps h fun _ => ⟨rfl, rfl⟩
      · exact hd.build h _
    · exact hd
  · exact hd.build h _
  · exact hd
  · exact hd

/-- HOC turns to the ACTIVE order: induction on the orders that can end at one event (03 R43, R49, R51). -/
theorem OrdersStacked.settle {d : Draft} (hd : OrdersStacked d.s) (h : HolderId) (n : Nat) : OrdersStacked (settle n h d).s := by
  induction n generalizing d with
  | zero => exact hd
  | succ n ih =>
    unfold Machine.settle
    dsimp only
    split
    · exact hd
    · rename_i o ho
      have hact : OrdersStacked (if (d.holder h).activationWaits then d.mod h (·.activate o) else d).s := by
        split
        · exact hd.keeps h fun _ => ⟨rfl, rfl⟩
        · exact hd
      generalize (if (d.holder h).activationWaits then d.mod h (·.activate o) else d) = e at hact ⊢
      repeat' split
      · exact ih (hact.mod h fun r _ => nextBehindActive_promote _)
      · exact hact.build h _
      · exact hact.keeps h fun _ => ⟨rfl, rfl⟩
      · exact ih (hact.mod h fun r _ => nextBehindActive_promote _)
      · exact hact

theorem OrdersStacked.completeOrder {d : Draft} (hd : OrdersStacked d.s) (h : HolderId) (o : Order) :
    OrdersStacked (completeOrder h o d).s := by
  have hp : OrdersStacked (d.mod h fun r => r.latchDone.promote).s := hd.mod h fun r _ => nextBehindActive_promote _
  unfold Machine.completeOrder
  dsimp only
  split
  · exact hp.settle h _
  · exact hp.endAction h o

theorem OrdersStacked.limitEnd {d : Draft} (hd : OrdersStacked d.s) (h : HolderId) (t : Target) {idle : Holder → Holder}
    (hi : ∀ r, NextBehindActive r → NextBehindActive (idle r)) : OrdersStacked (limitEnd h t idle d).s := by
  refine OrdersStacked.build (hd.mod h fun r hr => ?_) h t
  split
  · exact nextBehindActive_promote _
  · exact hi r hr

theorem OrdersStacked.endMove {d : Draft} (hd : OrdersStacked d.s) (h : HolderId) : OrdersStacked (endMove h d).s := by
  unfold Machine.endMove
  dsimp only
  repeat' split
  · exact hd
  · refine OrdersStacked.startMove ?_ h
    exact (hd.drive h none).keeps h fun _ => ⟨rfl, rfl⟩
  · exact ((hd.drive h none).reachTarget h _).settle h _

/-! ### Faults and crown replies -/

theorem OrdersStacked.enterFaulted {d : Draft} (hd : OrdersStacked d.s) (h : HolderId) (reason : FaultReason) :
    OrdersStacked (enterFaulted h reason d).s := (hd.drive h none).mod h fun _ _ => nextBehindActive_of_no_next rfl

theorem OrdersStacked.judgeMove {d : Draft} (hd : OrdersStacked d.s) (h : HolderId) : OrdersStacked (judgeMove h d).s := by
  unfold Machine.judgeMove
  split
  · split
    · exact hd.endMove h
    · exact hd
  · exact hd

theorem OrdersStacked.track {d : Draft} (hd : OrdersStacked d.s) (h : HolderId) : OrdersStacked (track h d).s := by
  unfold Machine.track
  dsimp only
  split
  · rename_i o start _ _
    have hleft (left : Option Nat) : OrdersStacked (d.mod h fun r => { r with remainder := left }).s :=
      hd.keeps h fun _ => ⟨rfl, rfl⟩
    split
    · exact hd
    · split
      · refine OrdersStacked.completeOrder ?_ h o
        exact (hleft _).keeps h fun _ => ⟨rfl, rfl⟩
      · exact hleft _
  · exact hd

theorem OrdersStacked.judgeLimits {d : Draft} (hd : OrdersStacked d.s) (h : HolderId) (c : CrownReading) :
    OrdersStacked (judgeLimits h c d).s := by
  unfold Machine.judgeLimits
  dsimp only
  repeat' split
  all_goals first | exact hd | exact hd.limitEnd h _ fun r hr => hr

theorem OrdersStacked.recover {d : Draft} (hd : OrdersStacked d.s) (h : HolderId) : OrdersStacked (recover h d).s := by
  have hr : OrdersStacked (d.mod h fun r => { r with latches := { r.latches with recovered := true } }).s :=
    hd.mod h fun r hr => hr
  unfold Machine.recover
  dsimp only
  generalize (d.mod h fun r => { r with latches := { r.latches with recovered := true } }) = e at hr ⊢
  repeat' split
  all_goals first | exact hr.enterFaulted h _ | exact hr.mod h fun r hr => hr

/-- A reading touches no order (02 R23). -/
theorem takeReading_orders (c : CrownReading) (barometer : Nat) (r : Holder) :
    (takeReading c barometer r).active = r.active ∧ (takeReading c barometer r).next = r.next := by
  have hjudge (reading : Nat) (r : Holder) : (judgeHeight reading r).active = r.active ∧ (judgeHeight reading r).next = r.next := by
    unfold judgeHeight
    repeat' split
    all_goals exact ⟨rfl, rfl⟩
  have htake (r : Holder) : (takeHeight c r).active = r.active ∧ (takeHeight c r).next = r.next := by
    unfold takeHeight
    dsimp only
    repeat' split
    · exact ⟨rfl, rfl⟩
    · exact ⟨rfl, rfl⟩
    · exact hjudge _ _
  exact htake _

theorem OrdersStacked.limitsWork {d : Draft} (hd : OrdersStacked d.s) (h : HolderId) (c : CrownReading) (before : Holder) :
    OrdersStacked (CrownReplies.limitsWork h c before d).s := by
  have hfault : OrdersStacked (if uncommanded (d.holder h) = true then Machine.enterFaulted h .uncommanded d else d).s := by
    split
    · exact hd.enterFaulted h _
    · exact hd
  unfold CrownReplies.limitsWork
  dsimp only
  generalize (if uncommanded (d.holder h) = true then Machine.enterFaulted h .uncommanded d else d) = e at hfault ⊢
  split
  · exact hfault
  · refine OrdersStacked.judgeLimits ?_ h c
    split
    · exact hfault.track h
    · exact hfault

theorem OrdersStacked.replyWork {s : State} (hs : OrdersStacked s) (h : HolderId) (c : CrownReading) :
    OrdersStacked (replyWork h c s).s := by
  have hread (ps : List Part) :
      OrdersStacked (⟨s.setHolder h (takeReading c s.yard.barometer (s.holder h)), ps⟩ : Draft).s :=
    OrdersStacked.keeps (d := ⟨s, ps⟩) hs h (takeReading_orders c _)
  by_cases hrec : (s.holder h).state = .recovering
  · rw [CrownReplies.replyWork_of_recovering hrec rfl]
    exact (hread _).recover h
  · rw [CrownReplies.replyWork_of_later hrec rfl]
    exact ((hread _).judgeMove h).limitsWork h c _

/-! ### Notices, silences and timers -/

@[simp] theorem holders_giveEach (d : Draft) (h : HolderId) : (d.giveEach h).holders = d.s.holders := by
  unfold Draft.giveEach
  rw [holders_foldl]
  exact fun _ _ => rfl

@[simp] theorem holders_giveReply (d : Draft) (h : HolderId) : (d.giveReply h).holders = d.s.holders := by
  unfold Draft.giveReply
  split <;> rfl

theorem OrdersStacked.giveEach {d : Draft} (hd : OrdersStacked d.s) (h : HolderId) : OrdersStacked (d.giveEach h) :=
  hd.of_holders (holders_giveEach d h)

theorem OrdersStacked.crownReply {s : State} (hs : OrdersStacked s) (h : HolderId) (c : CrownReading) :
    OrdersStacked (crownReply h c s) := by
  unfold Machine.crownReply
  split
  · exact (hs.replyWork h c).of_holders (holders_giveReply _ h)
  · exact hs

theorem OrdersStacked.crownSilent {s : State} (hs : OrdersStacked s) (h : HolderId) : OrdersStacked (crownSilent h s) := by
  have hd : OrdersStacked s.draft.s := hs
  unfold Machine.crownSilent
  dsimp only
  split
  · refine OrdersStacked.giveEach ?_ h
    split <;> exact hd.keeps h fun _ => ⟨rfl, rfl⟩
  · exact hs

theorem OrdersStacked.moveTimerExpires {s : State} (hs : OrdersStacked s) (h : HolderId) : OrdersStacked (moveTimerExpires h s) := by
  unfold Machine.moveTimerExpires
  split
  · exact (OrdersStacked.enterFaulted (d := s.draft) hs h _).giveEach h
  · exact hs

theorem OrdersStacked.moveTaken {s : State} (hs : OrdersStacked s) (h : HolderId) (m : Move) : OrdersStacked (moveTaken h m s) := by
  unfold Machine.moveTaken
  split
  · exact (OrdersStacked.endMove (d := s.draft) hs h).giveEach h
  · exact hs

theorem OrdersStacked.foldl {α : Type} {f : State → α → State} (hf : ∀ s a, OrdersStacked s → OrdersStacked (f s a))
    (l : List α) {s : State}
    (hs : OrdersStacked s) : OrdersStacked (l.foldl f s) := by
  induction l generalizing s with
  | nil => exact hs
  | cons a l ih => exact ih (hf s a hs)

theorem OrdersStacked.enterWorking {s : State} (hs : OrdersStacked s) : OrdersStacked (enterWorking s) := by
  have hstart : OrdersStacked (startAllWaiting (s.modYard fun y => { y with mode := .working })) :=
    OrdersStacked.foldl (fun t h ht => (OrdersStacked.startMove (d := t.draft) ht h).giveEach h) _ (hs.of_holders rfl)
  unfold Machine.enterWorking
  exact hstart.of_holders (by rw [holders_runOccasions, holders_foldl fun s d => holders_occasion d s])

/-! ### Orders -/
/-- An order is placed as the ACTIVE one, or as NEXT behind it (03 R40). -/
theorem OrdersStacked.place {s : State} (hs : OrdersStacked s) (h : HolderId) (o : Order) : OrdersStacked (place h o s).2 := by
  unfold Machine.place
  dsimp only
  split
  · have hd : OrdersStacked (s.draft.mod h fun r => (r.noteOrder o).becomeActive o).s :=
      OrdersStacked.mod (d := s.draft) hs h fun r _ => nextBehindActive_of_active rfl
    refine OrdersStacked.giveEach ?_ h
    split
    · exact hd
    · exact hd.settle h _
  · rename_i a ha _
    have hnote : (s.holder h).noteOrder o = { s.holder h with lastOrder := ((s.holder h).noteOrder o).lastOrder } := by
      unfold Holder.noteOrder
      split <;> rfl
    have hd : OrdersStacked (s.draft.mod h fun r => { r.noteOrder o with next := some o }).s := by
      refine OrdersStacked.setHolder (s := s) hs h (nextBehindActive_of_active ?_)
      show ((s.holder h).noteOrder o).active.isSome = true
      rw [hnote, ha]
      rfl
    refine OrdersStacked.giveEach ?_ h
    split
    · exact hd.settle h _
    · exact hd
  · exact hs

theorem OrdersStacked.tryOrder {s : State} (hs : OrdersStacked s) (h : HolderId) (o : Order) : OrdersStacked (tryOrder h o s).2 := by
  unfold Machine.tryOrder
  split
  · exact hs
  · exact hs.place h o

theorem OrdersStacked.onFitted {s : State} (hs : OrdersStacked s) (n : Nat) {f : HolderId → Result × State}
    (hf : ∀ h, OrdersStacked (f h).2) :
    OrdersStacked (onFitted n s f).2 := by
  unfold Machine.onFitted
  split
  · exact hs
  · split
    · exact hf _
    · exact hs

theorem OrdersStacked.order {s : State} (hs : OrdersStacked s) (n : Nat) (kind : OrderKind) (district quantity : Option Nat)
    (e : Option EndAction) : OrdersStacked (order n kind district quantity e s).2 := by
  refine hs.onFitted n fun h => ?_
  split
  · exact hs
  · split
    · exact hs
    · exact hs.tryOrder h _

theorem OrdersStacked.repeatLast {s : State} (hs : OrdersStacked s) (n : Nat) : OrdersStacked (repeatLast n s).2 := by
  refine hs.onFitted n fun h => ?_
  split
  · exact hs
  · split
    · exact hs
    · exact hs.tryOrder h _

theorem OrdersStacked.automaticDraw {s : State} (hs : OrdersStacked s) (h : HolderId) (d : DistrictId) :
    OrdersStacked (automaticDraw h d s) := by
  refine OrdersStacked.of_holders (s := (Machine.onFitted h s _).2) (hs.onFitted h fun h => ?_) rfl
  split
  · exact hs
  · split
    · exact hs
    · exact hs.tryOrder h _

theorem OrdersStacked.stopHolder {s : State} (hs : OrdersStacked s) (n : Nat) : OrdersStacked (stopHolder n s).2 :=
  hs.onFitted n fun h => OrdersStacked.setHolder hs h (nextBehindActive_of_no_next rfl)

theorem OrdersStacked.isolateWork {s : State} (hs : OrdersStacked s) (h : HolderId) : OrdersStacked (isolateWork h s).s := by
  have hd (v : Option Drive) (ps : List Part) :
      OrdersStacked (⟨(s.setHolder h (isolateStart (s.holder h))).setDrive h v, ps⟩ : Draft).s :=
    OrdersStacked.setHolder hs h (nextBehindActive_of_no_next (isolateStart_next _))
  rw [isolateWork_eq]
  dsimp only
  split
  · exact (hd _ _).reachTarget h _
  · refine OrdersStacked.startMove ?_ h
    exact (hd _ _).keeps h fun _ => ⟨rfl, rfl⟩

theorem OrdersStacked.isolateHolder {s : State} (hs : OrdersStacked s) (n : Nat) : OrdersStacked (isolateHolder n s).2 := by
  refine hs.onFitted n fun h => ?_
  dsimp only
  split
  · exact hs
  · split
    · exact hs
    · exact (hs.isolateWork h).giveEach h

theorem OrdersStacked.returnToService {s : State} (hs : OrdersStacked s) (n : Nat) : OrdersStacked (returnToService n s).2 := by
  refine hs.onFitted n fun h => ?_
  split
  · exact hs
  · refine OrdersStacked.giveEach ?_ h
    exact OrdersStacked.keeps (d := s.draft) hs h fun _ => ⟨rfl, rfl⟩

theorem OrdersStacked.relinkCrown {d : Draft} (hd : OrdersStacked d.s) (h : HolderId) (address : Option Nat) :
    OrdersStacked (relinkCrown h address d).s := by
  unfold Machine.relinkCrown
  dsimp only
  split
  · exact hd
  · have hline : OrdersStacked ({ d with s := d.s.modLine fun l => l.relink .crown (.holder h) address } : Draft).s := hd.of_holders rfl
    revert hline
    generalize ({ d with s := d.s.modLine fun l => l.relink .crown (.holder h) address } : Draft) = e
    intro he
    have hdrive : OrdersStacked (match (e.holder h).driven with
        | some (w, v) => e.drive h (some (driveOf w v))
        | none => e).s := by
      split
      · exact he.drive h _
      · exact he
    split
    · split <;> exact hdrive.keeps h fun _ => ⟨rfl, rfl⟩
    · exact hdrive

theorem OrdersStacked.setHolderRequest {s : State} (hs : OrdersStacked s) (n : Nat) (f : HolderSettings) :
    OrdersStacked (Machine.setHolder n f s).2 := by
  unfold Machine.setHolder
  split
  · exact hs
  · rename_i h _
    split
    · exact hs
    · split
      · exact hs
      · dsimp only
        split
        · exact hs
        · have hlink : OrdersStacked (Machine.relinkCrown h (crownAddress (s.holder h).fitted f) (s.draft.mod h (·.configure f))).s := by
            refine OrdersStacked.relinkCrown ?_ h _
            exact OrdersStacked.keeps (d := s.draft) hs h fun _ => ⟨rfl, rfl⟩
          refine OrdersStacked.giveEach ?_ h
          split
          · exact hlink.mod h fun _ _ => nextBehindActive_of_no_next rfl
          · exact hlink

theorem OrdersStacked.clearSource {s : State} (hs : OrdersStacked s) (x : Source) : OrdersStacked (s.clearSource x) := by
  cases x with
  | holder h => exact OrdersStacked.keeps (d := s.draft) hs h fun _ => ⟨rfl, rfl⟩
  | yard => exact hs.of_holders rfl
  | district d => exact hs.of_holders rfl
  | store => exact hs.of_holders rfl
  | line => exact hs.of_holders rfl
  | booking => exact hs.of_holders rfl

/-! ### Requests -/

@[simp] theorem holders_lookHolder (n : Nat) (s : State) : (lookHolder n s).2.holders = s.holders := by
  unfold lookHolder
  split <;> rfl

@[simp] theorem holders_lookDistrict (n : Nat) (s : State) : (lookDistrict n s).2.holders = s.holders := by
  unfold lookDistrict
  split <;> rfl

@[simp] theorem holders_lookLine (address : Option Nat) (s : State) : (lookLine address s).2.holders = s.holders := by
  unfold lookLine
  repeat' split
  all_goals rfl

theorem OrdersStacked.acknowledge {s : State} (hs : OrdersStacked s) (n : Nat) : OrdersStacked (acknowledge n s).2 := by
  unfold Machine.acknowledge
  split
  · exact hs
  · exact hs.clearSource _

theorem OrdersStacked.work {s : State} (hs : OrdersStacked s) : OrdersStacked (work s).2 := by
  unfold Machine.work
  split
  · exact hs
  · simpa only [refuse] using hs.enterWorking

theorem OrdersStacked.resume {s : State} (hs : OrdersStacked s) : OrdersStacked (resume s).2 := by
  unfold Machine.resume
  split
  · exact hs
  · simpa only [refuse] using hs.enterWorking

theorem OrdersStacked.startRequest {s : State} (hs : OrdersStacked s) (q : Request) : OrdersStacked (startRequest q s).2 := by
  cases q with
  | setHolder n f => exact hs.setHolderRequest n f
  | order n k d q e => exact hs.order n k d q e
  | repeatOrder n => exact hs.repeatLast n
  | returnHolder n => exact hs.returnToService n
  | ack n => exact hs.acknowledge n
  | work => exact hs.work
  | resume => exact hs.resume
  | _ =>
    refine hs.of_holders ?_
    simp [Machine.startRequest, atOnce, lookBooking, lookStore, lookYard, lookLink, readAttention]

@[simp] theorem holders_respond (tag code : Byte) (result : Result) (fields : List Field) (s : State) :
    (respond tag code result fields s).holders = s.holders := rfl

@[simp] theorem holders_answerHead (h : Stacked) (result : Result) (fields : List Field) (s : State) :
    (answerHead h result fields s).holders = s.holders := rfl

@[simp] theorem holders_awaitHead (w : HeadWork) (s : State) : (awaitHead w s).holders = s.holders := by
  simp [awaitHead]

theorem OrdersStacked.startHead {s : State} (hs : OrdersStacked s) (h : Stacked) : OrdersStacked (startHead h s).2 := by
  unfold Machine.startHead
  split
  · exact OrdersStacked.startRequest (s := markStarted s) hs _
  · exact hs

/-- Requests start as they become the head: induction on the starts within one event (11 R194). -/
theorem OrdersStacked.runStack {s : State} (hs : OrdersStacked s) (n : Nat) : OrdersStacked (runStack n s) := by
  induction n generalizing s with
  | zero => exact hs
  | succ n ih =>
    unfold Machine.runStack
    split
    · exact hs
    · rename_i h _ _
      split
      · exact hs
      · have hstart := hs.startHead h
        split
        · rename_i result fields t ht
          rw [ht] at hstart
          exact ih (hstart.of_holders (holders_answerHead h result fields t))
        · rename_i w t ht
          rw [ht] at hstart
          exact hstart.of_holders (holders_awaitHead w t)

/-! ### Resets -/
@[simp] theorem holders_abandonedAccess (g : Grant) (q : Request) (w : HeadWork) (s : State) :
    (abandonedAccess g q w s).holders = s.holders := by
  unfold abandonedAccess
  split <;> simp

@[simp] theorem holders_completeServed (s : State) : (completeServed s).holders = s.holders := by
  unfold completeServed
  dsimp only
  repeat' split
  all_goals simp

theorem nextBehindActive_afterReset {r : Holder} (hr : NextBehindActive r) : NextBehindActive r.afterReset := by
  unfold Holder.afterReset
  dsimp only
  split
  · exact nextBehindActive_of_no_next rfl
  · exact hr

theorem holder_mapSix (s : State) (f : Holder → Holder) (h : HolderId) : (mapSix f s.holders)[h] = f (s.holder h) := by
  fin_cases h <;> rfl

theorem OrdersStacked.resetPart {s : State} (hs : OrdersStacked s) (cause : RestartCause) : OrdersStacked (resetPart cause s) := by
  unfold Machine.resetPart
  dsimp only
  intro h
  rw [State.holder, holders_nextTurn, holders_foldl holders_replaceLoading, holder_mapSix]
  exact nextBehindActive_afterReset (hs h)

theorem holders_abortStack (s : State) : (abortStack s).holders = s.holders := by
  unfold abortStack
  exact holders_foldl (fun s (q : Stacked) => holders_respond q.tag q.request.code .aborted [] s) _ _

theorem OrdersStacked.yardReset {s : State} (hs : OrdersStacked s) (tag : Byte) : OrdersStacked (yardReset tag s) := by
  unfold Machine.yardReset
  refine OrdersStacked.of_holders (OrdersStacked.resetPart ?_ _) (holders_respond ..)
  exact hs.of_holders ((holders_completeServed _).trans (holders_abortStack s))

theorem OrdersStacked.immediate {s t : State} (hs : OrdersStacked s) {tag : Byte} {q : Request} (h : immediate tag q s = some t) :
    OrdersStacked t := by
  have answered {p : Result × State} (hp : OrdersStacked p.2) : OrdersStacked (respond tag q.code p.1 [] p.2) :=
    hp.of_holders (holders_respond ..)
  cases q <;> simp only [Machine.immediate, Option.some.injEq, reduceCtorEq] at h <;> subst h
  case yardReset => exact hs.yardReset tag
  case lineReset => exact hs.of_holders (by simp)
  case yardHold => exact hs.of_holders (by simp)
  case stop n => exact answered (hs.stopHolder n)
  case isolate n => exact answered (hs.isolateHolder n)

theorem OrdersStacked.requestArrives {s : State} (hs : OrdersStacked s) (tag : Byte) (q : Request) :
    OrdersStacked (requestArrives tag q s) := by
  unfold Machine.requestArrives
  split
  · exact hs
  · split
    · rename_i t ht
      exact hs.immediate ht
    · unfold stackRequest
      split
      · exact hs
      · exact OrdersStacked.runStack (s := s.modRex _) hs _

/-! ### The accesses of the head -/

@[simp] theorem holders_workAccess (g : Grant) (q : Request) (w : HeadWork) (s : State) : (workAccess g q w s).2.holders = s.holders := by
  cases w <;> simp [workAccess]

theorem OrdersStacked.headAccessEnds {s : State} (hs : OrdersStacked s) (kind : HeadWork → Bool) :
    OrdersStacked (headAccessEnds kind s) := by
  unfold Machine.headAccessEnds
  split
  · rename_i g h w _ _
    split
    · refine OrdersStacked.of_holders ?_ (holders_release _)
      have hw : OrdersStacked (workAccess g h.request w s).2 := hs.of_holders (holders_workAccess g h.request w s)
      unfold headGoesOn
      split
      · rename_i result fields t ht
        rw [ht] at hw
        exact OrdersStacked.runStack (hw.of_holders (holders_answerHead h result fields t)) _
      · rename_i w' t ht
        rw [ht] at hw
        exact hw.of_holders (holders_awaitHead w' t)
    · exact hs
  · exact hs

@[simp] theorem holders_bookingAccessEnds {kind : Phase → Bool} {work : Grant → InHand → State → State}
    (hw : ∀ g h s, (work g h s).holders = s.holders) (s : State) : (bookingAccessEnds kind work s).holders = s.holders := by
  unfold bookingAccessEnds
  repeat' split
  · simp [hw]
  · rfl
  · rfl

theorem OrdersStacked.powerOn {s : State} (hs : OrdersStacked s) (batteryLow : Bool) (found : StateFlaw) :
    OrdersStacked (powerOn batteryLow found s) := by
  have hfresh : OrdersStacked State.reset := by
    intro h
    fin_cases h <;> exact nextBehindActive_of_no_next rfl
  unfold Machine.powerOn
  split
  · dsimp only
    split <;> exact hfresh.of_holders rfl
  · refine OrdersStacked.resetPart (hs.of_holders ?_) _
    simp [apply_ite State.holders]

theorem OrdersStacked.linkByte {s : State} (hs : OrdersStacked s) (b : Byte) : OrdersStacked (linkByte s b) := by
  have hrx : OrdersStacked (s.modRex fun x => { x with rx := (linkForm.step s.rex.rx b).1 }) := hs
  unfold Machine.linkByte
  dsimp only
  split
  · unfold judgeLink
    dsimp only
    repeat' split
    all_goals first | exact hrx | exact hrx.requestArrives _ _
  · exact hrx

/-! ### Commands -/
theorem OrdersStacked.whenRunning {s t : State} {f : State → State} (hs : OrdersStacked s) (hf : OrdersStacked (f s))
    (h : whenRunning s f = .next t) : OrdersStacked t := by
  rw [whenRunning_next] at h
  cases h
  split
  · exact hf
  · exact hs

theorem OrdersStacked.kept {s t : State} {f : State → State} (hs : OrdersStacked s) (hf : (f s).holders = s.holders)
    (h : Machine.whenRunning s f = .next t) : OrdersStacked t := hs.whenRunning (hs.of_holders hf) h

theorem OrdersStacked.storeCommand {s t : State} {flaws : List Flaw} {f : State → State} (hs : OrdersStacked s)
    (hf : ∀ u, OrdersStacked u → OrdersStacked (f u)) (h : storeCommand flaws s f = .next t) : OrdersStacked t := by
  have hflaws : OrdersStacked (s.modRst fun r => r.addFlaws flaws) := hs
  exact hflaws.whenRunning (hf _ hflaws) h

theorem OrdersStacked.bookingCommand {s t : State} {flaws : List Flaw} {kind : Phase → Bool} {work : Grant → InHand → State → State}
    (hs : OrdersStacked s) (hw : ∀ g h s, (work g h s).holders = s.holders)
    (h : Machine.storeCommand flaws s (bookingAccessEnds kind work) = .next t) : OrdersStacked t :=
  hs.storeCommand (fun u hu => hu.of_holders (holders_bookingAccessEnds hw u)) h

@[simp] theorem holders_walkWork (g : Grant) (h : InHand) (s : State) : (walkWork g h s).holders = s.holders := by
  unfold walkWork
  split <;> simp

@[simp] theorem holders_commitWork (g : Grant) (h : InHand) (s : State) : (commitWork g h s).holders = s.holders := by
  unfold commitWork
  split <;> simp

@[simp] theorem holders_markWork (g : Grant) (h : InHand) (s : State) : (markWork g h s).holders = s.holders := by
  unfold markWork
  split <;> simp [standMark]

/-- Every command keeps every holder's order stack in order (03 R40). -/
theorem OrdersStacked.exec {i : Instr} {s t : State} (hs : OrdersStacked s) (h : exec i s = .next t) : OrdersStacked t := by
  cases hq : i.request with
  | some p =>
    rw [exec_of_request hq] at h
    exact hs.whenRunning (hs.requestArrives _ _) h
  | none =>
    cases i <;> simp only [Instr.request, reduceCtorEq] at hq <;>
      simp only [Machine.exec, execPowerOn, execSupplyFail, execLinkFrame, execResponseSent, execPollSent, execLineFrameEnd,
      execReplyWaitExpiry, execLineDeadNotice, execLineAliveNotice, execCrownReply, execMoveTimerExpiry,
      execCrownSilentNotice, execAutomaticDraw, execAutoJoinAnswer, execHolderValuesNotice, execJoinPendingNotice,
      execJoinNotice, execLeaveNotice, execWithdrawPendingNotice, execRemoveNotice, execStandingNotice,
      execMinuteEvent, execGovernorReply, execTelltaleReply, execGovernorSilentNotice, execTelltaleSilentNotice,
      execBarometerReply, execMeterReply, execWalkTableRead, execWalkFlagAccess, execCommitAccess,
      execBookedFlagAccess, execDirectoryAccessEnd, execAccountRequestAccess, execRetireScanRead,
      execRetireFinalAccess, execCloseScanAccess, execBookedPassAccess, execBalanceRead, execLookPointRead,
      execScrubTimerExpiry, execScrubCheck, execRetireCheckAccess] at h
    case powerOn a b =>
      cases h
      exact hs.powerOn a b
    case supplyFail => exact hs.kept (by simp [supplyFails]) h
    case linkFrame bytes => exact hs.whenRunning (hs.foldl (fun s b hs => hs.linkByte b) bytes) h
    case responseSent => exact hs.kept rfl h
    case pollSent => exact hs.kept rfl h
    case lineFrameEnd bytes => exact hs.kept (holders_foldl holders_lineByte _ _) h
    case replyWaitExpiry => exact hs.kept (by simp) h
    case lineDeadNotice => exact hs.kept (by simp) h
    case lineAliveNotice => exact hs.kept rfl h
    case crownReply k c => exact hs.whenRunning (OrdersStacked.crownReply (s := s.taken _) hs k c) h
    case moveTimerExpiry k => exact hs.whenRunning (hs.moveTimerExpires k) h
    case crownSilentNotice k => exact hs.whenRunning (OrdersStacked.crownSilent (s := s.taken _) hs k) h
    case automaticDraw k d => exact hs.whenRunning (OrdersStacked.automaticDraw (s := s.taken _) hs k d) h
    case autoJoinAnswer k d r => exact hs.kept (by simp) h
    case holderValuesNotice n => exact hs.kept (by simp) h
    case joinPendingNotice n d => exact hs.kept (by simp) h
    case joinNotice n d => exact hs.whenRunning ((hs.of_holders (holders_takesNotice ..)).moveTaken _ _) h
    case leaveNotice n => exact hs.whenRunning ((hs.of_holders (holders_takesNotice ..)).moveTaken _ _) h
    case withdrawPendingNotice n d => exact hs.kept (by simp) h
    case removeNotice n => exact hs.kept (by simp) h
    case standingNotice n => exact hs.kept (by simp) h
    case minuteEvent => exact OrdersStacked.kept (s := s.modYard Yard.tickMinute) hs (by simp) h
    case governorReply d r => exact hs.kept (by simp) h
    case telltaleReply d p => exact hs.kept (by simp) h
    case governorSilentNotice d => exact hs.kept rfl h
    case telltaleSilentNotice d => exact hs.kept rfl h
    case barometerReply v => exact hs.kept rfl h
    case meterReply a r => exact hs.kept (by simp) h
    case walkTableRead flaws => exact hs.bookingCommand holders_walkWork h
    case walkFlagAccess flaws => exact hs.bookingCommand holders_walkWork h
    case commitAccess flaws => exact hs.bookingCommand holders_commitWork h
    case bookedFlagAccess flaws => exact hs.bookingCommand holders_markWork h
    case scrubTimerExpiry => exact hs.kept (by simp) h
    case scrubCheck flaws =>
      refine hs.storeCommand (fun u hu => hu.of_holders ?_) h
      split <;> simp
    all_goals exact hs.storeCommand (fun u hu => hu.headAccessEnds _) h

end Sys2Proof.OrderStacks

namespace Sys2Proof

/-- Settles O8: the queue's front command keeps every order stack in order. -/
theorem nextOrderStandsBehindAnActiveOne : Obligations.NextOrderStandsBehindAnActiveOne := by
  unfold Obligations.NextOrderStandsBehindAnActiveOne
  intro s t hs h
  rw [OrderStacks.ordersSound_iff] at hs ⊢
  unfold Machine.step at h
  split at h
  · cases h
    exact hs
  · rename_i rest _
    have hrest : OrderStacks.OrdersStacked { s with pending := rest } := hs
    exact hrest.exec h

end Sys2Proof

/-! PROOFS. Requests on a holder (03 R38): the holder a number names, the two immediate ones, STOP and ISOLATE (R56 to R58), and what
ISOLATE makes of each state (O21, O22). -/

namespace Sys2Proof.HolderRequests

open Sys2Proof.Machine Sys2Proof.Safety Sys2Proof.HolderWork

/-! ### The holder a number names -/

theorem onFitted_of_le {n : Nat} (s : State) (f : HolderId → Result × State) (hn : 6 ≤ n) : onFitted n s f = (.noRecord, s) := by
  rw [onFitted, Looks.holderOf_of_le hn]

theorem onFitted_of_unfitted {s : State} {h : HolderId} (f : HolderId → Result × State) (hf : (s.holder h).fitted = false) :
    onFitted h s f = (.noRecord, s) := by
  simp [onFitted, Looks.holderOf_val, hf]

theorem onFitted_of_fitted {s : State} {h : HolderId} (f : HolderId → Result × State) (hf : (s.holder h).fitted = true) :
    onFitted h s f = f h := by
  simp [onFitted, Looks.holderOf_val, hf]

/-! ### Immediate requests -/

/-- An immediate request of a part that takes it: its action, then its response (11 R196). -/
theorem exec_of_immediate {i : Instr} {s t : State} {tag : Byte} {q : Request} {result : Result} (hi : i.request = some (tag, q))
    (hs : Takes s) (him : immediate tag q s = some (respond tag q.code result [] t)) :
    exec i s = .next (withResponse t tag q.code result []) := by
  obtain ⟨hrun, hroom⟩ := hs
  rw [exec_of_request hi, whenRunning_of_running _ hrun, requestArrives_of_immediate hroom him]
  rfl

theorem exec_stop {s t : State} {tag : Byte} {n : Nat} {result : Result} (hs : Takes s) (h : stopHolder n s = (result, t)) :
    exec (.stop tag n) s = .next (withResponse t tag 0x13 result []) :=
  exec_of_immediate (q := .stop n) rfl hs (by rw [immediate, h])

theorem exec_isolate {s t : State} {tag : Byte} {n : Nat} {result : Result} (hs : Takes s) (h : isolateHolder n s = (result, t)) :
    exec (.isolate tag n) s = .next (withResponse t tag 0x14 result []) :=
  exec_of_immediate (q := .isolate n) rfl hs (by rw [immediate, h])

/-- Settles O21: STOP of a fitted holder, and its two refusals. -/
theorem stopEmptiesTheOrderStack : Obligations.StopEmptiesTheOrderStack := by
  unfold Obligations.StopEmptiesTheOrderStack
  intro s tag hs
  refine ⟨fun h hf => exec_stop hs ?_, fun h hf => exec_stop hs (onFitted_of_unfitted _ hf),
    fun n hn => exec_stop hs (onFitted_of_le s _ hn)⟩
  rw [stopHolder, onFitted_of_fitted _ hf]
  simp only [State.modHolder_eq, Holder.discardOrders, Bool.or_assoc]

/-! ### Moves that start -/

/-- A move under way does not start again (03 R46). -/
theorem startMove_of_started {s : State} {h : HolderId} {c : ChangeOver} (ps : List Part) (hc : (s.holder h).changeOver = some c)
    (hs : c.started = true) : startMove h ⟨s, ps⟩ = ⟨s, ps⟩ := by
  simp [startMove, hc, hs]

/-- A valve move sets the intent, places the drive and starts the timer (03 R46). -/
theorem startMove_of_valve {s : State} {h : HolderId} {c : ChangeOver} {m : Move} {w : Which} {v : Valve} (ps : List Part)
    (hc : (s.holder h).changeOver = some c) (hs : c.started = false) (hm : s.yard.mode ≠ .hold ∨ c.target = .isolated)
    (hmove : c.moves[c.step]? = some m) (hv : m.valve = some (w, v)) :
    startMove h ⟨s, ps⟩ = ⟨(s.setHolder h { (s.holder h).setIntent w v with
      changeOver := some { c with started := true, timer := some (s.holder h).travel } }).setDrive h (some (driveOf w v)), ps⟩ := by
  have hfree : ¬ (c.started = true ∨ s.yard.mode = .hold ∧ c.target ≠ .isolated) := by
    rcases hm with hm | hm <;> simp [hs, hm]
  simp only [startMove, holder_eq, hc, if_neg hfree, hmove, hv, mod_eq, drive_eq]

/-- A leave is told to DIC (03 R46, R48). -/
theorem startMove_of_leave {s : State} {h : HolderId} {c : ChangeOver} (ps : List Part)
    (hc : (s.holder h).changeOver = some c) (hs : c.started = false) (hm : s.yard.mode ≠ .hold ∨ c.target = .isolated)
    (hmove : c.moves[c.step]? = some .leave) : startMove h ⟨s, ps⟩
      = ⟨s.setHolder h { s.holder h with changeOver := some { c with started := true } }, ps ++ [.leave]⟩ := by
  have hfree : ¬ (c.started = true ∨ s.yard.mode = .hold ∧ c.target ≠ .isolated) := by
    rcases hm with hm | hm <;> simp [hs, hm]
  simp only [startMove, holder_eq, hc, if_neg hfree, hmove, Move.valve, mod_eq, tell_eq]

/-- ISOLATED is reached: its flag is set, and DIC is told nothing (03 R37, R58). -/
theorem reachTarget_isolated (h : HolderId) (s : State) (ps : List Part) : reachTarget h .isolated ⟨s, ps⟩
    = ⟨s.setHolder h { s.holder h with changeOver := none, state := .isolated, isolated := true }, ps⟩ := by
  simp [reachTarget, Target.state]

/-- The join that a move list holds is the district it aims at (03 R48). -/
theorem aimsAt_eq (ms : List Move) : aimsAt ms = ms.findSome? Move.district := by
  induction ms with
  | nil => rfl
  | cons m ms ih => cases m <;> simp [aimsAt, List.findSome?_cons, Move.district, ih]

/-! ### ISOLATE -/

/-- What ISOLATE finds of a change-over: the valve it was driving with the timer to keep, the membership it counts on, and the join
it withdraws (steps 1 to 3 of 03 R57). -/
structure Finds (s : State) (h : HolderId) (first : Option (Which × Option Nat)) (feed aim : Option DistrictId) : Prop where
  first : isolateFirst (s.holder h) = first
  feed : isolateFeed s h = feed
  aim : isolateWithdraws (s.holder h) = aim

/-- With no change-over in flight (03 R57). -/
theorem finds_of_still {s : State} {h : HolderId} (hc : (s.holder h).changeOver = none) : Finds s h none (s.feedOf h) none where
  first := by simp [isolateFirst, hc]
  feed := by simp [isolateFeed, hc]
  aim := by simp [isolateWithdraws, hc]

section
variable {s : State} {h : HolderId} {c : ChangeOver} (hc : (s.holder h).changeOver = some c)

include hc

theorem driven_of_change : (s.holder h).driven = c.current.bind Move.valve := by
  simp [Holder.driven, hc]

/-- A join aimed at and not given is withdrawn (step 3 of 03 R57). -/
theorem isolateWithdraws_of_not_given (hne : ∀ d, c.current ≠ some (.join d)) :
    isolateWithdraws (s.holder h) = c.moves.findSome? Move.district := by
  simp only [isolateWithdraws, hc, aimsAt_eq]
  cases c.moves.findSome? Move.district with
  | none => rfl
  | some d => exact if_neg (hne d)

/-- A change-over that waits to start: its join is withdrawn (03 R57, R60). -/
theorem finds_of_waiting (hs : c.started = false) : Finds s h none (s.feedOf h) (c.moves.findSome? Move.district) where
  first := by simp [isolateFirst, driven_of_change hc, hc, ChangeOver.current, hs]
  feed := by simp [isolateFeed, hc, ChangeOver.current, hs]
  aim := isolateWithdraws_of_not_given hc (by simp [ChangeOver.current, hs])

/-- A leave given counts as made (step 2 of 03 R57). -/
theorem finds_of_leaving (hs : c.started = true) (hm : c.moves[c.step]? = some .leave) :
    Finds s h none none (c.moves.findSome? Move.district) where
  first := by simp [isolateFirst, driven_of_change hc, hc, ChangeOver.current, hs, hm, Move.valve]
  feed := by simp [isolateFeed, hc, ChangeOver.current, hs, hm]
  aim := isolateWithdraws_of_not_given hc (by simp [ChangeOver.current, hs, hm])

/-- A join given counts as made (steps 2 and 3 of 03 R57). -/
theorem finds_of_joining {d : DistrictId} (hs : c.started = true) (hm : c.moves[c.step]? = some (.join d))
    (hd : c.moves.findSome? Move.district = some d) : Finds s h none (some d) none where
  first := by simp [isolateFirst, driven_of_change hc, hc, ChangeOver.current, hs, hm, Move.valve]
  feed := by simp [isolateFeed, hc, ChangeOver.current, hs, hm]
  aim := by simp [isolateWithdraws, hc, aimsAt_eq, hd, ChangeOver.current, hs, hm]

/-- A valve in motion is kept or turned round (step 1 of 03 R57). -/
theorem finds_of_moving {m : Move} {w : Which} {v : Valve} (hs : c.started = true) (hm : c.moves[c.step]? = some m)
    (hv : m.valve = some (w, v)) :
    Finds s h (some (w, if v = .closed then c.timer else some (s.holder h).travel)) (s.feedOf h) (c.moves.findSome? Move.district) where
  first := by
    have hd : (s.holder h).driven = some (w, v) := by simp [driven_of_change hc, ChangeOver.current, hs, hm, hv]
    cases v <;> simp [isolateFirst, hd, hc]
  feed := by
    simp only [isolateFeed, hc, Option.bind_some, ChangeOver.current, hs, if_true, hm]
    cases m <;> simp_all [Move.valve]
  aim := isolateWithdraws_of_not_given hc fun d hd => by
    obtain rfl : m = .join d := by simpa [ChangeOver.current, hs, hm] using hd
    simp [Move.valve] at hv

end

/-- DIC is told of a join withdrawn, if any, as the first thing (step 3 of 03 R57; log entry 6). -/
def tellWithdrawn (n : HolderNotice) (aim : Option DistrictId) (s : State) : State :=
  match aim with
  | some d => s.send (.withdrawPendingNotice n d)
  | none => s

/-- The things told of a piece of ISOLATE work: a withdrawal, then what its first move tells (03 R57; log entry 6). -/
theorem giveEach_withdrawn (s : State) (h : HolderId) (aim : Option DistrictId) (ps : List Part) :
    (⟨s, (aim.map Part.withdraw).toList ++ ps⟩ : Draft).giveEach h
      = (⟨tellWithdrawn (plainNotice s h) aim s, ps⟩ : Draft).giveEach h := by
  cases aim <;> rfl

@[simp] theorem plainNotice_tellWithdrawn (s : State) (h : HolderId) (n : HolderNotice) (aim : Option DistrictId) :
    plainNotice (tellWithdrawn n aim s) h = plainNotice s h := by
  cases aim <;> rfl

/-- ISOLATE builds its change-over in every state but RECOVERING, ISOLATED and one that it has already (03 R38, R57). -/
theorem isolateHolder_of_taken {s : State} {h : HolderId} (hf : (s.holder h).fitted = true) (hr : (s.holder h).state ≠ .recovering)
    (hi : (s.holder h).state ≠ .isolated) (hc : ∀ c, (s.holder h).changeOver = some c → c.target ≠ .isolated) :
    isolateHolder h s = (.done, (isolateWork h s).giveEach h) := by
  have hnot : ¬ ((s.holder h).state = .isolated ∨ (s.holder h).isolating = true) := by
    rintro (h' | h')
    · exact hi h'
    · unfold Holder.isolating at h'
      split at h'
      · rename_i c hcc
        exact hc c hcc (of_decide_eq_true h')
      · cases h'
  rw [isolateHolder, onFitted_of_fitted _ hf, if_neg hr, if_neg hnot]

section
variable {s : State} {h : HolderId} {feed aim : Option DistrictId}

/-- Nothing is to be moved: the holder is ISOLATED at once (03 R57, R58). -/
theorem isolateWork_of_shut (hx : Finds s h none none aim) (hi : (s.holder h).inletIntent = .closed)
    (ho : (s.holder h).outletIntent = .closed) : (isolateWork h s).giveEach h
      = tellWithdrawn ⟨h, (s.holder h).answering, (s.holder h).stagePressure, none, false, false⟩ aim
        ((s.setHolder h { s.holder h with
          active := none, next := none, activationWaits := false, changeOver := none, state := .isolated
          isolated := true }).setDrive h none) := by
  obtain ⟨hfirst, hfeed, haim⟩ := hx
  have hstart : isolateStart (s.holder h) = (s.holder h).discardOrders := by rw [isolateStart, hfirst]
  have hmoves : isolateMoves (s.holder h) none = [] := by
    simp [isolateMoves, hstart, hfirst, Holder.discardOrders, hi, ho, moveIf]
  rw [isolateWork_eq]
  simp only [hfirst, hfeed, haim, hmoves, hstart, List.isEmpty_nil, if_true, reachTarget_isolated]
  rw [← List.append_nil (Option.toList _), giveEach_withdrawn]
  simp [Holder.discardOrders]

/-- ISOLATE with no valve in motion starts its first move at once (03 R57). -/
theorem isolateWork_of_moves {m : Move} {ms : List Move} (hx : Finds s h none feed aim)
    (hm : isolateMoves (s.holder h) feed = m :: ms) : isolateWork h s
      = startMove h ⟨(s.setHolder h { s.holder h with
          active := none, next := none, activationWaits := false, changeOver := some ⟨.isolated, m :: ms, 0, false, none⟩
          state := if (s.holder h).state = .faulted then .faulted else .changing }).setDrive h none,
        (aim.map Part.withdraw).toList⟩ := by
  obtain ⟨hfirst, hfeed, haim⟩ := hx
  have hstart : isolateStart (s.holder h) = (s.holder h).discardOrders := by rw [isolateStart, hfirst]
  rw [isolateWork_eq]
  simp [hfirst, hfeed, haim, hm, hstart, Holder.discardOrders]

/-- The moves of an ISOLATE change-over with no valve in motion (03 R57). -/
theorem isolateMoves_of_still (hx : Finds s h none feed aim) : isolateMoves (s.holder h) feed
    = (if feed = none then [] else [.leave]) ++ ((if (s.holder h).outletIntent = .opened then [.closeOutlet] else [])
      ++ (if (s.holder h).inletIntent = .opened then [.closeInlet] else [])) := by
  have hstart : isolateStart (s.holder h) = (s.holder h).discardOrders := by rw [isolateStart, hx.first]
  cases feed <;> simp [isolateMoves, hstart, hx.first, Holder.discardOrders, moveIf]

/-- A holder in a feed list leaves it first (03 R57). -/
theorem isolateWork_of_feeding {d : DistrictId} (hx : Finds s h none (some d) aim) : (isolateWork h s).giveEach h
      = (tellWithdrawn ⟨h, (s.holder h).answering, (s.holder h).stagePressure, none, false, false⟩ aim
        ((s.setHolder h { s.holder h with
          active := none, next := none, activationWaits := false
          state := if (s.holder h).state = .faulted then .faulted else .changing
          changeOver := some ⟨.isolated, .leave :: ((if (s.holder h).outletIntent = .opened then [.closeOutlet] else [])
            ++ (if (s.holder h).inletIntent = .opened then [.closeInlet] else [])), 0, true, none⟩ }).setDrive h none)).send
          (.leaveNotice ⟨h, (s.holder h).answering, (s.holder h).stagePressure, none, false, false⟩) := by
  have hm := isolateMoves_of_still hx
  rw [if_neg (by simp), List.singleton_append] at hm
  rw [isolateWork_of_moves hx hm, startMove_of_leave (c := ⟨.isolated, _, 0, false, none⟩) _
    (by rw [setDrive_holder, State.holder_setHolder_self]) rfl (.inr rfl) rfl, giveEach_withdrawn]
  simp [partMessage]

/-- A holder in no feed list with an open valve closes it first (03 R57). -/
theorem isolateWork_of_open {w : Which} {ms : List Move} (hx : Finds s h none none aim)
    (hm : isolateMoves (s.holder h) none = closing w :: ms) : (isolateWork h s).giveEach h
      = tellWithdrawn ⟨h, (s.holder h).answering, (s.holder h).stagePressure, none, false, false⟩ aim
        ((s.setHolder h (Holder.setIntent { s.holder h with
          active := none, next := none, activationWaits := false
          state := if (s.holder h).state = .faulted then .faulted else .changing
          changeOver := some ⟨.isolated, closing w :: ms, 0, true, some (s.holder h).travel⟩ } w .closed)).setDrive h
            (some (driveOf w .closed))) := by
  have hv : (closing w).valve = some (w, .closed) := by cases w <;> rfl
  rw [isolateWork_of_moves hx hm, startMove_of_valve (c := ⟨.isolated, _, 0, false, none⟩) _
    (by rw [setDrive_holder, State.holder_setHolder_self]) rfl (.inr rfl) rfl hv, ← List.append_nil (Option.toList _),
    giveEach_withdrawn]
  cases w <;> simp [Holder.setIntent]

/-- The moves behind a valve in motion: the leave, and the other valve where it is open (03 R57). -/
theorem isolateMoves_of_moving {w : Which} {t : Option Nat} (hx : Finds s h (some (w, t)) feed aim) :
    isolateMoves (s.holder h) feed = closing w :: ((if feed = none then [] else [.leave])
      ++ (if (s.holder h).intent (CrownReplies.other w) = .opened then [closing (CrownReplies.other w)] else [])) := by
  have hstart : isolateStart (s.holder h) = (s.holder h).discardOrders.setIntent w .closed := by rw [isolateStart, hx.first]
  cases w <;> cases feed <;>
    simp [isolateMoves, hstart, hx.first, Holder.discardOrders, Holder.setIntent, moveIf, CrownReplies.other, Holder.intent, closing] <;>
    rfl

/-- A valve in motion is the first move, under way already (step 1 of 03 R57). -/
theorem isolateWork_of_moving {w : Which} {t : Option Nat} (hx : Finds s h (some (w, t)) feed aim) : (isolateWork h s).giveEach h
      = tellWithdrawn ⟨h, (s.holder h).answering, (s.holder h).stagePressure, none, false, false⟩ aim
        ((s.setHolder h (Holder.setIntent { s.holder h with
          active := none, next := none, activationWaits := false
          state := if (s.holder h).state = .faulted then .faulted else .changing
          changeOver := some ⟨.isolated, closing w :: ((if feed = none then [] else [.leave])
            ++ (if (s.holder h).intent (CrownReplies.other w) = .opened then [closing (CrownReplies.other w)] else [])),
            0, true, t⟩ } w .closed)).setDrive h (some (driveOf w .closed))) := by
  have hm := isolateMoves_of_moving hx
  obtain ⟨hfirst, hfeed, haim⟩ := hx
  have hstart : isolateStart (s.holder h) = (s.holder h).discardOrders.setIntent w .closed := by rw [isolateStart, hfirst]
  rw [isolateWork_eq]
  simp only [hfirst, hfeed, haim, hm, hstart, List.isEmpty_cons, Bool.false_eq_true, if_false, mod_eq]
  generalize (if feed = none then [] else [Move.leave]) ++ (if (s.holder h).intent (CrownReplies.other w) = .opened then
    [closing (CrownReplies.other w)] else []) = ms
  rw [startMove_of_started (c := ⟨.isolated, closing w :: ms, 0, true, t⟩) _ (by simp) rfl, ← List.append_nil (Option.toList _),
    giveEach_withdrawn]
  cases w <;> simp [Holder.setIntent, Holder.discardOrders]

end

theorem tellWithdrawn_eq (n : HolderNotice) (aim : Option DistrictId) :
    tellWithdrawn n aim = fun t => match aim with
      | some d => t.send (.withdrawPendingNotice n d)
      | none => t := by
  funext t
  cases aim <;> rfl

/-- Settles O22: the refusals, the immediate answers, and the change-over built from what ISOLATE finds. -/
theorem isolateShutsTheHolder : Obligations.IsolateShutsTheHolder := by
  unfold Obligations.IsolateShutsTheHolder
  intro s tag h hs
  have taken {t : State} (hf : (s.holder h).fitted = true) (hr : (s.holder h).state ≠ .recovering)
      (hi : (s.holder h).state ≠ .isolated) (hc : ∀ c, (s.holder h).changeOver = some c → c.target ≠ .isolated)
      (ht : (isolateWork h s).giveEach h = t) : exec (.isolate tag h) s = .next (withResponse t tag 0x14 .done []) :=
    exec_isolate hs ((isolateHolder_of_taken hf hr hi hc).trans (by rw [ht]))
  have still (hc : (s.holder h).changeOver = none) (c : ChangeOver) (hcc : (s.holder h).changeOver = some c) :
      c.target ≠ .isolated := by simp [hc] at hcc
  refine ⟨fun n hn => exec_isolate hs (onFitted_of_le s _ hn), fun hf => exec_isolate hs (onFitted_of_unfitted _ hf),
    fun hf hr => exec_isolate hs ?_, fun hf hi => exec_isolate hs ?_, fun c hf hr hc ht => exec_isolate hs ?_,
    fun hf hst hc hfeed hi ho => ?_, fun hf hst hc hfeed hi ho => ?_, fun d hf hst hc hfeed hi ho => ?_,
    fun c m told hf hst hc ht hs' hm htold => ⟨fun hv => ?_, fun hv => ?_⟩,
    fun feed aim st told hf hr hi hx hst htold => ?_⟩
  · rw [isolateHolder, onFitted_of_fitted _ hf, if_pos hr]
  · rw [isolateHolder, onFitted_of_fitted _ hf, if_neg (by simp [hi]), if_pos (.inl hi)]
  · rw [isolateHolder, onFitted_of_fitted _ hf, if_neg hr, if_pos (.inr (by simp [Holder.isolating, hc, ht]))]
  · have hx : Finds s h none none none := hfeed ▸ finds_of_still hc
    refine taken hf (by simp [hst]) (by simp [hst]) (still hc) ?_
    rw [isolateWork_of_shut hx hi ho]
    simp [tellWithdrawn, hc]
  · have hx : Finds s h none none none := hfeed ▸ finds_of_still hc
    refine taken hf (by simp [hst]) (by simp [hst]) (still hc) ?_
    rw [isolateWork_of_open (w := .inlet) (ms := []) hx (by simp [isolateMoves_of_still hx, hi, ho, closing])]
    simp [tellWithdrawn, hst, Holder.setIntent, closing, driveOf]
  · have hx : Finds s h none (some d) none := hfeed ▸ finds_of_still hc
    refine taken hf (by simp [hst]) (by simp [hst]) (still hc) ?_
    rw [isolateWork_of_feeding hx]
    simp [tellWithdrawn, hst, hi, ho]
  · obtain rfl := htold.trans (tellWithdrawn_eq _ _).symm
    refine taken hf (by simp [hst]) (by simp [hst]) (by simpa [hc] using ht) ?_
    rcases hv with rfl | rfl <;> rw [isolateWork_of_moving (finds_of_moving hc hs' hm rfl)] <;>
      simp [hst, Holder.setIntent, CrownReplies.other, Holder.intent, closing, driveOf] <;> rfl
  · obtain rfl := htold.trans (tellWithdrawn_eq _ _).symm
    refine taken hf (by simp [hst]) (by simp [hst]) (by simpa [hc] using ht) ?_
    rcases hv with rfl | rfl <;> rw [isolateWork_of_moving (finds_of_moving hc hs' hm rfl)] <;>
      simp [hst, Holder.setIntent, CrownReplies.other, Holder.intent, closing, driveOf] <;> rfl
  · obtain rfl := htold.trans (tellWithdrawn_eq _ _).symm
    subst hst
    have hfinds : Finds s h none feed aim ∧ ∀ c, (s.holder h).changeOver = some c → c.target ≠ .isolated := by
      rcases hx with ⟨hc, rfl, rfl⟩ | ⟨c, hc, ht, rfl, ⟨hs', rfl⟩ | ⟨hs', hm, rfl⟩⟩ | ⟨c, d, hc, ht, hs', hm, hd, rfl, rfl⟩
      · exact ⟨finds_of_still hc, still hc⟩
      · exact ⟨finds_of_waiting hc hs', by simpa [hc] using ht⟩
      · exact ⟨finds_of_leaving hc hs' hm, by simpa [hc] using ht⟩
      · exact ⟨finds_of_joining hc hs' hm hd, by simpa [hc] using ht⟩
    obtain ⟨hx, htarget⟩ := hfinds
    refine ⟨fun hfeed hin hout => taken hf hr hi htarget ?_, fun hfeed => taken hf hr hi htarget ?_,
      fun hfeed hout => taken hf hr hi htarget ?_, fun hfeed hout hin => taken hf hr hi htarget ?_⟩
    · subst hfeed
      exact isolateWork_of_shut hx hin hout
    · obtain ⟨d, rfl⟩ := Option.ne_none_iff_exists'.1 hfeed
      exact isolateWork_of_feeding hx
    · subst hfeed
      rw [isolateWork_of_open (w := .outlet) hx (by simp [isolateMoves_of_still hx, hout, closing]; rfl)]
      simp [Holder.setIntent, closing, driveOf]
    · subst hfeed
      rw [isolateWork_of_open (w := .inlet) (ms := []) hx (by simp [isolateMoves_of_still hx, hout, hin, closing])]
      simp [Holder.setIntent, closing, driveOf]

end Sys2Proof.HolderRequests

/-! PROOFS. Orders of a holder (03 R38 to R53): placing, activation, the change-over an order builds, tracking, REPEAT and RETURN
(O28, O29, O53). -/

namespace Sys2Proof.HolderOrders

open Sys2Proof.Machine Sys2Proof.Safety Sys2Proof.HolderWork Sys2Proof.HolderRequests Sys2Proof.CrownReplies

/-! ### Holder work reads nothing of REX -/

/-- The state with another record of REX. -/
def withRex (x : Rex) (s : State) : State := { s with rex := x }

/-- Holder work in progress on the state with another record of REX. -/
def draftWithRex (x : Rex) (d : Draft) : Draft := ⟨withRex x d.s, d.parts⟩

section
variable (x : Rex)

@[simp] theorem holder_withRex (s : State) (h : HolderId) : (withRex x s).holder h = s.holder h := rfl
@[simp] theorem yard_withRex (s : State) : (withRex x s).yard = s.yard := rfl
@[simp] theorem feedOf_withRex (s : State) (h : HolderId) : (withRex x s).feedOf h = s.feedOf h := rfl
@[simp] theorem setHolder_withRex (s : State) (h : HolderId) (r : Holder) :
    (withRex x s).setHolder h r = withRex x (s.setHolder h r) := rfl
@[simp] theorem s_draftWithRex (d : Draft) : (draftWithRex x d).s = withRex x d.s := rfl
@[simp] theorem holder_draftWithRex (d : Draft) (h : HolderId) : (draftWithRex x d).holder h = d.holder h := rfl
@[simp] theorem mod_draftWithRex (d : Draft) (h : HolderId) (f : Holder → Holder) :
    (draftWithRex x d).mod h f = draftWithRex x (d.mod h f) := rfl
@[simp] theorem tell_draftWithRex (d : Draft) (p : Part) : (draftWithRex x d).tell p = draftWithRex x (d.tell p) := rfl
@[simp] theorem drive_draftWithRex (d : Draft) (h : HolderId) (v : Option Drive) :
    (draftWithRex x d).drive h v = draftWithRex x (d.drive h v) := rfl
@[simp] theorem checkOrder_withRex (s : State) (h : HolderId) (o : Order) : checkOrder (withRex x s) h o = checkOrder s h o := rfl
@[simp] theorem activationFails_withRex (s : State) (h : HolderId) (o : Order) :
    activationFails (withRex x s) h o = activationFails s h o := rfl
@[simp] theorem inWorkingState_withRex (s : State) (h : HolderId) (t : Target) :
    inWorkingState (withRex x s) h t = inWorkingState s h t := rfl

@[simp] theorem giveEach_draftWithRex (h : HolderId) (d : Draft) : (draftWithRex x d).giveEach h = withRex x (d.giveEach h) := by
  obtain ⟨s, ps⟩ := d
  induction ps generalizing s with
  | nil => rfl
  | cons p ps ih => exact ih (s.send (partMessage (plainNotice s h) p))

/-- A function passes through a choice whose two outcomes it passes through. -/
theorem ite_commutes {α β : Type} (f : α → β) {p : Prop} {i j : Decidable p} {a b : α} {a' b' : β}
    (ha : p → a' = f a) (hb : ¬ p → b' = f b) : @ite β p i a' b' = f (@ite α p j a b) := by
  by_cases hp : p
  · rw [if_pos hp, if_pos hp, ha hp]
  · rw [if_neg hp, if_neg hp, hb hp]

@[simp] theorem startMove_withRex (h : HolderId) (d : Draft) : startMove h (draftWithRex x d) = draftWithRex x (startMove h d) := by
  unfold startMove
  rw [holder_draftWithRex]
  cases (d.holder h).changeOver with
  | none => rfl
  | some c =>
    refine ite_commutes (draftWithRex x) (fun _ => rfl) fun _ => ?_
    cases c.moves[c.step]? with
    | none => rfl
    | some m => cases m <;> rfl

@[simp] theorem reachTarget_withRex (h : HolderId) (t : Target) (d : Draft) :
    reachTarget h t (draftWithRex x d) = draftWithRex x (reachTarget h t d) := by
  unfold reachTarget
  split <;> rfl

@[simp] theorem build_withRex (h : HolderId) (t : Target) (d : Draft) :
    build h t (draftWithRex x d) = draftWithRex x (build h t d) := by
  unfold build
  refine ite_commutes (draftWithRex x) (fun _ => reachTarget_withRex x h t d) fun _ => ?_
  rw [← startMove_withRex, holder_draftWithRex, s_draftWithRex, feedOf_withRex]
  split <;> rfl

@[simp] theorem settle_withRex (n : Nat) (h : HolderId) (d : Draft) : settle n h (draftWithRex x d) = draftWithRex x (settle n h d) := by
  induction n generalizing d with
  | zero => rfl
  | succ n ih =>
    unfold settle
    dsimp only [holder_draftWithRex]
    cases (d.holder h).active with
    | none => rfl
    | some o =>
      have hd : (if (d.holder h).activationWaits = true then (draftWithRex x d).mod h (·.activate o) else draftWithRex x d)
          = draftWithRex x (if (d.holder h).activationWaits = true then d.mod h (·.activate o) else d) :=
        ite_commutes (draftWithRex x) (fun _ => rfl) fun _ => rfl
      dsimp only
      rw [hd]
      exact ite_commutes (draftWithRex x) (fun _ => by rw [mod_draftWithRex, ih]) fun _ =>
        ite_commutes (draftWithRex x) (fun _ => build_withRex ..) fun _ => ite_commutes (draftWithRex x) (fun _ => rfl) fun _ =>
        ite_commutes (draftWithRex x) (fun _ => by rw [mod_draftWithRex, ih]) fun _ => rfl

/-- An answer with the state after it, over another record of REX. -/
def answerWithRex (x : Rex) (a : Result × State) : Result × State := (a.1, withRex x a.2)

theorem place_withRex (h : HolderId) (o : Order) (s : State) : place h o (withRex x s) = answerWithRex x (place h o s) := by
  have hd : (withRex x s).draft = draftWithRex x s.draft := rfl
  unfold place
  dsimp only
  rw [holder_withRex, hd]
  split
  · refine congrArg (Prod.mk Result.done) ((congrArg (Draft.giveEach · h) ?_).trans (giveEach_draftWithRex x h _))
    exact ite_commutes (draftWithRex x) (fun _ => rfl) fun _ => by rw [mod_draftWithRex, settle_withRex]
  · refine congrArg (Prod.mk Result.done) ((congrArg (Draft.giveEach · h) ?_).trans (giveEach_draftWithRex x h _))
    exact ite_commutes (draftWithRex x) (fun _ => by rw [mod_draftWithRex, settle_withRex]) fun _ => rfl
  · rfl

theorem tryOrder_withRex (h : HolderId) (o : Order) (s : State) :
    tryOrder h o (withRex x s) = answerWithRex x (tryOrder h o s) := by
  unfold tryOrder
  rw [checkOrder_withRex]
  split
  · rfl
  · exact place_withRex x h o s

theorem onFitted_withRex {f : State → HolderId → Result × State} (n : Nat) (s : State)
    (hf : ∀ h, f (withRex x s) h = answerWithRex x (f s h)) :
    onFitted n (withRex x s) (f (withRex x s)) = answerWithRex x (onFitted n s (f s)) := by
  unfold onFitted
  split
  · rfl
  · rw [holder_withRex]
    split
    · exact hf _
    · rfl

theorem order_withRex (n : Nat) (kind : OrderKind) (district quantity : Option Nat) (endAction : Option EndAction) (s : State) :
    order n kind district quantity endAction (withRex x s) = answerWithRex x (order n kind district quantity endAction s) := by
  refine onFitted_withRex x (f := fun s h => if !(s.holder h).takesOrders then (.wrongState, s)
    else match spelledOrder kind district quantity endAction with
      | .inl refusal => (refusal, s)
      | .inr o => tryOrder h o s) n s fun h => ?_
  refine ite_commutes (answerWithRex x) (fun _ => rfl) fun _ => ?_
  split
  · rfl
  · exact tryOrder_withRex x h _ s

theorem repeatLast_withRex (n : Nat) (s : State) : repeatLast n (withRex x s) = answerWithRex x (repeatLast n s) := by
  refine onFitted_withRex x (f := fun s h => if !(s.holder h).takesOrders then (.wrongState, s)
    else match (s.holder h).lastOrder with
      | none => (.noRecord, s)
      | some o => tryOrder h o s) n s fun h => ?_
  refine ite_commutes (answerWithRex x) (fun _ => rfl) fun _ => ?_
  rw [holder_withRex]
  split
  · rfl
  · exact tryOrder_withRex x h _ s

theorem returnToService_withRex (n : Nat) (s : State) : returnToService n (withRex x s) = answerWithRex x (returnToService n s) := by
  refine onFitted_withRex x (f := fun s h => if !returnable (s.holder h) then (.wrongState, s)
    else (.done, ((s.draft.mod h fun r => { r with
      inletIntent := .closed, outletIntent := .closed, isolated := false, faulted := false, faultReason := none, faultStep := 0
      state := .standing }).tell .standing).giveEach h)) n s fun h => ?_
  exact ite_commutes (answerWithRex x) (fun _ => rfl) fun _ => rfl

end

/-- Work that does not read REX leaves it alone. -/
theorem rex_of_withRex {f : State → Result × State} (hf : ∀ x s, f (withRex x s) = answerWithRex x (f s)) (s : State) :
    (f s).2.rex = s.rex := by
  have h := hf s.rex s
  have hs : withRex s.rex s = s := rfl
  rw [hs] at h
  rw [h]
  rfl

/-- A request on a holder of a part that is ready is answered at its start, by work that does not read REX (11 R194). -/
theorem exec_of_holderRequest {i : Instr} {s : State} {tag : Byte} {q : Request} {f : State → Result × State}
    (hi : i.request = some (tag, q)) (hr : Ready s) (him : immediate tag q s = none) (ha : admits q s.yard.mode = true)
    (hq : ∀ t, startRequest q t = atOnce (f t)) (hf : ∀ x s, f (withRex x s) = answerWithRex x (f s)) :
    exec i s = .next (withResponse (f s).2 tag q.code (f s).1 []) := by
  have hx := rex_of_withRex hf s
  refine exec_of_answered hi hr him ha ?_ hx
  have hhead (t : State) (ht : t.rex = s.rex) : headState t tag q = withRex (headState s tag q).rex t := by
    simp only [headState, State.modRex, withRex, ht]
  rw [hq, hhead s rfl, hf, hhead _ hx]
  rfl

theorem exec_order {s : State} {tag : Byte} (n : Nat) (kind : OrderKind) (district quantity : Option Nat)
    (endAction : Option EndAction) (hr : Ready s) (hm : s.yard.mode = .working) {result : Result} {t : State}
    (ho : order n kind district quantity endAction s = (result, t)) :
    exec (.order tag n kind district quantity endAction) s = .next (withResponse t tag 0x10 result []) := by
  rw [exec_of_holderRequest (f := order n kind district quantity endAction) rfl hr rfl (by rw [hm]; rfl) (fun _ => rfl)
    (fun x t => order_withRex x n kind district quantity endAction t), ho]
  rfl

theorem exec_repeatOrder {s : State} {tag : Byte} {n : Nat} (hr : Ready s) (hm : s.yard.mode = .working) {result : Result} {t : State}
    (ho : repeatLast n s = (result, t)) : exec (.repeatOrder tag n) s = .next (withResponse t tag 0x11 result []) := by
  rw [exec_of_holderRequest (f := repeatLast n) rfl hr rfl (by rw [hm]; rfl) (fun _ => rfl) (fun x t => repeatLast_withRex x n t), ho]
  rfl

theorem exec_returnHolder {s : State} {tag : Byte} {n : Nat} (hr : Ready s) {result : Result} {t : State}
    (ho : returnToService n s = (result, t)) : exec (.returnHolder tag n) s = .next (withResponse t tag 0x12 result []) := by
  rw [exec_of_holderRequest (f := returnToService n) rfl hr rfl (by cases hm : s.yard.mode <;> rfl) (fun _ => rfl)
    (fun x t => returnToService_withRex x n t), ho]
  rfl

/-! ### Orders refused -/

/-- A state whose ORDER column takes none (03 R38). -/
theorem takesOrders_of_state {r : Holder} (hs : r.state = .recovering ∨ r.state = .isolated ∨ r.state = .faulted) :
    r.takesOrders = false := by
  rcases hs with hs | hs | hs <;> simp [Holder.takesOrders, hs]

/-- An ISOLATE change-over takes no order (03 R38). -/
theorem takesOrders_of_isolating {r : Holder} {c : ChangeOver} (hs : r.state = .changing) (hc : r.changeOver = some c)
    (ht : c.target = .isolated) : r.takesOrders = false := by
  simp [Holder.takesOrders, hs, Holder.isolating, hc, ht]

/-- An ordinary change-over takes orders (03 R38). -/
theorem takesOrders_of_changing {r : Holder} {c : ChangeOver} (hs : r.state = .changing) (hc : r.changeOver = some c)
    (ht : c.target ≠ .isolated) : r.takesOrders = true := by
  simp [Holder.takesOrders, hs, Holder.isolating, hc, ht]

theorem takesOrders_of_standing {r : Holder} (hs : r.state = .standing) : r.takesOrders = true := by
  simp [Holder.takesOrders, hs]

theorem takesOrders_of_drawing {r : Holder} (hs : r.state = .drawing) : r.takesOrders = true := by
  simp [Holder.takesOrders, hs]

section
variable {s : State} {h : HolderId} (hf : (s.holder h).fitted = true)

include hf

theorem order_of_untaken (kind : OrderKind) (district quantity : Option Nat) (endAction : Option EndAction)
    (ht : (s.holder h).takesOrders = false) : order h kind district quantity endAction s = (.wrongState, s) := by
  simp [order, onFitted_of_fitted _ hf, ht]

theorem order_of_spelled {kind : OrderKind} {district quantity : Option Nat} {endAction : Option EndAction} {o : Order}
    (ht : (s.holder h).takesOrders = true) (ho : spelledOrder kind district quantity endAction = .inr o) :
    order h kind district quantity endAction s = tryOrder h o s := by
  simp [order, onFitted_of_fitted _ hf, ht, ho]

theorem order_of_unspelled {kind : OrderKind} {district quantity : Option Nat} {endAction : Option EndAction} {refusal : Result}
    (ht : (s.holder h).takesOrders = true) (ho : spelledOrder kind district quantity endAction = .inl refusal) :
    order h kind district quantity endAction s = (refusal, s) := by
  simp [order, onFitted_of_fitted _ hf, ht, ho]

theorem repeatLast_of_untaken (ht : (s.holder h).takesOrders = false) : repeatLast h s = (.wrongState, s) := by
  simp [repeatLast, onFitted_of_fitted _ hf, ht]

theorem repeatLast_of_none (ht : (s.holder h).takesOrders = true) (hl : (s.holder h).lastOrder = none) :
    repeatLast h s = (.noRecord, s) := by
  simp [repeatLast, onFitted_of_fitted _ hf, ht, hl]

theorem repeatLast_of_last {o : Order} (ht : (s.holder h).takesOrders = true) (hl : (s.holder h).lastOrder = some o) :
    repeatLast h s = tryOrder h o s := by
  simp [repeatLast, onFitted_of_fitted _ hf, ht, hl]

end

theorem tryOrder_of_refused {s : State} {h : HolderId} {o : Order} {refusal : Result} (hc : checkOrder s h o = some refusal) :
    tryOrder h o s = (refusal, s) := by
  rw [tryOrder, hc]

theorem tryOrder_of_passed {s : State} {h : HolderId} {o : Order} (hc : checkOrder s h o = none) : tryOrder h o s = place h o s := by
  rw [tryOrder, hc]

/-! ### The fields of an order -/

theorem spelled_fill {q : Option Nat} (hq : optWithin 1 16000000 q = true) (e : Option EndAction) :
    spelledOrder .fill none q e = .inr ⟨.fill, none, q, .stand, false⟩ := by
  simp [spelledOrder, hq]

theorem spelled_draw {q : Option Nat} (hq : optWithin 1 16000000 q = true) (d : DistrictId) (e : Option EndAction) :
    spelledOrder .draw (some d) q e = .inr ⟨.draw, some d, q, e.getD .stand, false⟩ := by
  simp [spelledOrder, hq, Looks.districtOf_val]

theorem spelled_float (d : DistrictId) (q : Option Nat) (e : Option EndAction) :
    spelledOrder .float (some d) q e = .inr ⟨.float, some d, none, .stand, false⟩ := by
  simp [spelledOrder, Looks.districtOf_val]

/-- A DRAW or FLOAT of no district is RANGE (03 R39; log entry 15). -/
theorem unspelled_of_no_district {kind : OrderKind} (hk : kind = .draw ∨ kind = .float) (q : Option Nat) (e : Option EndAction) :
    spelledOrder kind none q e = .inl .range := by
  rcases hk with rfl | rfl <;> rfl

/-- A district above 7 is NO-RECORD (03 R39). -/
theorem unspelled_of_le {kind : OrderKind} (hk : kind = .draw ∨ kind = .float) {n : Nat} (hn : 8 ≤ n) (q : Option Nat)
    (e : Option EndAction) : spelledOrder kind (some n) q e = .inl .noRecord := by
  rcases hk with rfl | rfl <;> simp [spelledOrder, Looks.districtOf_of_le hn]

/-! ### The checks of 03 R41 -/

/-- The joins that hold a place in a district, counted (03 R41, R48). -/
theorem joinsHeld_eq (s : State) (d : DistrictId) : joinsHeld s d = (s.reserved d).length := by
  have haims (g : HolderId) : (s.holder g).aims d
      = decide ((((s.holder g).changeOver.map (·.moves)).getD []).findSome? Move.district = some d) := by
    unfold Holder.aims
    cases (s.holder g).changeOver with
    | none => rfl
    | some c => simp [aimsAt_eq]
  simp only [joinsHeld, State.reserved, haims]

theorem checkOrder_of_kind {s : State} {h : HolderId} {o : Order} {d : DistrictId} (hk : o.kind = .draw ∨ o.kind = .float)
    (hd : o.district = some d) : checkOrder s h o = checkDistrict s h o.kind d := by
  rcases hk with hk | hk <;> simp [checkOrder, hk, hd]

theorem checkDistrict_of_state {s : State} {h : HolderId} {d : DistrictId} (kind : OrderKind)
    (hs : (s.district d).state = .out ∨ (s.district d).state = .tripped) : checkDistrict s h kind d = some .wrongState := by
  simp [checkDistrict, hs]

section
variable {s : State} {h : HolderId} {d : DistrictId} {kind : OrderKind} (hout : (s.district d).state ≠ .out)
  (htrip : (s.district d).state ≠ .tripped)

include hout htrip

theorem checkDistrict_of_full (hother : kind = .float → s.feedsElsewhere h d = false) (hn : h ∉ (s.district d).feeds)
    (hfull : 3 ≤ (s.district d).feeds.length + joinsHeld s d) : checkDistrict s h kind d = some .full := by
  have hnot : (decide (kind = .float) && s.feedsElsewhere h d) = false := by
    cases kind <;> simp [hother]
  rw [joinsHeld_eq] at hfull
  simp [checkDistrict, hout, htrip, hnot, hn, Config.maxFeeds, hfull]

theorem checkDistrict_of_room (hother : kind = .float → s.feedsElsewhere h d = false)
    (hroom : h ∈ (s.district d).feeds ∨ (s.district d).feeds.length + joinsHeld s d < 3) : checkDistrict s h kind d = none := by
  have hnot : (decide (kind = .float) && s.feedsElsewhere h d) = false := by
    cases kind <;> simp [hother]
  have hfree : ¬ (h ∉ (s.district d).feeds ∧ Config.maxFeeds ≤ (s.district d).feeds.length + (s.reserved d).length) := by
    rw [joinsHeld_eq] at hroom
    rintro ⟨hn, hle⟩
    rcases hroom with hin | hlt
    · exact hn hin
    · exact absurd hle (Nat.not_le.2 hlt)
  simp [checkDistrict, hout, htrip, hnot, hfree]

end

/-- The checks read a holder's change-over and nothing else of its record (03 R41). -/
theorem checkOrder_setHolder {s : State} {h : HolderId} {r : Holder} (o : Order) (hr : r.changeOver = (s.holder h).changeOver) :
    checkOrder (s.setHolder h r) h o = checkOrder s h o := by
  have haims (d : DistrictId) (g : HolderId) : ((s.setHolder h r).holder g).aims d = (s.holder g).aims d := by
    by_cases hg : g = h
    · subst hg
      simp [Holder.aims, hr]
    · rw [State.holder_setHolder_ne s r hg]
  have hdistrict (kind : OrderKind) (d : DistrictId) : checkDistrict (s.setHolder h r) h kind d = checkDistrict s h kind d := by
    simp only [checkDistrict, State.reserved, State.district_setHolder, haims]
    rfl
  unfold checkOrder
  split
  · exact hdistrict _ _
  · exact hdistrict _ _
  · rfl

/-! ### Placing -/

/-- A quantity order is kept as the last one (03 R40). -/
theorem noteOrder_eq (r : Holder) (o : Order) :
    r.noteOrder o = { r with lastOrder := if o.quantity.isSome then some o else r.lastOrder } := by
  unfold Holder.noteOrder
  split <;> rfl

/-- A holder whose ACTIVE order has just been placed and activated (03 R39, R40, R43). -/
def activated (r : Holder) (o : Order) : Holder :=
  { r with
    active := some o, activationWaits := false, startStock := none, remainder := o.quantity
    lastOrder := if o.quantity.isSome then some o else r.lastOrder }

theorem activate_placed (r : Holder) (o : Order) : ((r.noteOrder o).becomeActive o).activate o = activated r o := by
  simp [noteOrder_eq, Holder.becomeActive, Holder.activate, activated]

section
variable {s : State} {h : HolderId} {o : Order}

/-- Behind a change-over the order becomes ACTIVE and waits (03 R43; log entry 27). -/
theorem place_of_change {c : ChangeOver} (hc : (s.holder h).changeOver = some c) (ha : (s.holder h).active = none) :
    place h o s = (.done, s.setHolder h { s.holder h with
      active := some o, activationWaits := true
      remainder := match (s.holder h).remainder with
        | none => o.quantity
        | some v => some v
      lastOrder := if o.quantity.isSome then some o else (s.holder h).lastOrder }) := by
  cases hr : (s.holder h).remainder <;> simp [place, ha, hc, noteOrder_eq, Holder.becomeActive, hr]

/-- Behind an ACTIVE order and a change-over the order becomes NEXT (03 R40). -/
theorem place_of_active {c : ChangeOver} {a : Order} (hc : (s.holder h).changeOver = some c) (ha : (s.holder h).active = some a)
    (hn : (s.holder h).next = none) : place h o s = (.done, s.setHolder h { s.holder h with
      next := some o, lastOrder := if o.quantity.isSome then some o else (s.holder h).lastOrder }) := by
  simp [place, ha, hc, hn, noteOrder_eq]

/-- A stack of two takes no third (03 R40). -/
theorem place_of_full {a b : Order} (ha : (s.holder h).active = some a) (hn : (s.holder h).next = some b) :
    place h o s = (.full, s) := by
  simp [place, ha, hn]

/-! ### Activation -/

section
variable {ps : List Part} (n : Nat) (ha : (s.holder h).active = some o) (hw : (s.holder h).activationWaits = true)

include ha hw

/-- An order that fails at its activation ends SHORT (step 1 of 03 R43). -/
theorem settle_of_fails (hfail : activationFails (s.setHolder h ((s.holder h).activate o)) h o = true) :
    settle (n + 1) h ⟨s, ps⟩ = settle n h ⟨s.setHolder h ((s.holder h).activate o).latchShort.promote, ps⟩ := by
  simp [settle, ha, hw, hfail]

/-- An order whose state is not the holder's builds its change-over (step 3 of 03 R43). -/
theorem settle_of_builds (hfail : activationFails (s.setHolder h ((s.holder h).activate o)) h o = false)
    (hat : inWorkingState s h o.target = false) :
    settle (n + 1) h ⟨s, ps⟩ = build h o.target ⟨s.setHolder h ((s.holder h).activate o), ps⟩ := by
  have hat' : inWorkingState (s.setHolder h ((s.holder h).activate o)) h o.target = false := by
    rw [← hat]
    simp only [inWorkingState, State.holder_setHolder_self]
    rfl
  simp [settle, ha, hw, hfail, hat']

/-- A quantity order in its working state starts its tracking (03 R49). -/
theorem settle_of_tracks (hfail : activationFails (s.setHolder h ((s.holder h).activate o)) h o = false)
    (hat : inWorkingState s h o.target = true) (hq : o.quantity.isSome = true) :
    settle (n + 1) h ⟨s, ps⟩ = ⟨s.setHolder h { (s.holder h).activate o with
      startStock := some (s.holder h).stock, terminal := false }, ps⟩ := by
  have hat' : inWorkingState (s.setHolder h ((s.holder h).activate o)) h o.target = true := by
    rw [← hat]
    simp only [inWorkingState, State.holder_setHolder_self]
    rfl
  simp [settle, ha, hw, hfail, hat', hq]
  rfl

/-- A STAND order in STANDING ends COMPLETE at once (03 R51). -/
theorem settle_of_stands (hk : o.kind = .stand) (hq : o.quantity = none) (hat : inWorkingState s h o.target = true) :
    settle (n + 1) h ⟨s, ps⟩ = settle n h ⟨s.setHolder h ((s.holder h).activate o).latchDone.promote, ps⟩ := by
  have hat' : inWorkingState (s.setHolder h ((s.holder h).activate o)) h o.target = true := by
    rw [← hat]
    simp only [inWorkingState, State.holder_setHolder_self]
    rfl
  have hfail : activationFails (s.setHolder h ((s.holder h).activate o)) h o = false := by simp [activationFails, hk]
  simp [settle, ha, hw, hfail, hat', hq, hk]

end

/-! ### The only order of a holder at rest -/

section
variable (hc : (s.holder h).changeOver = none) (ha : (s.holder h).active = none)

include hc ha

/-- With nothing in flight an order is turned to at once (03 R43). -/
theorem place_of_still : place h o s
    = (.done, (settle orderFuel h ⟨s.setHolder h (((s.holder h).noteOrder o).becomeActive o), []⟩).giveEach h) := by
  simp [place, ha, hc]

/-- An order that fails at its activation, with none behind it, ends SHORT (03 R43). -/
theorem place_of_fails (hn : (s.holder h).next = none) (hfail : activationFails (s.setHolder h (activated (s.holder h) o)) h o = true) :
    place h o s = (.done, s.setHolder h { s.holder h with
      activationWaits := false, startStock := none, remainder := o.quantity
      lastOrder := if o.quantity.isSome then some o else (s.holder h).lastOrder
      latches := { (s.holder h).latches with orderShort := true } }) := by
  rw [place_of_still hc ha, orderFuel, settle_of_fails 2 (o := o) (by simp [Holder.becomeActive]) (by simp [Holder.becomeActive])
    (by simpa [activate_placed] using hfail)]
  simp only [State.holder_setHolder_self, State.setHolder_setHolder, activate_placed]
  have hidle : (activated (s.holder h) o).latchShort.promote = { s.holder h with
      activationWaits := false, startStock := none, remainder := o.quantity
      lastOrder := if o.quantity.isSome then some o else (s.holder h).lastOrder
      latches := { (s.holder h).latches with orderShort := true } } := by
    simp [Holder.promote, Holder.latchShort, activated, hn, ha]
  rw [hidle, settle_of_idle _ (by simp [ha]), giveEach_nothing]

/-- An order whose state is not the holder's builds its change-over (03 R43). -/
theorem place_of_builds (hfail : activationFails (s.setHolder h (activated (s.holder h) o)) h o = false)
    (hat : inWorkingState s h o.target = false) :
    place h o s = (.done, (build h o.target ⟨s.setHolder h (activated (s.holder h) o), []⟩).giveEach h) := by
  have hat' : inWorkingState (s.setHolder h (((s.holder h).noteOrder o).becomeActive o)) h o.target = false := by
    rw [← hat]
    simp only [inWorkingState, State.holder_setHolder_self, noteOrder_eq]
    rfl
  rw [place_of_still hc ha, orderFuel, settle_of_builds 2 (o := o) (by simp [Holder.becomeActive]) (by simp [Holder.becomeActive])
    (by simpa [activate_placed] using hfail) hat']
  simp only [State.holder_setHolder_self, State.setHolder_setHolder, activate_placed]

/-- A quantity order in its working state starts its tracking (03 R49). -/
theorem place_of_tracks (hfail : activationFails (s.setHolder h (activated (s.holder h) o)) h o = false)
    (hat : inWorkingState s h o.target = true) (hq : o.quantity.isSome = true) :
    place h o s = (.done, s.setHolder h { activated (s.holder h) o with
      startStock := some (s.holder h).stock, terminal := false }) := by
  have hat' : inWorkingState (s.setHolder h (((s.holder h).noteOrder o).becomeActive o)) h o.target = true := by
    rw [← hat]
    simp only [inWorkingState, State.holder_setHolder_self, noteOrder_eq]
    rfl
  rw [place_of_still hc ha, orderFuel, settle_of_tracks 2 (o := o) (by simp [Holder.becomeActive]) (by simp [Holder.becomeActive])
    (by simpa [activate_placed] using hfail) hat' hq]
  simp only [State.holder_setHolder_self, State.setHolder_setHolder, activate_placed, giveEach_nothing]
  simp [noteOrder_eq, Holder.becomeActive]

/-- A STAND in STANDING ends at once (03 R51). -/
theorem place_of_stands (hn : (s.holder h).next = none) (hst : (s.holder h).state = .standing) :
    place h ⟨.stand, none, none, .stand, false⟩ s = (.done, s.setHolder h { s.holder h with
      active := none, activationWaits := false, startStock := none, remainder := none
      latches := { (s.holder h).latches with orderDone := true } }) := by
  rw [place_of_still hc ha, orderFuel, settle_of_stands 2 (o := ⟨.stand, none, none, .stand, false⟩)
    (by simp [Holder.becomeActive]) (by simp [Holder.becomeActive]) rfl rfl
    (by simp [inWorkingState, noteOrder_eq, Holder.becomeActive, hst, Order.target, Target.state, Target.district])]
  simp only [State.holder_setHolder_self, State.setHolder_setHolder, activate_placed]
  have hidle : (activated (s.holder h) ⟨.stand, none, none, .stand, false⟩).latchDone.promote = { s.holder h with
      active := none, activationWaits := false, startStock := none, remainder := none
      latches := { (s.holder h).latches with orderDone := true } } := by
    simp [Holder.promote, Holder.latchDone, activated, hn]
  rw [hidle, settle_of_idle _ (by simp), giveEach_nothing]

end
end

/-! ### The change-over an order builds -/

/-- A change-over whose first move drives a valve starts it, and tells of the join it aims at (03 R45, R46, R48). -/
theorem build_of_valve {s : State} {h : HolderId} {r : Holder} {t : Target} {m : Move} {ms : List Move} {w : Which} {v : Valve}
    (ps : List Part) (hm : s.yard.mode ≠ .hold)
    (hb : buildMoves r.inletIntent r.outletIntent (s.feedOf h) t = m :: ms) (hv : m.valve = some (w, v)) :
    build h t ⟨s.setHolder h r, ps⟩ = ⟨(s.setHolder h (Holder.setIntent { r with
      state := .changing, changeOver := some ⟨t, m :: ms, 0, true, some r.travel⟩ } w v)).setDrive h (some (driveOf w v)),
      ps ++ ((aimsAt (m :: ms)).map Part.pend).toList⟩ := by
  have hb' : buildMoves r.inletIntent r.outletIntent ((s.setHolder h r).feedOf h) t = m :: ms := hb
  have hstart (ps : List Part) : startMove h ⟨s.setHolder h { r with
      state := .changing, changeOver := some ⟨t, m :: ms, 0, false, none⟩ }, ps⟩
      = ⟨(s.setHolder h (Holder.setIntent { r with
        state := .changing, changeOver := some ⟨t, m :: ms, 0, true, some r.travel⟩ } w v)).setDrive h (some (driveOf w v)), ps⟩ := by
    refine (startMove_of_valve (c := ⟨t, m :: ms, 0, false, none⟩) ps ?_ rfl (.inl ?_) rfl hv).trans ?_
    · simp
    · exact hm
    · cases w <;> simp [Holder.setIntent]
  simp only [build, holder_eq, State.holder_setHolder_self, hb', List.isEmpty_cons, Bool.false_eq_true, if_false, mod_eq,
    State.setHolder_setHolder]
  cases aimsAt (m :: ms) with
  | none => simpa using hstart ps
  | some e => simpa using hstart (ps ++ [.pend e])

section
variable {s : State} {h : HolderId} {r : Holder}

/-- A FILL at the top stop fails (step 1 of 03 R43). -/
theorem activationFails_fill (q : Option Nat) : activationFails (s.setHolder h r) h ⟨.fill, none, q, .stand, false⟩
    = (decide (r.topStop ≤ r.height) || s.wasTopStop h) := by
  simp [activationFails]
  rfl

/-- A DRAW or FLOAT that passes the checks fails at the low stop (step 1 of 03 R43). -/
theorem activationFails_join {o : Order} (hk : o.kind = .draw ∨ o.kind = .float) (hc : checkOrder s h o = none)
    (hr : r.changeOver = (s.holder h).changeOver) :
    activationFails (s.setHolder h r) h o = (decide (r.height ≤ r.lowStop) || s.wasLanding h) := by
  rcases hk with hk | hk <;> simp [activationFails, hk, checkOrder_setHolder o hr, hc] <;> rfl

theorem inWorkingState_of_state {t : Target} (hs : (s.holder h).state ≠ t.state) : inWorkingState s h t = false := by
  simp [inWorkingState, hs]

end

/-! ### Orders on a STANDING holder -/

section
variable {s : State} {h : HolderId} (hm : s.yard.mode = .working) (hst : (s.holder h).state = .standing)
  (hc : (s.holder h).changeOver = none) (ha : (s.holder h).active = none)

include hc ha

/-- A FILL at the top stop ends SHORT (03 R43). -/
theorem place_fill_at_top (q : Option Nat) (hn : (s.holder h).next = none)
    (htop : (s.holder h).topStop ≤ (s.holder h).height ∨ s.wasTopStop h = true) :
    place h ⟨.fill, none, q, .stand, false⟩ s = (.done, s.setHolder h { s.holder h with
      activationWaits := false, startStock := none, remainder := q
      lastOrder := if q.isSome then some ⟨.fill, none, q, .stand, false⟩ else (s.holder h).lastOrder
      latches := { (s.holder h).latches with orderShort := true } }) :=
  place_of_fails hc ha hn (by simpa [activationFails_fill, activated] using htop)

variable (hin : (s.holder h).inletIntent = .closed) (hout : (s.holder h).outletIntent = .closed) (hfeed : s.feedOf h = none)

include hm hst hin hout hfeed

/-- A FILL with room opens the inlet (03 R43, R45, R46). -/
theorem place_fill_with_room (q : Option Nat) (hheight : (s.holder h).height < (s.holder h).topStop) (hwas : s.wasTopStop h = false) :
    place h ⟨.fill, none, q, .stand, false⟩ s = (.done, (s.setHolder h { activated (s.holder h) ⟨.fill, none, q, .stand, false⟩ with
      state := .changing, inletIntent := .opened
      changeOver := some ⟨.filling, [.openInlet], 0, true, some (s.holder h).travel⟩ }).setDrive h (some .inletOpen)) := by
  rw [place_of_builds hc ha (by simp [activationFails_fill, activated, hwas, hheight])
    (inWorkingState_of_state (by simp [hst, Order.target, Target.state])),
    build_of_valve (m := .openInlet) (ms := []) (w := .inlet) (v := .opened) [] (by simp [hm])
      (by simp [activated, hin, hout, hfeed, buildMoves, moveIf, Order.target, Target.district, Target.inletOpen, Target.outletOpen]) rfl]
  rfl

/-- A DRAW that passes its checks, above the low stop, opens the outlet and tells of the pending join (03 R43, R45, R46, R48). -/
theorem place_draw {o : Order} {d : DistrictId} (hk : o.kind = .draw) (hd : o.district = some d) (hpass : checkOrder s h o = none)
    (hlow : (s.holder h).lowStop < (s.holder h).height) (hland : s.wasLanding h = false) :
    place h o s = (.done, ((s.setHolder h { activated (s.holder h) o with
        state := .changing, outletIntent := .opened
        changeOver := some ⟨.drawing d, [.openOutlet, .join d], 0, true, some (s.holder h).travel⟩ }).setDrive h
          (some .outletOpen)).send
      (.joinPendingNotice ⟨h, (s.holder h).answering, (s.holder h).stagePressure, none, false, false⟩ d)) := by
  have ht : o.target = .drawing d := by simp [Order.target, hk, hd]
  rw [place_of_builds hc ha
    (by rw [activationFails_join (r := activated _ o) (.inl hk) hpass rfl]; simp [activated, hland, Nat.not_le.2 hlow])
    (inWorkingState_of_state (by simp [hst, ht, Target.state])), ht,
    build_of_valve (m := .openOutlet) (ms := [.join d]) (w := .outlet) (v := .opened) [] (by simp [hm])
      (by simp [activated, hin, hout, hfeed, buildMoves, moveIf, Target.district, Target.inletOpen, Target.outletOpen]) rfl]
  simp [aimsAt, partMessage, Holder.setIntent, activated, driveOf]

/-- A FLOAT that passes its checks, above the low stop, opens the outlet first (03 R43, R45, R46, R48). -/
theorem place_float {d : DistrictId} (hpass : checkOrder s h ⟨.float, some d, none, .stand, false⟩ = none)
    (hlow : (s.holder h).lowStop < (s.holder h).height) (hland : s.wasLanding h = false) :
    place h ⟨.float, some d, none, .stand, false⟩ s
      = (.done, ((s.setHolder h { activated (s.holder h) ⟨.float, some d, none, .stand, false⟩ with
          state := .changing, outletIntent := .opened
          changeOver := some ⟨.floating d, [.openOutlet, .openInlet, .join d], 0, true, some (s.holder h).travel⟩ }).setDrive h
            (some .outletOpen)).send
        (.joinPendingNotice ⟨h, (s.holder h).answering, (s.holder h).stagePressure, none, false, false⟩ d)) := by
  rw [place_of_builds hc ha
    (by rw [activationFails_join (r := activated _ _) (.inr rfl) hpass rfl]; simp [activated, hland, Nat.not_le.2 hlow])
    (inWorkingState_of_state (by simp [hst, Order.target, Target.state])),
    build_of_valve (m := .openOutlet) (ms := [.openInlet, .join d]) (w := .outlet) (v := .opened) [] (by simp [hm])
      (by simp [activated, hin, hout, hfeed, buildMoves, moveIf, Order.target, Target.district, Target.inletOpen, Target.outletOpen])
      rfl]
  simp [aimsAt, partMessage, Holder.setIntent, activated, driveOf, Order.target]

end

/-! ### ORDER of the kinds that join a district -/

/-- A holder in no feed list feeds none but the district named (03 R41). -/
theorem feedsElsewhere_of_no_feeds {s : State} {h : HolderId} (d : DistrictId) (hn : ∀ c : DistrictId, h ∉ (s.district c).feeds) :
    s.feedsElsewhere h d = false := by
  simp [State.feedsElsewhere, hn]

/-- Settles O53: the district checks in their order, the change-over that opens the outlet, and STAND at once. -/
theorem ordersThatJoinADistrict : Obligations.OrdersThatJoinADistrict := by
  unfold Obligations.OrdersThatJoinADistrict
  intro s tag h d q e hr hm hf hst hc ha hn hin hout ht hfeeds hq
  have htakes := takesOrders_of_standing hst
  have hfeed := feedOf_of_no_feeds ht hfeeds
  have draw {a : Result × State} (hp : tryOrder h ⟨.draw, some d, q, e.getD .stand, false⟩ s = a) :
      exec (.order tag h .draw (some d) q e) s = .next (withResponse a.2 tag 0x10 a.1 []) :=
    exec_order _ _ _ _ _ hr hm ((order_of_spelled hf htakes (spelled_draw hq d e)).trans hp)
  have float {a : Result × State} (hp : tryOrder h ⟨.float, some d, none, .stand, false⟩ s = a) :
      exec (.order tag h .float (some d) q e) s = .next (withResponse a.2 tag 0x10 a.1 []) :=
    exec_order _ _ _ _ _ hr hm ((order_of_spelled hf htakes (spelled_float d q e)).trans hp)
  have unspelled (k : OrderKind) {district : Option Nat} {refusal : Result} (hu : spelledOrder k district q e = .inl refusal) :
      exec (.order tag h k district q e) s = .next (withResponse s tag 0x10 refusal []) :=
    exec_order _ _ _ _ _ hr hm (order_of_unspelled hf htakes hu)
  have refused {refusal : Result} (hd : ∀ k, checkDistrict s h k d = some refusal) :
      exec (.order tag h .draw (some d) q e) s = .next (withResponse s tag 0x10 refusal [])
        ∧ exec (.order tag h .float (some d) q e) s = .next (withResponse s tag 0x10 refusal []) :=
    ⟨draw (tryOrder_of_refused ((checkOrder_of_kind (.inl rfl) rfl).trans (hd _))),
      float (tryOrder_of_refused ((checkOrder_of_kind (.inr rfl) rfl).trans (hd _)))⟩
  refine ⟨unspelled _ (unspelled_of_no_district (.inl rfl) q e), unspelled _ (unspelled_of_no_district (.inr rfl) q e),
    fun n hn8 => ⟨unspelled _ (unspelled_of_le (.inl rfl) hn8 q e), unspelled _ (unspelled_of_le (.inr rfl) hn8 q e)⟩,
    fun hs => refused fun k => checkDistrict_of_state k hs, fun hnout hntrip => ⟨fun hfull => ?_, fun hroom hlow hland => ?_⟩, ?_⟩
  · exact refused fun k => checkDistrict_of_full hnout hntrip (fun _ => feedsElsewhere_of_no_feeds d hfeeds) (hfeeds d) hfull
  · have pass (k : OrderKind) : checkDistrict s h k d = none :=
      checkDistrict_of_room hnout hntrip (fun _ => feedsElsewhere_of_no_feeds d hfeeds) (.inr hroom)
    have passDraw := (checkOrder_of_kind (o := ⟨.draw, some d, q, e.getD .stand, false⟩) (.inl rfl) rfl).trans (pass .draw)
    have passFloat := (checkOrder_of_kind (o := ⟨.float, some d, none, .stand, false⟩) (.inr rfl) rfl).trans (pass .float)
    exact ⟨draw ((tryOrder_of_passed passDraw).trans (place_draw hm hst hc ha hin hout hfeed rfl rfl passDraw hlow hland)),
      float ((tryOrder_of_passed passFloat).trans (place_float hm hst hc ha hin hout hfeed passFloat hlow hland))⟩
  · exact exec_order _ _ _ _ _ hr hm ((order_of_spelled hf htakes rfl).trans
      ((tryOrder_of_passed rfl).trans (place_of_stands hc ha hn hst)))

/-! ### RETURN -/

section
variable {s : State} {h : HolderId} (hf : (s.holder h).fitted = true)

include hf

theorem returnToService_of_refused (hr : returnable (s.holder h) = false) : returnToService h s = (.wrongState, s) := by
  simp [returnToService, onFitted_of_fitted _ hf, hr]

/-- RETURN puts the holder back to STANDING and tells DIC (03 R59). -/
theorem returnToService_of_taken (hr : returnable (s.holder h) = true) : returnToService h s
    = (.done, (s.setHolder h { s.holder h with
        inletIntent := .closed, outletIntent := .closed, isolated := false, faulted := false, faultReason := none
        faultStep := 0, state := .standing }).send
      (.standingNotice ⟨h, (s.holder h).answering, (s.holder h).stagePressure, none, false, false⟩)) := by
  simp [returnToService, onFitted_of_fitted _ hf, hr, partMessage]

end

/-! ### REPEAT -/

/-- The DRAW and FILL that a holder keeps as its last quantity order are spelled by their own fields (03 R39, R42). -/
theorem order_eq_repeatLast {s : State} {h : HolderId} {o : Order} {kind : OrderKind} {district quantity : Option Nat}
    {endAction : Option EndAction} (hf : (s.holder h).fitted = true) (hl : (s.holder h).lastOrder = some o)
    (hs : spelledOrder kind district quantity endAction = .inr o) :
    order h kind district quantity endAction s = repeatLast h s := by
  cases ht : (s.holder h).takesOrders with
  | false => rw [order_of_untaken hf _ _ _ _ ht, repeatLast_of_untaken hf ht]
  | true => rw [order_of_spelled hf ht hs, repeatLast_of_last hf ht hl]

/-- REPEAT is answered as the ORDER that its holder's last quantity order spells (03 R42). -/
theorem exec_repeat_as_order {s : State} {h : HolderId} {o : Order} {kind : OrderKind} {district quantity : Option Nat}
    {endAction : Option EndAction} (tag : Byte) (hr : Ready s) (hm : s.yard.mode = .working) (hf : (s.holder h).fitted = true)
    (hl : (s.holder h).lastOrder = some o) (hs : spelledOrder kind district quantity endAction = .inr o) :
    ∃ t result, t.rex = s.rex
      ∧ exec (.order tag h kind district quantity endAction) s = .next (withResponse t tag 0x10 result [])
      ∧ exec (.repeatOrder tag h) s = .next (withResponse t tag 0x11 result []) :=
  ⟨(repeatLast h s).2, (repeatLast h s).1, rex_of_withRex (fun x t => repeatLast_withRex x h t) s,
    exec_order _ _ _ _ _ hr hm (order_eq_repeatLast hf hl hs), exec_repeatOrder hr hm rfl⟩

/-- A DRAW on a holder that draws from its district starts its tracking (03 R43, R49). -/
theorem place_draw_in_district {s : State} {h : HolderId} {o : Order} {d : DistrictId} (hc : (s.holder h).changeOver = none)
    (ha : (s.holder h).active = none) (hk : o.kind = .draw) (hd : o.district = some d) (hq : o.quantity.isSome = true)
    (hpass : checkOrder s h o = none) (hlow : (s.holder h).lowStop < (s.holder h).height) (hland : s.wasLanding h = false)
    (hst : (s.holder h).state = .drawing) (hfeed : s.feedOf h = some d) :
    place h o s = (.done, s.setHolder h { activated (s.holder h) o with
      startStock := some (s.holder h).stock, terminal := false }) := by
  have ht : o.target = .drawing d := by simp [Order.target, hk, hd]
  refine place_of_tracks hc ha ?_ (by simp [inWorkingState, ht, Target.state, Target.district, hst, hfeed]) hq
  rw [activationFails_join (r := activated _ o) (.inl hk) hpass rfl]
  simp [activated, hland, Nat.not_le.2 hlow]

/-- Settles O29: REPEAT as the ORDER it copies, by the rules of placing, and RETURN. -/
theorem repeatAndReturn : Obligations.RepeatAndReturn := by
  unfold Obligations.RepeatAndReturn
  intro s tag h hr
  have returned (hf : (s.holder h).fitted = true) (hret : returnable (s.holder h) = true) :=
    exec_returnHolder (tag := tag) hr (returnToService_of_taken hf hret)
  have kept (hf : (s.holder h).fitted = true) (hret : returnable (s.holder h) = false) :=
    exec_returnHolder (tag := tag) hr (returnToService_of_refused hf hret)
  refine ⟨fun hm hf ht hl => exec_repeatOrder hr hm (repeatLast_of_none hf ht hl), fun c q hm hf hst hc ht ha hl => ?_,
    fun hf hst hi ho => returned hf (by simp [returnable, hst, hi, ho]), fun hf hv => kept hf ?_,
    fun n hn => ⟨fun hm => exec_repeatOrder hr hm (onFitted_of_le s _ hn), exec_returnHolder hr (onFitted_of_le s _ hn)⟩,
    fun hf => ⟨fun hm => exec_repeatOrder hr hm (onFitted_of_unfitted _ hf), exec_returnHolder hr (onFitted_of_unfitted _ hf)⟩,
    fun hm hf hst => exec_repeatOrder hr hm (repeatLast_of_untaken hf ?_), fun q hm hf hlo hhi => ⟨fun hl => ?_, fun d e hl => ?_⟩,
    fun q hm hf hc ha => ⟨fun hst hl => ⟨fun htop hn => ?_, fun hheight hwas hfeed hin hout => ?_⟩,
      fun d e hl hnout hntrip hlow hland => ⟨fun hst hfeed hn hroom hin hout => ?_, fun hst hfeed hin => ?_⟩⟩,
    fun hf hst hc hi ho => returned hf (by simp [returnable, hst, hi, ho, Holder.isolating, hc]), fun hf hst => kept hf ?_⟩
  · rw [exec_repeatOrder hr hm ((repeatLast_of_last hf (takesOrders_of_changing hst hc ht) hl).trans
      ((tryOrder_of_passed rfl).trans (place_of_change hc ha)))]
    cases (s.holder h).remainder <;> simp [hl]
  · rcases hv with hv | hv <;> simp [returnable, hv]
  · rcases hst with hst | hst | hst | ⟨hst, c, hc, ht⟩
    · exact takesOrders_of_state (.inl hst)
    · exact takesOrders_of_state (.inr (.inl hst))
    · exact takesOrders_of_state (.inr (.inr hst))
    · exact takesOrders_of_isolating hst hc ht
  · exact exec_repeat_as_order tag hr hm hf hl (spelled_fill (by simp [optWithin, within, hlo, hhi]) none)
  · exact exec_repeat_as_order tag hr hm hf hl (spelled_draw (by simp [optWithin, within, hlo, hhi]) d (some e))
  · rw [exec_repeatOrder hr hm ((repeatLast_of_last hf (takesOrders_of_standing hst) hl).trans
      ((tryOrder_of_passed rfl).trans (place_fill_at_top hc ha (some q) hn htop)))]
    simp [hl]
  · rw [exec_repeatOrder hr hm ((repeatLast_of_last hf (takesOrders_of_standing hst) hl).trans
      ((tryOrder_of_passed rfl).trans (place_fill_with_room hm hst hc ha hin hout hfeed (some q) hheight hwas)))]
    simp [hl, activated]
  · have hpass := (checkOrder_of_kind (h := h) (o := ⟨.draw, some d, some q, e, false⟩) (.inl rfl) rfl).trans
      (checkDistrict_of_room hnout hntrip (by simp) (.inr hroom))
    rw [exec_repeatOrder hr hm ((repeatLast_of_last hf (takesOrders_of_standing hst) hl).trans
      ((tryOrder_of_passed hpass).trans (place_draw hm hst hc ha hin hout hfeed rfl rfl hpass hlow hland)))]
    simp [hl, activated]
  · have hpass := (checkOrder_of_kind (h := h) (o := ⟨.draw, some d, some q, e, false⟩) (.inl rfl) rfl).trans
      (checkDistrict_of_room hnout hntrip (by simp) (.inl hin))
    rw [exec_repeatOrder hr hm ((repeatLast_of_last hf (takesOrders_of_drawing hst) hl).trans
      ((tryOrder_of_passed hpass).trans (place_draw_in_district hc ha rfl rfl rfl hpass hlow hland hst hfeed)))]
    simp [hl, activated]
  · rcases hst with ⟨hi, hfa⟩ | ⟨hst, c, hc, ht⟩
    · simp [returnable, hi, hfa]
    · simp [returnable, hst, Holder.isolating, hc, ht]

/-! ### Quantity orders tracked by a crown reply -/

section
variable {s : State} {h : HolderId} {r : Holder} {o : Order} {ps : List Part}

/-- A quantity order short of its quantity has its remainder worked (03 R50). -/
theorem track_of_short {st n : Nat} (ha : r.active = some o) (hst : r.startStock = some st) (hq : o.quantity = some n)
    (hlt : progress o.kind st r.stock < n) : track h ⟨s.setHolder h r, ps⟩
      = ⟨s.setHolder h { r with remainder := some (n - progress o.kind st r.stock) }, ps⟩ := by
  have hleft : n - progress o.kind st r.stock ≠ 0 := by omega
  simp [track, ha, hst, hq, hleft]

/-- A quantity order that reaches its quantity ends COMPLETE, with the terminal mark (03 R50). -/
theorem track_of_reached {st n : Nat} (ha : r.active = some o) (hst : r.startStock = some st) (hq : o.quantity = some n)
    (hle : n ≤ progress o.kind st r.stock) : track h ⟨s.setHolder h r, ps⟩
      = completeOrder h o ⟨s.setHolder h { r with remainder := some 0, terminal := true }, ps⟩ := by
  have hleft : n - progress o.kind st r.stock = 0 := by omega
  simp [track, ha, hst, hq, hleft]

/-- A COMPLETE order with none behind it takes its end action (03 R52). -/
theorem completeOrder_of_last (hn : r.next = none) : completeOrder h o ⟨s.setHolder h r, ps⟩
    = endAction h o ⟨s.setHolder h { r with
        active := none, activationWaits := false, latches := { r.latches with orderDone := true } }, ps⟩ := by
  simp [completeOrder, hn, Holder.promote, Holder.latchDone]

/-- A STAND order behind a COMPLETE one is activated, and takes the holder to STANDING (03 R43, R52). -/
theorem completeOrder_of_stand {p : Order} (hn : r.next = some p) (hp : p = ⟨.stand, none, none, .stand, false⟩)
    (hs : r.state ≠ .standing) : completeOrder h o ⟨s.setHolder h r, ps⟩
    = build h .standing ⟨s.setHolder h { r with
        active := some p, next := none, activationWaits := false, startStock := none, remainder := none
        latches := { r.latches with orderDone := true } }, ps⟩ := by
  have hwait : r.latchDone.promote = { r with
      active := some p, next := none, activationWaits := true, remainder := r.remainder.orElse fun _ => none
      latches := { r.latches with orderDone := true } } := by
    subst hp
    simp [Holder.promote, Holder.latchDone, hn, Holder.becomeActive]
  simp only [completeOrder, holder_eq, State.holder_setHolder_self, hn, Option.isSome_some, if_true, mod_eq, State.setHolder_setHolder,
    hwait]
  subst hp
  rw [orderFuel, settle_of_builds 2 (o := ⟨.stand, none, none, .stand, false⟩) (by simp) (by simp) (by simp [activationFails])
    (inWorkingState_of_state (by simpa [Order.target, Target.state] using hs))]
  simp [Holder.activate, Order.target]

/-- A DRAW with CONTINUE draws on (03 R52). -/
theorem endAction_of_cont (d : Draft) (hk : o.kind = .draw) (he : o.endAction = .cont) : endAction h o d = d := by
  simp [endAction, hk, he]

/-- A DRAW with STAND leaves its district, but for the only answering feed of a district in service (03 R52, R53). -/
theorem endAction_of_stand {e : DistrictId} (hk : o.kind = .draw) (he : o.endAction = .stand) (hd : o.district = some e) :
    endAction h o ⟨s, ps⟩ = if onlyFeed s h e = true
      then ⟨s.setHolder h { s.holder h with latches := { (s.holder h).latches with forcedContinue := true } }, ps⟩
      else build h .standing ⟨s, ps⟩ := by
  simp [endAction, hk, he, hd]

/-- The only answering feed is judged by the other holders' own answering flags (03 R53; log entry 20). -/
theorem onlyFeed_setHolder (e : DistrictId) : onlyFeed (s.setHolder h r) h e = true
    ↔ (s.district e).state.inService = true ∧ ∀ g ∈ (s.district e).feeds, g = h ∨ (s.holder g).answering = false := by
  have hother (g : HolderId) : (g = h ∨ ((s.setHolder h r).holder g).answering = false)
      ↔ (g = h ∨ (s.holder g).answering = false) := by
    by_cases hg : g = h
    · simp [hg]
    · rw [State.holder_setHolder_ne s r hg]
  have hservice : (s.district e).state.inService
      = (decide ((s.district e).state = .serving) || decide ((s.district e).state = .short)
        || decide ((s.district e).state = .starved)) := by
    cases (s.district e).state <;> rfl
  have honly : onlyFeed (s.setHolder h r) h e = ((s.district e).state.inService
      && (s.district e).feeds.all fun g => decide (g = h) || !((s.setHolder h r).holder g).answering) := by
    rw [hservice]
    rfl
  simp only [honly, Bool.and_eq_true, List.all_eq_true, Bool.or_eq_true, decide_eq_true_eq, Bool.not_eq_true', hother]

end

/-- A holder that gives gas above its low stop goes on (03 R54). -/
theorem judgeLimits_of_above_low {h : HolderId} {c : CrownReading} {s : State} {ps : List Part}
    (hs : (s.holder h).state = .drawing) (hheight : (s.holder h).lowStop < (s.holder h).height) (hl : c.landing = false) :
    judgeLimits h c ⟨s, ps⟩ = ⟨s, ps⟩ := by
  have : ¬ (s.holder h).height ≤ (s.holder h).lowStop := by omega
  simp [judgeLimits, hs, this, hl]

/-- A holder in a change-over meets no limit (03 R54, R55). -/
theorem judgeLimits_of_changing {h : HolderId} {c : CrownReading} {s : State} {ps : List Part}
    (hs : (s.holder h).state = .changing) : judgeLimits h c ⟨s, ps⟩ = ⟨s, ps⟩ :=
  judgeLimits_of_unlimited (by simp [hs])

section
variable {s : State} {h : HolderId} {c : CrownReading} {r : Holder} {o : Order} {n st : Nat}

/-- A plausible reading with the landing switch off is the height in use (02 R25). -/
theorem takesHeight_of_near {r : Holder} (hl : c.landing = false) (hstroke : c.height ≤ totalStroke r.lifts)
    (hup : c.height ≤ r.height + r.maxStep) (hdown : r.height ≤ c.height + r.maxStep) :
    TakesHeight r c { r with height := c.height, jump := none } :=
  ⟨c.height, (Nat.min_eq_left hstroke).symm, .inr (.inl ⟨hl, ⟨hup, hdown⟩, rfl⟩)⟩

/-- The limit switches of a valve that agree with its intent (02 R29). -/
theorem provedBy_of_intent {isOpen isClosed : Bool} {v : Valve} (ho : isOpen = decide (v = .opened))
    (hc : isClosed = decide (v = .closed)) :
    provedBy isOpen isClosed = if v = .opened then .opened else .closed := by
  subst ho hc
  cases v <;> rfl

/-- A reply of a holder with no change-over, its values unchanged, that tracks its ACTIVE quantity order (02 R23, 03 R50). -/
structure Tracks (s : State) (h : HolderId) (c : CrownReading) (r : Holder) (o : Order) (n st : Nat) : Prop where
  fitted : (s.holder h).fitted = true
  linked : (s.crownEntry h).isSome = true
  state : (s.holder h).state ≠ .recovering ∧ (s.holder h).state ≠ .faulted
  read : takeReading c s.yard.barometer (s.holder h) = r
  keeps : Keeps (s.holder h) r
  still : r.changeOver = none
  told : valuesTold (s.holder h) r = []
  inlet : InletAt r
  outlet : OutletAt r
  waits : (s.holder h).activationWaits = false
  start : (s.holder h).startStock = some st
  active : r.active = some o
  quantity : o.quantity = some n

/-- Behind the reading the order is tracked, then the limits are judged (02 R23). -/
theorem crownReply_of_tracks (ht : Tracks s h c r o n st) :
    crownReply h c s = (judgeLimits h c (track h ⟨s.setHolder h r, []⟩)).giveReply h := by
  have hfault : r.state ≠ .faulted := by rw [ht.keeps.state]; exact ht.state.2
  rw [crownReply_of_linked c ht.fitted ht.linked, replyWork_of_later ht.state.1 ht.read, ht.told,
    judgeMove_of_unproved (by simp [driven_of_no_change ht.still])]
  simp [limitsWork, uncommanded_of_at ht.still ht.inlet ht.outlet, hfault, ht.start, ht.waits]

/-- Under way: the remainder is worked, where no limit is met (03 R50). -/
theorem crownReply_of_short (ht : Tracks s h c r o n st) (hlt : progress o.kind st r.stock < n)
    (hj : ∀ t : State, (t.holder h).state = r.state → (t.holder h).height = r.height → (t.holder h).lowStop = r.lowStop →
      (t.holder h).topStop = r.topStop → judgeLimits h c ⟨t, []⟩ = ⟨t, []⟩) :
    crownReply h c s = s.setHolder h { r with remainder := some (n - progress o.kind st r.stock) } := by
  rw [crownReply_of_tracks ht, track_of_short ht.active (ht.keeps.startStock.trans ht.start) ht.quantity hlt,
    hj _ (by simp) (by simp) (by simp) (by simp)]
  rfl

/-- At its quantity the order is COMPLETE (03 R50). -/
theorem crownReply_of_reached (ht : Tracks s h c r o n st) (hle : n ≤ progress o.kind st r.stock) :
    crownReply h c s
      = (judgeLimits h c (completeOrder h o ⟨s.setHolder h { r with remainder := some 0, terminal := true }, []⟩)).giveReply h := by
  rw [crownReply_of_tracks ht, track_of_reached ht.active (ht.keeps.startStock.trans ht.start) ht.quantity hle]

end

/-! ### A FILL and a DRAW that reach their quantities -/

section
variable {s : State} {h : HolderId} {c : CrownReading} {r : Holder} {o : Order} {n st : Nat} (ht : Tracks s h c r o n st)
  (hle : n ≤ progress o.kind st r.stock)

include ht hle

/-- A COMPLETE order with none behind it: its end action is judged by the limits (03 R50, R52). -/
theorem crownReply_of_last (hn : r.next = none) : crownReply h c s
    = (judgeLimits h c (endAction h o ⟨s.setHolder h { r with
        remainder := some 0, terminal := true, active := none, latches := { r.latches with orderDone := true } }, []⟩)).giveReply h := by
  have hw : r.activationWaits = false := ht.keeps.waits.trans ht.waits
  rw [crownReply_of_reached ht hle, completeOrder_of_last (by exact hn)]
  simp [hw]

section
variable (hm : s.yard.mode ≠ .hold) (hi : r.inletIntent = .opened) (ho : r.outletIntent = .closed) (hfeed : s.feedOf h = none)

include hm hi ho hfeed

/-- A FILL with no NEXT order behind it closes its inlet (03 R52). -/
theorem crownReply_fill_complete (hk : o.kind = .fill) (hn : r.next = none) : crownReply h c s
    = (s.setHolder h { r with
        remainder := some 0, terminal := true, active := none, latches := { r.latches with orderDone := true }
        state := .changing, inletIntent := .closed
        changeOver := some ⟨.standing, [.closeInlet], 0, true, some r.travel⟩ }).setDrive h (some .inletClosed) := by
  have hend (d : Draft) : endAction h o d = build h .standing d := by simp [endAction, hk]
  rw [crownReply_of_last ht hle hn, hend, build_of_closeInlet (ms := []) hm
    (by simp [hi, ho, hfeed, buildMoves, moveIf, Target.district, Target.inletOpen, Target.outletOpen]) rfl,
    judgeLimits_of_changing (by simp)]
  rfl

/-- A STAND order behind a FILL is activated, and closes the inlet (03 R43, R52). -/
theorem crownReply_fill_then_stand {p : Order} (hs : r.state ≠ .standing) (hn : r.next = some p)
    (hp : p = ⟨.stand, none, none, .stand, false⟩) : crownReply h c s
    = (s.setHolder h { r with
        remainder := none, startStock := none, terminal := true, active := some p, next := none
        latches := { r.latches with orderDone := true }
        state := .changing, inletIntent := .closed
        changeOver := some ⟨.standing, [.closeInlet], 0, true, some r.travel⟩ }).setDrive h (some .inletClosed) := by
  have hw : r.activationWaits = false := ht.keeps.waits.trans ht.waits
  rw [crownReply_of_reached ht hle, completeOrder_of_stand (by exact hn) hp (by exact hs), build_of_closeInlet (ms := []) hm
    (by simp [hi, ho, hfeed, buildMoves, moveIf, Target.district, Target.inletOpen, Target.outletOpen]) rfl,
    judgeLimits_of_changing (by simp)]
  simp [Draft.giveReply, hw]

end

section
variable {d : DistrictId} (hk : o.kind = .draw) (hn : r.next = none)

include hk hn

/-- Another DRAW with STAND leaves its district (03 R52). -/
theorem crownReply_draw_leaves (he : o.endAction = .stand) (hd : o.district = some d) (hm : s.yard.mode ≠ .hold)
    (hi : r.inletIntent = .closed) (ho : r.outletIntent = .opened) (hfeed : s.feedOf h = some d)
    (hother : (s.district d).state.inService = false ∨ ∃ g ∈ (s.district d).feeds, g ≠ h ∧ (s.holder g).answering = true) :
    crownReply h c s = (s.setHolder h { r with
        remainder := some 0, terminal := true, active := none, latches := { r.latches with orderDone := true }
        state := .changing, changeOver := some ⟨.standing, [.leave, .closeOutlet], 0, true, none⟩ }).send
      (.leaveNotice ⟨h, true, r.stagePressure, none, false, false⟩) := by
  have hnot : ¬ ((s.district d).state.inService = true
      ∧ ∀ g ∈ (s.district d).feeds, g = h ∨ (s.holder g).answering = false) := by
    rintro ⟨hservice, honly⟩
    rcases hother with hout | ⟨g, hg, hne, hanswer⟩
    · exact absurd hservice (by simp [hout])
    · rcases honly g hg with heq | hsilent
      · exact hne heq
      · exact absurd hanswer (by simp [hsilent])
  have ha := ht.keeps.answering
  rw [crownReply_of_last ht hle hn, endAction_of_stand hk he hd, if_neg (fun hx => hnot ((onlyFeed_setHolder d).1 hx)),
    build_of_leave (ms := [.closeOutlet]) hm
      (by simp [hi, ho, hfeed, buildMoves, moveIf, Target.district, Target.inletOpen, Target.outletOpen]) rfl,
    judgeLimits_of_changing (by simp)]
  simp [Draft.giveReply, replyNotice, joinOf, pendOf, ha]

variable (hs : r.state = .drawing) (hlow : r.lowStop < r.height) (hland : c.landing = false)

include hs hlow hland

/-- A DRAW with CONTINUE draws on (03 R52). -/
theorem crownReply_draw_continues (he : o.endAction = .cont) : crownReply h c s
    = s.setHolder h { r with
        remainder := some 0, terminal := true, active := none, latches := { r.latches with orderDone := true } } := by
  rw [crownReply_of_last ht hle hn, endAction_of_cont _ hk he, judgeLimits_of_above_low (by simpa using hs) (by simpa using hlow) hland]
  rfl

/-- The only answering feed of a district in service draws on, FORCED-CONTINUE (03 R53). -/
theorem crownReply_draw_forced (he : o.endAction = .stand) (hd : o.district = some d)
    (hservice : (s.district d).state.inService = true)
    (honly : ∀ g ∈ (s.district d).feeds, g = h ∨ (s.holder g).answering = false) : crownReply h c s
    = s.setHolder h { r with
        remainder := some 0, terminal := true, active := none
        latches := { r.latches with orderDone := true, forcedContinue := true } } := by
  rw [crownReply_of_last ht hle hn, endAction_of_stand hk he hd, if_pos ((onlyFeed_setHolder d).2 ⟨hservice, honly⟩),
    judgeLimits_of_above_low (by simpa using hs) (by simpa using hlow) hland]
  simp [Draft.giveReply]

end
end

/-- Settles O28: the refusals, the places of the stack, the FILL at once, and the tracking of a FILL and a DRAW. -/
theorem orderIsPlacedByTheStackRules : Obligations.OrderIsPlacedByTheStackRules := by
  unfold Obligations.OrderIsPlacedByTheStackRules
  intro s tag h q hr hm hq
  have fill {a : Result × State} (hf : (s.holder h).fitted = true) (ht : (s.holder h).takesOrders = true)
      (hp : place h ⟨.fill, none, q, .stand, false⟩ s = a) :
      exec (.order tag h .fill none q none) s = .next (withResponse a.2 tag 0x10 a.1 []) :=
    exec_order _ _ _ _ _ hr hm ((order_of_spelled hf ht (spelled_fill hq none)).trans ((tryOrder_of_passed rfl).trans hp))
  refine ⟨fun n hn => exec_order _ _ _ _ _ hr hm (onFitted_of_le s _ hn),
    fun hf => exec_order _ _ _ _ _ hr hm (onFitted_of_unfitted _ hf),
    fun hf hst => exec_order _ _ _ _ _ hr hm (order_of_untaken hf _ _ _ _ (takesOrders_of_state hst)),
    fun c hf hst hc ht ha => fill hf (takesOrders_of_changing hst hc ht) (place_of_change hc ha),
    fun c o hf hst hc ht ha hn => fill hf (takesOrders_of_changing hst hc ht) (place_of_active hc ha hn),
    fun o p hf ht ha hn => fill hf ht (place_of_full ha hn),
    fun hf hst hc ha hn hin hout hfeed hheight hwas =>
      fill hf (takesOrders_of_standing hst) (place_fill_with_room hm hst hc ha hin hout hfeed q hheight hwas),
    fun hf hst hc ha hn htop => fill hf (takesOrders_of_standing hst) (place_fill_at_top hc ha q hn htop), ?_⟩
  intro c o n st hf he hc ha hact hw hstart hq' hstroke hup hdown hland htop hio hic hoo hoc r hr' hpressure
  have step {t : State} (ht : crownReply h c (s.taken (.crownReply h c)) = t) : exec (.crownReply h c) s = .next t :=
    (exec_crownReply h c hr.1.1).trans (congrArg Host.Outcome.next ht)
  have hfeedOf : (s.taken (.crownReply h c)).feedOf h = s.feedOf h := feedOf_taken s h h c
  have hlatches : r.latches = (s.holder h).latches := by rw [hr']; rfl
  have tracks (hs : (s.holder h).state ≠ .recovering ∧ (s.holder h).state ≠ .faulted) :
      Tracks (s.taken (.crownReply h c)) h c r o n st ∧ Reads c { s.holder h with height := c.height, jump := none } r := by
    obtain ⟨hread, hkeeps, hreads⟩ := reading_of_answering hs.1 (takesHeight_of_near hland hstroke hup hdown) ha
      (provedBy_of_intent hio hic) (provedBy_of_intent hoo hoc) hr'
    exact ⟨{
      fitted := hf, linked := he, state := hs, read := hread, keeps := hkeeps, still := hkeeps.changeOver.trans hc
      told := if_pos ⟨ha, hpressure⟩
      inlet := inletAt_of_reads hkeeps hreads (provedBy_of_intent hio hic)
      outlet := outletAt_of_reads hkeeps hreads (provedBy_of_intent hoo hoc)
      waits := hw, start := hstart, active := hkeeps.active.trans hact, quantity := hq' }, hreads⟩
  refine ⟨fun hkind hst hin hout hfeed hheight => ?_, fun d hkind hd hst hin hout hfeed hheight => ?_⟩
  · obtain ⟨ht, hreads⟩ := tracks (by simp [hst])
    have hprogress : progress o.kind st r.stock = r.stock - st := by rw [progress, if_pos hkind]
    have htravel : r.travel = (s.holder h).travel := ht.keeps.travel
    rw [← hprogress, ← hlatches, ← htravel]
    refine ⟨fun hlt => step (crownReply_of_short ht hlt fun t hst' hheight' _ htop' => ?_), fun hle hn => step ?_,
      fun p hle hn hp => step ?_⟩
    · exact judgeLimits_of_below_top (by rw [hst', ht.keeps.state]; exact hst)
        (by rw [hheight', htop', hreads.height, hreads.topStop]; exact hheight) htop
    · exact crownReply_fill_complete ht hle (by simp [hm]) (ht.keeps.inlet.trans hin) (ht.keeps.outlet.trans hout)
        (hfeedOf.trans hfeed) hkind (ht.keeps.next.trans hn)
    · exact crownReply_fill_then_stand ht hle (by simp [hm]) (ht.keeps.inlet.trans hin) (ht.keeps.outlet.trans hout)
        (hfeedOf.trans hfeed) (by simp [ht.keeps.state, hst]) (ht.keeps.next.trans hn) hp
  · obtain ⟨ht, hreads⟩ := tracks (by simp [hst])
    have hprogress : progress o.kind st r.stock = st - r.stock := by simp [progress, hkind]
    have hst' : r.state = .drawing := ht.keeps.state.trans hst
    have hlow : r.lowStop < r.height := by rw [hreads.lowStop, hreads.height]; exact hheight
    rw [← hprogress, ← hlatches]
    refine ⟨fun hlt => step (crownReply_of_short ht hlt fun t hst'' hheight' hlow' _ => ?_), fun hle hn => ⟨fun hcont => step ?_,
      fun hstand hservice honly => step ?_, fun hstand hother => step ?_⟩⟩
    · exact judgeLimits_of_above_low (hst''.trans hst') (by rw [hheight', hlow']; exact hlow) hland
    · exact crownReply_draw_continues ht hle hkind (ht.keeps.next.trans hn) hst' hlow hland hcont
    · exact crownReply_draw_forced ht hle hkind (ht.keeps.next.trans hn) hst' hlow hland hstand hd hservice honly
    · exact crownReply_draw_leaves ht hle hkind (ht.keeps.next.trans hn) hstand hd (by simp [hm])
        (ht.keeps.inlet.trans hin) (ht.keeps.outlet.trans hout) (hfeedOf.trans hfeed) hother

end Sys2Proof.HolderOrders

/-! PROOFS. Automatic joins (03 R44, 04 R79, R80, R82): the DRAW that HOC places or refuses, the occasions that DIC takes, and the
answer that it reads (O54). -/

namespace Sys2Proof.AutoJoins

open Sys2Proof.Machine Sys2Proof.Safety Sys2Proof.HolderWork Sys2Proof.HolderRequests Sys2Proof.HolderOrders Sys2Proof.CrownReplies

/-! ### HOC places the automatic DRAW -/

theorem exec_automaticDraw {s : State} (h : HolderId) (d : DistrictId) (hr : s.running = true) :
    exec (.automaticDraw h d) s = .next (automaticDraw h d (s.taken (.automaticDraw h d))) :=
  whenRunning_of_running (fun s => automaticDraw h d (s.taken (.automaticDraw h d))) hr

theorem automaticDraw_of_unfitted {s : State} {h : HolderId} (d : DistrictId) (hf : (s.holder h).fitted = false) :
    automaticDraw h d s = s.send (.autoJoinAnswer h d .noRecord) := by
  rw [automaticDraw, onFitted_of_unfitted _ hf]

section
variable {s : State} {h : HolderId} (d : DistrictId) (hf : (s.holder h).fitted = true)

include hf

/-- No order is placed in SETUP (03 R61; log entry 29). -/
theorem automaticDraw_of_setup (hm : s.yard.mode = .setup) : automaticDraw h d s = s.send (.autoJoinAnswer h d .illegalMode) := by
  rw [automaticDraw, onFitted_of_fitted _ hf, if_pos hm]

theorem automaticDraw_of_untaken (hm : s.yard.mode ≠ .setup) (ht : (s.holder h).takesOrders = false) :
    automaticDraw h d s = s.send (.autoJoinAnswer h d .wrongState) := by
  rw [automaticDraw, onFitted_of_fitted _ hf, if_neg hm, if_pos (by simp [ht])]

/-- A holder that takes orders meets the rules of an ORDER (03 R44). -/
theorem automaticDraw_of_tried {result : Result} {t : State} (hm : s.yard.mode ≠ .setup) (ht : (s.holder h).takesOrders = true)
    (hp : tryOrder h ⟨.draw, some d, none, .cont, true⟩ s = (result, t)) :
    automaticDraw h d s = t.send (.autoJoinAnswer h d result) := by
  rw [automaticDraw, onFitted_of_fitted _ hf, if_neg hm, if_neg (by simp [ht]), hp]

end

/-- A message that alone stands in transit leaves none behind it. -/
theorem taken_of_alone {s : State} {m : Instr} (ht : s.inTransit = [m]) : s.taken m = { s with inTransit := [] } := by
  simp [State.taken, ht]

/-! ### DIC takes a notice that touches no feed list -/

/-- A change that leaves a district's record as it is changes nothing. -/
theorem modDistrict_of_same {s : State} {d : DistrictId} {f : District → District} (h : f (s.district d) = s.district d) :
    s.modDistrict d f = s := by
  simp [State.modDistrict, h]
  simp [State.district]

/-- Work over the districts that changes nothing but at one of them. -/
theorem foldl_districts {f : State → DistrictId → State} {d : DistrictId} {s t : State} (hbefore : ∀ e, e ≠ d → f s e = s)
    (hat : f s d = t) (hafter : ∀ e, e ≠ d → f t e = t) : districtIds.foldl f s = t := by
  have fixed (l : List DistrictId) (u : State) (hl : ∀ e ∈ l, f u e = u) : l.foldl f u = u := by
    induction l with
    | nil => rfl
    | cons e l ih =>
      rw [List.foldl_cons, hl e (by simp)]
      exact ih fun e he => hl e (by simp [he])
  obtain ⟨before, rest, hsplit⟩ := List.append_of_mem (Fitting.mem_districtIds d)
  have hnodup : (before ++ d :: rest).Nodup := hsplit ▸ (by decide)
  obtain ⟨-, hrest, hdisjoint⟩ := List.nodup_append.1 hnodup
  rw [hsplit, List.foldl_append, fixed before s fun e he => hbefore e (hdisjoint e he d (by simp)), List.foldl_cons, hat,
    fixed rest t fun e he => hafter e fun heq => (List.nodup_cons.1 hrest).1 (heq ▸ he)]

section
variable {m : Instr} {n : HolderNotice} {s : State} {d : DistrictId}

/-- A district whose lists a notice leaves, and whose feed list does not hold the holder, stays as it is (04 R76, R77). -/
theorem takeLists_of_same (hr : n.remove = false) (hsame : (s.district d).lists.after d m = (s.district d).lists)
    (hn : n.holder ∉ (s.district d).feeds) : takeLists m n (fun _ => false) s d = s := by
  have hfeeds : n.holder ∉ (s.district d).lists.feeds := hn
  simp only [takeLists, hsame, hr, touched, hfeeds, Bool.or_false, Bool.and_false, decide_false, Bool.false_eq_true, if_false]
  exact modDistrict_of_same rfl

/-- A district whose feed list holds the holder neither before nor after, and whose join in hand stands, is not evaluated (04 R76,
R81). -/
theorem evaluateAfter_of_untouched {before : State} (hbefore : n.holder ∉ (before.district d).feeds)
    (hafter : n.holder ∉ (s.district d).feeds) (hj : (s.district d).joinInHand = (before.district d).joinInHand) :
    evaluateAfter before n s d = s := by
  have hfeeds : n.holder ∉ (before.district d).lists.feeds := hbefore
  have hfeeds' : n.holder ∉ (s.district d).lists.feeds := hafter
  have hended : ((before.district d).joinInHand.isSome && (s.district d).joinInHand.isNone) = false := by
    rw [hj]
    cases (before.district d).joinInHand <;> rfl
  simp [evaluateAfter, touched, hfeeds, hfeeds', hended]

end

/-! ### Occasions -/

theorem runOccasions_of_none {s : State} (ho : s.occasions = []) : runOccasions s = s := by
  have hs : { s with occasions := [] } = s := by rw [← ho]
  rw [runOccasions, ho, tryJoins, hs]

/-- With an attempt in flight the occasions wait (04 R82; log entry 8). -/
theorem runOccasions_of_attempt {s : State} (ha : s.attempt.isSome = true) : runOccasions s = s := by
  cases ho : s.occasions with
  | nil => exact runOccasions_of_none ho
  | cons d ds =>
    have hs : { s with occasions := d :: ds } = s := by rw [← ho]
    rw [runOccasions, ho, tryJoins, if_pos ha, hs]

/-- One occasion, with no attempt in flight, is taken (04 R79). -/
theorem runOccasions_of_one {s : State} {d : DistrictId} (ho : s.occasions = [d]) (ha : s.attempt = none) :
    runOccasions s = { tryJoin d s with occasions := [] } := by
  rw [runOccasions, ho, tryJoins, ha]
  rfl

/-- A standing notice is an occasion for each district whose standby list holds the holder, in their order (04 R82). -/
theorem standingOccasions_eq (h : HolderId) (s : State) : standingOccasions h s
    = { s with occasions := s.occasions ++ districtIds.filter fun d => decide (h ∈ (s.district d).standby) } := by
  have each (l : List DistrictId) (o : List DistrictId) :
      l.foldl (fun s d => if h ∈ (s.district d).standby then occasion d s else s) { s with occasions := o }
        = { s with occasions := o ++ l.filter fun d => decide (h ∈ (s.district d).standby) } := by
    induction l generalizing o with
    | nil => simp
    | cons d l ih =>
      have hd : ({ s with occasions := o } : State).district d = s.district d := rfl
      rw [List.foldl_cons, hd]
      by_cases hin : h ∈ (s.district d).standby
      · rw [if_pos hin, List.filter_cons_of_pos (by simpa using hin)]
        exact (ih (o ++ [d])).trans (by rw [List.append_assoc]; rfl)
      · rw [if_neg hin, List.filter_cons_of_neg (by simpa using hin)]
        exact ih o
  exact each districtIds s.occasions

section
variable {s : State} {n : HolderNotice} (hp : n.pend = none) (hr : n.remove = false)
  (hfeeds : ∀ e : DistrictId, n.holder ∉ (s.district e).feeds)

include hp hr hfeeds

/-- A standing notice of a holder in no feed list: the values, then the occasions (04 R75, R82). -/
theorem takeNotice_standing : takeNotice (.standingNotice n) n (fun _ => false) true s
    = runOccasions (standingOccasions n.holder (s.setView n.holder ⟨n.answering, n.stagePressure⟩)) := by
  have hlists : districtIds.foldl (takeLists (.standingNotice n) n fun _ => false) (takeView n s) = takeView n s :=
    have same (e : DistrictId) : takeLists (.standingNotice n) n (fun _ => false) (takeView n s) e = takeView n s :=
      takeLists_of_same hr (by simp [Lists.after, Lists.take, hp, hr]) (hfeeds e)
    foldl_districts (d := 0) (fun e _ => same e) (same 0) fun e _ => same e
  have heval : districtIds.foldl (evaluateAfter s n) (takeView n s) = takeView n s :=
    have same (e : DistrictId) : evaluateAfter s n (takeView n s) e = takeView n s :=
      evaluateAfter_of_untouched (hfeeds e) (hfeeds e) rfl
    foldl_districts (d := 0) (fun e _ => same e) (same 0) fun e _ => same e
  rw [takeNotice, hlists, heval, Bool.true_or, if_pos rfl, takeView]

/-- A join-pending notice of a holder in no feed list counts it among the pending joins (04 R75, R76). -/
theorem takeNotice_pending (d : DistrictId) (hs : n.standing = false) (ho : s.occasions = []) :
    takeNotice (.joinPendingNotice n d) n (fun _ => false) false s
      = (s.setView n.holder ⟨n.answering, n.stagePressure⟩).modDistrict d fun r =>
        { r with pendingJoins := addNew r.pendingJoins n.holder } := by
  let t := (takeView n s).modDistrict d fun r => { r with pendingJoins := addNew r.pendingJoins n.holder }
  have hother (e : DistrictId) (he : e ≠ d) : t.district e = s.district e := State.district_modDistrict_ne _ _ he
  have hafter (e : DistrictId) (he : e ≠ d) (l : Lists) : l.after e (.joinPendingNotice n d) = l := by
    simp [Lists.after, Lists.take, hp, hr, he.symm]
  have hlists : districtIds.foldl (takeLists (.joinPendingNotice n d) n fun _ => false) (takeView n s) = t := by
    refine foldl_districts (d := d) (fun e he => takeLists_of_same hr (hafter e he _) (hfeeds e)) ?_
      fun e he => takeLists_of_same hr (hafter e he _) (by rw [hother e he]; exact hfeeds e)
    have hpend : ((takeView n s).district d).lists.after d (.joinPendingNotice n d)
        = ((takeView n s).district d).lists.pend n.holder := by
      simp [Lists.after, Lists.take, hp, hr]
    have hnot : n.holder ∉ ((takeView n s).district d).lists.feeds := hfeeds d
    simp only [takeLists, hpend, hr, touched, Lists.pend, hnot, Bool.or_false, Bool.and_false, decide_false, Bool.false_eq_true, if_false]
    exact StationReplies.modDistrict_congr rfl
  have heval : districtIds.foldl (evaluateAfter s n) t = t :=
    have same (e : DistrictId) : evaluateAfter s n t e = t := by
      by_cases he : e = d
      · subst he
        exact evaluateAfter_of_untouched (hfeeds e) (by simpa [t, takeView] using hfeeds e) (by simp [t, takeView])
      · exact evaluateAfter_of_untouched (hfeeds e) (by rw [hother e he]; exact hfeeds e) (by rw [hother e he])
    foldl_districts (d := 0) (fun e _ => same e) (same 0) fun e _ => same e
  rw [takeNotice, hlists, heval, hs, Bool.false_or, if_neg (by simp)]
  exact runOccasions_of_none (s := t) ho

end

/-! ### Attempts -/

/-- The conditions of 04 R79. -/
theorem mayAttempt_iff (s : State) (d : DistrictId) : mayAttempt s (s.district d) = true ↔ Attempts s d := by
  simp [mayAttempt, Attempts, and_assoc]

/-- The candidates of 04 R80. -/
theorem isCandidate_iff (s : State) (required : Nat) (h : HolderId) : isCandidate s required h = true ↔ Candidate s required h := by
  simp [isCandidate, Candidate, Fitting.mem_districtIds, and_assoc]

section
variable {s : State} {d : DistrictId}

theorem tryJoin_of_no_attempt (ha : ¬ Attempts s d) : tryJoin d s = s := by
  simp [tryJoin, (mayAttempt_iff s d).not.2 ha]

variable (ha : Attempts s d)

include ha

/-- With no room in the district, or no candidate, an attempt fails (04 R80). -/
theorem tryJoin_of_failure (hfail : 3 ≤ (s.district d).feeds.length + (s.district d).pendingJoins.length
    ∨ ∀ k ∈ (s.district d).standby, ¬ Candidate s (s.district d).required k) : tryJoin d s = joinFailed d s := by
  have hmay := (mayAttempt_iff s d).2 ha
  by_cases hfull : Config.maxFeeds ≤ (s.district d).feeds.length + (s.district d).pendingJoins.length
  · simp [tryJoin, hmay, hfull]
  · have hnone : (s.district d).standby.find? (isCandidate s (s.district d).required) = none := by
      refine List.find?_eq_none.2 fun k hk => ?_
      rcases hfail with hfail | hfail
      · exact absurd hfail hfull
      · exact (isCandidate_iff ..).not.2 (hfail k hk)
    simp [tryJoin, hmay, hfull, hnone]

/-- The first candidate of the standby list is sent the automatic DRAW (04 R80). -/
theorem tryJoin_of_candidate {before rest : List HolderId} {k : HolderId}
    (hroom : (s.district d).feeds.length + (s.district d).pendingJoins.length < 3)
    (hstandby : (s.district d).standby = before ++ k :: rest)
    (hbefore : ∀ j ∈ before, ¬ Candidate s (s.district d).required j) (hk : Candidate s (s.district d).required k) :
    tryJoin d s = ({ s with attempt := some ⟨d, k⟩ }).send (.automaticDraw k d) := by
  have hmay := (mayAttempt_iff s d).2 ha
  have hfree : ¬ Config.maxFeeds ≤ (s.district d).feeds.length + (s.district d).pendingJoins.length := Nat.not_le.2 hroom
  have hfirst : (s.district d).standby.find? (isCandidate s (s.district d).required) = some k := by
    rw [hstandby]
    exact List.find?_eq_some_iff_append.2 ⟨(isCandidate_iff ..).2 hk, before, rest, rfl, fun j hj => by
      simpa using (isCandidate_iff ..).not.2 (hbefore j hj)⟩
  simp [tryJoin, hmay, hfree, hfirst]

end

/-! ### The answer -/

theorem exec_autoJoinAnswer {s : State} (h : HolderId) (d : DistrictId) (result : Result) (hr : s.running = true) :
    exec (.autoJoinAnswer h d result) s = .next (autoJoinAnswer h d result (s.taken (.autoJoinAnswer h d result))) :=
  whenRunning_of_running (fun s => autoJoinAnswer h d result (s.taken (.autoJoinAnswer h d result))) hr

/-- With no such notice in transit DIC reads the answer at once (04 R80). -/
theorem takePendingFirst_of_none {s : State} {h : HolderId} {d : DistrictId}
    (hn : ∀ n, .joinPendingNotice n d ∈ s.inTransit → n.holder ≠ h) : takePendingFirst h d s = s := by
  have hnone : pendingNotice h d s = none := by
    refine List.findSome?_eq_none_iff.2 fun m hm => ?_
    split
    · rename_i n e
      exact if_neg fun ⟨hh, he⟩ => hn n (he ▸ hm) hh
    · rfl
  rw [takePendingFirst, hnone]

/-- The join-pending notice that alone stands in transit is taken first (04 R80). -/
theorem takePendingFirst_of_notice {s : State} {n : HolderNotice} {d : DistrictId} (hp : n.pend = none) (hr : n.remove = false)
    (hs : n.standing = false) (ho : s.occasions = []) (ht : s.inTransit = [.joinPendingNotice n d])
    (hfeeds : ∀ e : DistrictId, n.holder ∉ (s.district e).feeds) : takePendingFirst n.holder d s
      = (State.setView { s with inTransit := [] } n.holder ⟨n.answering, n.stagePressure⟩).modDistrict d fun r =>
        { r with pendingJoins := addNew r.pendingJoins n.holder } := by
  have hfound : pendingNotice n.holder d s = some n := by simp [pendingNotice, ht]
  rw [takePendingFirst, hfound]
  dsimp only
  rw [taken_of_alone ht]
  exact takeNotice_pending (s := { s with inTransit := [] }) hp hr hfeeds d hs ho

section
variable {s t : State} {h : HolderId} {d : DistrictId} (hp : takePendingFirst h d s = t) (ho : t.occasions = [])

include hp ho

/-- With the holder among the pending joins the join is in hand (04 R80). -/
theorem autoJoinAnswer_of_started (hin : h ∈ (t.district d).pendingJoins) : autoJoinAnswer h d .done s
    = { (t.modDistrict d fun r => { r with
        joinInHand := some h, latches := { r.latches with autoJoinStarted := true } }) with attempt := none } := by
  subst hp
  have hin' : h ∈ (({ takePendingFirst h d s with attempt := none } : State).district d).pendingJoins := hin
  simp only [autoJoinAnswer, hin', decide_true, Bool.and_self, if_true]
  exact runOccasions_of_none ho

/-- Otherwise the attempt has failed (04 R80). -/
theorem autoJoinAnswer_of_failed {result : Result} (hnot : result ≠ .done ∨ h ∉ (t.district d).pendingJoins) :
    autoJoinAnswer h d result s = { (t.modDistrict d fun r => { r with
      latches := { r.latches with autoJoinFailed := true } }) with attempt := none } := by
  subst hp
  have hstarted : (decide (result = .done)
      && decide (h ∈ (({ takePendingFirst h d s with attempt := none } : State).district d).pendingJoins)) = false := by
    rcases hnot with hnot | hnot
    · rw [decide_eq_false hnot, Bool.false_and]
    · rw [Bool.and_comm, Bool.and_eq_false_imp]
      exact fun hin => absurd (of_decide_eq_true hin) hnot
  simp only [autoJoinAnswer, hstarted, Bool.false_eq_true, if_false]
  exact runOccasions_of_none ho

end

/-- The pending join is taken before the answer that stands behind it, and the join is in hand (04 R80). -/
theorem autoJoinAnswer_of_notice {s : State} {n : HolderNotice} {d : DistrictId} (hp : n.pend = none) (hr : n.remove = false)
    (hs : n.standing = false) (ho : s.occasions = []) (ht : s.inTransit = [.joinPendingNotice n d])
    (hfeeds : ∀ e : DistrictId, n.holder ∉ (s.district e).feeds) : autoJoinAnswer n.holder d .done s
      = { ((s.setView n.holder ⟨n.answering, n.stagePressure⟩).modDistrict d fun r => { r with
          pendingJoins := addNew r.pendingJoins n.holder, joinInHand := some n.holder
          latches := { r.latches with autoJoinStarted := true } }) with inTransit := [], attempt := none } := by
  have hfirst := takePendingFirst_of_notice hp hr hs ho ht hfeeds
  have hin : n.holder ∈ addNew (s.district d).pendingJoins n.holder := by
    unfold addNew
    split <;> simp [*]
  have hpending (t : State) (he : t.district d = s.district d) : n.holder ∈ ((t.modDistrict d fun r =>
      { r with pendingJoins := addNew r.pendingJoins n.holder }).district d).pendingJoins := by
    rw [State.district_modDistrict_self, he]
    exact hin
  rw [autoJoinAnswer_of_started hfirst (by simpa using ho) (hpending _ rfl), State.modDistrict_modDistrict]
  rfl

/-! ### A standing notice -/

theorem occasions_of_standing {s : State} {n : HolderNotice} (ho : s.occasions = []) :
    { (s.taken (.standingNotice n)).setView n.holder ⟨n.answering, n.stagePressure⟩ with occasions := [] }
      = (s.taken (.standingNotice n)).setView n.holder ⟨n.answering, n.stagePressure⟩ := by
  rw [← ho]
  rfl

section
variable {s t : State} {n : HolderNotice} (hrun : s.running = true) (hp : n.pend = none) (hr : n.remove = false)
  (hfeeds : ∀ e : DistrictId, n.holder ∉ (s.district e).feeds)
  (ht : t = (s.taken (.standingNotice n)).setView n.holder ⟨n.answering, n.stagePressure⟩)

include hrun hp hr hfeeds ht

/-- What a standing notice of a holder in no feed list comes to: its values, and its occasions (04 R75, R82). -/
theorem exec_standingNotice : exec (.standingNotice n) s = .next (runOccasions { t with
    occasions := s.occasions ++ districtIds.filter fun e => decide (n.holder ∈ (s.district e).standby) }) := by
  subst ht
  refine (whenRunning_of_running (takesNotice (.standingNotice n) n (fun _ => false) true) hrun).trans
    (congrArg Host.Outcome.next ?_)
  rw [takesNotice, takeNotice_standing (s := s.taken (.standingNotice n)) hp hr hfeeds, standingOccasions_eq]
  rfl

/-- The holder stands in one standby list, and no attempt is in flight: its district's occasion is taken (04 R79, R82). -/
theorem exec_standingNotice_of_one {d : DistrictId} (hstandby : ∀ e : DistrictId, n.holder ∈ (s.district e).standby ↔ e = d)
    (ho : s.occasions = []) (ha : s.attempt = none) :
    exec (.standingNotice n) s = .next { tryJoin d { t with occasions := [d] } with occasions := [] } := by
  have hone : ∀ d : DistrictId, districtIds.filter (fun e => decide (e = d)) = [d] := by decide
  have hocc : (s.occasions ++ districtIds.filter fun e => decide (n.holder ∈ (s.district e).standby)) = [d] := by
    simp only [ho, hstandby, hone, List.nil_append]
  rw [exec_standingNotice hrun hp hr hfeeds ht, hocc, runOccasions_of_one rfl (by subst ht; exact ha)]

end

/-- Settles O54: HOC's refusals and its DRAW, the answer with and without the pending join, and the occasions of a standing notice. -/
theorem automaticJoinsAreAnswered : Obligations.AutomaticJoinsAreAnswered := by
  unfold Obligations.AutomaticJoinsAreAnswered
  intro s h d hrun
  have draw {t : State} (ht : automaticDraw h d (s.taken (.automaticDraw h d)) = t) : exec (.automaticDraw h d) s = .next t :=
    (exec_automaticDraw h d hrun).trans (congrArg Host.Outcome.next ht)
  have answer {result : Result} {t : State} (ht : autoJoinAnswer h d result (s.taken (.autoJoinAnswer h d result)) = t) :
      exec (.autoJoinAnswer h d result) s = .next t :=
    (exec_autoJoinAnswer h d result hrun).trans (congrArg Host.Outcome.next ht)
  refine ⟨fun hf => draw (automaticDraw_of_unfitted d hf), fun hf hm => draw (automaticDraw_of_setup d hf hm),
    fun hf hm hst => draw (automaticDraw_of_untaken d hf hm (takesOrders_of_state hst)),
    fun hf hst hc ha hn hin hout htransit hfeeds hnout hntrip hroom hlow hland hm => draw ?_,
    fun ho hnone =>
      have first (result : Result) : takePendingFirst h d (s.taken (.autoJoinAnswer h d result)) = s.taken (.autoJoinAnswer h d result) :=
        takePendingFirst_of_none fun n hn => hnone n (List.mem_of_mem_erase hn)
      ⟨fun hpending => answer (autoJoinAnswer_of_started (first .done) ho hpending),
        fun result hres => answer (autoJoinAnswer_of_failed (first result) ho hres)⟩,
    fun n hh hp hr hs ho htransit hfeeds => answer ?_,
    fun n t hp hr hfeeds ht => ?_⟩
  · rw [taken_of_alone htransit]
    have hpass := (checkOrder_of_kind (s := { s with inTransit := [] }) (h := h) (o := ⟨.draw, some d, none, .cont, true⟩) (.inl rfl)
      rfl).trans (checkDistrict_of_room hnout hntrip (by simp) (.inr hroom))
    have hfeed : State.feedOf { s with inTransit := [] } h = none := feedOf_of_no_feeds rfl hfeeds
    have hmode : s.yard.mode ≠ .setup := by simp [hm]
    rw [automaticDraw_of_tried (s := { s with inTransit := [] }) d hf hmode (takesOrders_of_standing hst) ((tryOrder_of_passed hpass).trans
      (place_draw (s := { s with inTransit := [] }) hm hst hc ha hin hout hfeed rfl rfl hpass hlow hland))]
    rfl
  · subst hh
    have hleft : s.taken (.autoJoinAnswer n.holder d .done) = { s with inTransit := [.joinPendingNotice n d] } := by
      simp [State.taken, htransit]
    rw [hleft]
    exact autoJoinAnswer_of_notice (s := { s with inTransit := [.joinPendingNotice n d] }) hp hr hs ho rfl hfeeds
  · subst ht
    refine ⟨fun ha => ?_, fun hstandby ho => ?_, fun hstandby ho ha => ?_⟩
    · rw [exec_standingNotice hrun hp hr hfeeds rfl, runOccasions_of_attempt (by exact ha)]
    · have hocc : (s.occasions ++ districtIds.filter fun e => decide (n.holder ∈ (s.district e).standby)) = s.occasions := by
        simp [hstandby]
      rw [exec_standingNotice hrun hp hr hfeeds rfl, hocc]
      exact congrArg Host.Outcome.next (runOccasions_of_none ho)
    · have hone := exec_standingNotice_of_one hrun hp hr hfeeds rfl hstandby ho ha
      have hsame := occasions_of_standing (n := n) ho
      refine ⟨fun hnot => ?_, fun hatt => ⟨fun hfail => ?_, fun before k rest hroom hsplit hbefore hk => ?_⟩⟩
      · rw [hone, tryJoin_of_no_attempt (by exact hnot)]
        exact congrArg Host.Outcome.next hsame
      · rw [hone, tryJoin_of_failure (by exact hatt) (by exact hfail), ← hsame]
        rfl
      · rw [hone, tryJoin_of_candidate (before := before) (rest := rest) (k := k) (by exact hatt) (by exact hroom) (by exact hsplit)
          (by exact hbefore) (by exact hk), ← hsame]
        rfl

end Sys2Proof.AutoJoins

/-! PROOFS. The work of the District Controller (04): what judging a district, adjusting its values and taking its occasions can do,
each said once (R71, R72, R78 to R82). -/

namespace Sys2Proof.DistrictWork

open Sys2Proof.Machine Sys2Proof.Safety Sys2Proof.StationReplies

/-! ### Evaluation -/

theorem judgedState_eq (s : State) (r : District) : judgedState s r = stateOfFeeds s.view r.feeds r.required r.available := by
  simp only [judgedState, stateOfFeeds, answeringFeeds, List.isEmpty_iff, List.filter_eq_nil_iff, List.all_eq_true, Bool.not_eq_true,
    Bool.not_eq_eq_eq_not, Bool.not_true]

theorem stateOfFeeds_inService (view : HolderId → View) (feeds : List HolderId) (required available : Nat) :
    (stateOfFeeds view feeds required available).inService = true := by
  unfold stateOfFeeds
  repeat' split
  all_goals rfl

/-- A district that takes a state: SHORT and STARVED latch as they are entered (04 R78). -/
def entering (st : DistrictState) (r : District) : District :=
  { r with
    state := st
    latches := { r.latches with
      starved := r.latches.starved || decide (st = .starved ∧ r.state ≠ .starved)
      short := r.latches.short || decide (st = .short ∧ r.state ≠ .short) } }

theorem entering_same (r : District) : entering r.state r = r := by
  simp [entering]

/-- The occasion that the change of a state makes (04 R78, R79). -/
def entryOccasion (d : DistrictId) (before st : DistrictState) : List DistrictId :=
  if st ≠ before ∧ st ≠ .serving then [d] else []

/-- A district takes a state, with its latch and its occasion (04 R78). -/
def enterState (d : DistrictId) (st : DistrictState) (s : State) : State :=
  { s.modDistrict d (entering st) with occasions := s.occasions ++ entryOccasion d (s.district d).state st }

theorem enterState_same (d : DistrictId) (s : State) : enterState d (s.district d).state s = s := by
  simp [enterState, entryOccasion, AutoJoins.modDistrict_of_same (entering_same _)]

/-- A state of a district in service that differs from the one before latches as it is entered (04 R78, R88). -/
theorem entering_of_entered {st : DistrictState} {r : District} (hst : st ≠ r.state) (hin : st.inService = true) :
    ({ r with state := st, latches := r.latches.enter st } : District) = entering st r := by
  have hne : r.state ≠ st := hst.symm
  cases st with
  | out => cases hin
  | tripped => cases hin
  | serving => simp [entering, DistrictLatches.enter]
  | short => simp [entering, DistrictLatches.enter, hne]
  | starved => simp [entering, DistrictLatches.enter, hne]

theorem takeJudged_eq (d : DistrictId) (s : State) :
    takeJudged d s = enterState d (judgedState s (s.district d)) s := by
  have hin : (judgedState s (s.district d)).inService = true := by
    rw [judgedState_eq]
    exact stateOfFeeds_inService ..
  unfold takeJudged
  generalize hj : judgedState s (s.district d) = st at hin ⊢
  dsimp only
  rw [hj]
  split
  · rename_i hst
    rw [hst, enterState_same]
  · rename_i hst
    rw [modDistrict_congr (g := entering st) (entering_of_entered hst hin)]
    split
    · rename_i hserving
      rw [enterState, entryOccasion, if_neg (by simp [hserving]), List.append_nil]
      rfl
    · rename_i hserving
      rw [enterState, entryOccasion, if_pos ⟨hst, hserving⟩]
      rfl

/-- The state in which an evaluation leaves a district (04 R78). -/
def evaluated (s : State) (r : District) : DistrictState :=
  if r.state.inService = true then stateOfFeeds s.view r.feeds r.required r.available else r.state

theorem evaluate_eq (d : DistrictId) (s : State) : evaluate d s = enterState d (evaluated s (s.district d)) s := by
  unfold evaluate evaluated
  split
  · rw [takeJudged_eq, judgedState_eq]
  · rw [enterState_same]

/-- A second evaluation finds the state of the first (04 R78). -/
theorem evaluate_evaluate (d : DistrictId) (s : State) : evaluate d (evaluate d s) = evaluate d s := by
  have hst : evaluated (evaluate d s) ((evaluate d s).district d) = ((evaluate d s).district d).state := by
    have hrec : (evaluate d s).district d = entering (evaluated s (s.district d)) (s.district d) := by
      rw [evaluate_eq]
      exact State.district_modDistrict_self ..
    have hview : (evaluate d s).view = s.view := by
      rw [evaluate_eq]
      rfl
    rw [hrec]
    simp only [evaluated, hview, entering]
    by_cases hin : (s.district d).state.inService = true
    · simp [hin, stateOfFeeds_inService]
    · simp [hin]
  rw [evaluate_eq d (evaluate d s), hst, enterState_same]

/-! ### Values that change -/

/-- A district's record once its values have been adjusted: the loading worked again, and in flight where it has changed in service
(04 R71, R72). -/
def adjusted (f : District → District) (r : District) : District :=
  { (f r).recompute with
    inFlight := if (f r).state.inService = true ∧ (f r).recompute.loading ≠ r.loading then some (f r).recompute.loading
      else (f r).inFlight }

/-- The state once a district's values have been adjusted and a changed loading delivered, before its evaluation (04 R72). -/
def delivered (d : DistrictId) (f : District → District) (s : State) : State :=
  if (f (s.district d)).state.inService = true ∧ (f (s.district d)).recompute.loading ≠ (s.district d).loading then
    (s.modDistrict d (adjusted f)).setLoadingCommand d (some (f (s.district d)).recompute.loading)
  else s.modDistrict d (adjusted f)

theorem delivered_district (d : DistrictId) (f : District → District) (s : State) :
    (delivered d f s).district d = adjusted f (s.district d) := by
  unfold delivered
  split <;> simp

theorem adjustDistrict_eq (d : DistrictId) (f : District → District) (s : State) : adjustDistrict d f s
    = if (f (s.district d)).recompute.required ≠ (s.district d).required then evaluate d (delivered d f s) else delivered d f s := by
  have hplace : (if (f (s.district d)).state.inService = true ∧ (f (s.district d)).recompute.loading ≠ (s.district d).loading then
      placeLoading d (s.modDistrict d fun r => (f r).recompute) else s.modDistrict d fun r => (f r).recompute) = delivered d f s := by
    unfold delivered
    split
    · rename_i h
      rw [placeLoading_eq, State.modDistrict_modDistrict, State.district_modDistrict_self]
      exact congrArg (State.setLoadingCommand · d _) (modDistrict_congr (by simp [adjusted, h]))
    · rename_i h
      exact modDistrict_congr (by rw [adjusted, if_neg h]; rfl)
  simp only [adjustDistrict, State.district_modDistrict_self]
  rw [← hplace]
  rfl

/-- An evaluation behind an adjustment is made whether or not the required pressure has changed (04 R72, R78). -/
theorem evaluate_adjustDistrict (d : DistrictId) (f : District → District) (s : State) :
    evaluate d (adjustDistrict d f s) = evaluate d (delivered d f s) := by
  rw [adjustDistrict_eq]
  split
  · exact evaluate_evaluate d _
  · rfl

/-! ### What stays beside the districts -/

/-- From `s` to `t` only the districts, the occasions, the attempt, the messages and the line have changed. -/
def Beside (s t : State) : Prop := t = { s with
  districts := t.districts, occasions := t.occasions, attempt := t.attempt, inTransit := t.inTransit, line := t.line }

theorem Beside.refl (s : State) : Beside s s := rfl

theorem Beside.trans {s t u : State} (h : Beside s t) (k : Beside t u) : Beside s u := by
  unfold Beside at h k ⊢
  rw [k, h]

theorem Beside.kept {s t : State} (h : Beside s t) : t.yard = s.yard ∧ t.balance = s.balance ∧ t.holders = s.holders
    ∧ t.views = s.views ∧ t.bke = s.bke ∧ t.rst = s.rst ∧ t.rex = s.rex := by
  unfold Beside at h
  rw [h]
  exact ⟨rfl, rfl, rfl, rfl, rfl, rfl, rfl⟩

theorem Beside.view {s t : State} (h : Beside s t) : t.view = s.view := by
  unfold Beside at h
  rw [h]
  rfl

theorem beside_evaluate (d : DistrictId) (s : State) : Beside s (evaluate d s) := (judged_evaluate d s).others

theorem beside_delivered (d : DistrictId) (f : District → District) (s : State) : Beside s (delivered d f s) := by
  unfold delivered
  split <;> rfl

theorem beside_adjustDistrict (d : DistrictId) (f : District → District) (s : State) : Beside s (adjustDistrict d f s) := by
  rw [adjustDistrict_eq]
  split
  · exact (beside_delivered d f s).trans (beside_evaluate d _)
  · exact beside_delivered d f s

/-- What each of a list's pieces of work leaves alone, all of them leave alone. -/
theorem Beside.foldl {α : Type} {f : State → α → State} (hf : ∀ s a, Beside s (f s a)) (l : List α) (s : State) :
    Beside s (l.foldl f s) := by
  induction l generalizing s with
  | nil => exact .refl s
  | cons a l ih => exact (hf s a).trans (ih _)

/-! ### Occasions -/

/-- A district's record but for its AUTO-JOIN-FAILED latch. -/
def withFailed (b : Bool) (r : District) : District := { r with latches := { r.latches with autoJoinFailed := b } }

/-- From `s` to `t` occasions have been taken: AUTO-JOIN-FAILED may be latched, an attempt made and its message given (04 R79, R80). -/
structure Tried (s t : State) : Prop where
  districts : ∀ e, ∃ b, t.district e = withFailed b (s.district e)
  others : t = { s with districts := t.districts, occasions := t.occasions, attempt := t.attempt, inTransit := t.inTransit }

theorem Tried.trans {s t u : State} (h : Tried s t) (k : Tried t u) : Tried s u where
  districts e := by
    obtain ⟨_, hb⟩ := h.districts e
    obtain ⟨c, hc⟩ := k.districts e
    exact ⟨c, by rw [hc, hb]; rfl⟩
  others := by rw [k.others, h.others]

theorem tried_of_districts {s t : State} (hd : t.districts = s.districts)
    (ho : t = { s with districts := t.districts, occasions := t.occasions, attempt := t.attempt, inTransit := t.inTransit }) :
    Tried s t := ⟨fun e => ⟨(s.district e).latches.autoJoinFailed, by rw [State.district, hd]; rfl⟩, ho⟩

theorem tried_joinFailed (d : DistrictId) (s : State) : Tried s (joinFailed d s) where
  districts e := by
    by_cases he : e = d
    · subst he
      exact ⟨true, State.district_modDistrict_self ..⟩
    · exact ⟨(s.district e).latches.autoJoinFailed, State.district_modDistrict_ne _ _ he⟩
  others := rfl

theorem tried_tryJoin (d : DistrictId) (s : State) : Tried s (tryJoin d s) := by
  unfold tryJoin
  dsimp only
  split
  · exact tried_of_districts rfl rfl
  · split
    · exact tried_joinFailed d s
    · split
      · exact tried_of_districts rfl rfl
      · exact tried_joinFailed d s

theorem tried_tryJoins (ds : List DistrictId) (s : State) : Tried s (tryJoins ds s) := by
  induction ds generalizing s with
  | nil => exact tried_of_districts rfl rfl
  | cons d ds ih =>
    unfold tryJoins
    split
    · exact tried_of_districts rfl rfl
    · exact (tried_tryJoin d s).trans (ih _)

theorem tried_runOccasions (s : State) : Tried s (runOccasions s) := tried_tryJoins _ s

theorem Tried.beside {s t : State} (h : Tried s t) : Beside s t := by
  unfold Beside
  rw [h.others]

/-! ### One district after another -/

/-- The records of a district, as far as the work on another leaves them: its own and its governor's entry. -/
structure SameAt (e : DistrictId) (s t : State) : Prop where
  district : t.district e = s.district e
  governor : t.governorEntry e = s.governorEntry e

theorem SameAt.refl (e : DistrictId) (s : State) : SameAt e s s := ⟨rfl, rfl⟩

theorem SameAt.trans {e : DistrictId} {s t u : State} (h : SameAt e s t) (k : SameAt e t u) : SameAt e s u :=
  ⟨k.district.trans h.district, k.governor.trans h.governor⟩

theorem sameAt_modDistrict {d e : DistrictId} (s : State) (f : District → District) (he : e ≠ d) : SameAt e s (s.modDistrict d f) :=
  ⟨State.district_modDistrict_ne _ _ he, rfl⟩

/-- The governor's entry that a loading is placed on is its district's alone (04 R72). -/
theorem governorEntry_setLoadingCommand (s : State) (d e : DistrictId) (l : Option Nat) : (s.setLoadingCommand d l).governorEntry e
    = if e = d then (s.governorEntry e).map fun x => { x with command := l.map Command.loading } else s.governorEntry e := by
  have h := linked_modLinked s.line .governor (.district d) (l.map Command.loading) .governor (.district e)
  refine h.trans ?_
  have hlinked : ∀ x, s.line.linked .governor (.district e) = some x → x.kind = .governor ∧ x.link = .district e := by
    intro x hx
    simpa using List.find?_some hx
  show Option.map _ (s.governorEntry e) = _
  cases hx : s.governorEntry e with
  | none => simp
  | some x =>
    obtain ⟨hk, hl⟩ := hlinked x hx
    by_cases he : e = d <;> simp [hk, hl, he]

theorem sameAt_evaluate {d e : DistrictId} (s : State) (he : e ≠ d) : SameAt e s (evaluate d s) := by
  rw [evaluate_eq]
  exact ⟨State.district_modDistrict_ne _ _ he, rfl⟩

theorem sameAt_delivered {d e : DistrictId} (f : District → District) (s : State) (he : e ≠ d) : SameAt e s (delivered d f s) := by
  unfold delivered
  split
  · refine (sameAt_modDistrict s (adjusted f) he).trans ⟨rfl, ?_⟩
    rw [governorEntry_setLoadingCommand, if_neg he]
  · exact sameAt_modDistrict s (adjusted f) he

theorem sameAt_adjustDistrict {d e : DistrictId} (f : District → District) (s : State) (he : e ≠ d) :
    SameAt e s (adjustDistrict d f s) := by
  rw [adjustDistrict_eq]
  split
  · exact (sameAt_delivered f s he).trans (sameAt_evaluate _ he)
  · exact sameAt_delivered f s he

/-- Work on each district in turn comes, for one of them, to its own work alone: what stands before and behind it leaves its records. -/
theorem foldl_at {f : State → DistrictId → State} (hbeside : ∀ s d, Beside s (f s d))
    (hf : ∀ s d e, e ≠ d → SameAt e s (f s d)) (s : State) (e : DistrictId) :
    ∃ u, Beside s u ∧ SameAt e s u ∧ SameAt e (f u e) (districtIds.foldl f s) := by
  have others (l : List DistrictId) (hl : e ∉ l) (s : State) : SameAt e s (l.foldl f s) := by
    induction l generalizing s with
    | nil => exact .refl e s
    | cons d l ih =>
      obtain ⟨hd, hl⟩ := not_or.1 (List.mem_cons.not.1 hl)
      exact (hf s d e hd).trans (ih hl _)
  obtain ⟨before, rest, hsplit⟩ := List.append_of_mem (Fitting.mem_districtIds e)
  have hnodup : (before ++ e :: rest).Nodup := hsplit ▸ (by decide)
  obtain ⟨hbefore, hrest⟩ : e ∉ before ∧ e ∉ rest := by
    simp only [List.nodup_append, List.nodup_cons] at hnodup
    obtain ⟨-, ⟨hrest, -⟩, hdisjoint⟩ := hnodup
    exact ⟨fun he => hdisjoint e he e (by simp) rfl, hrest⟩
  refine ⟨before.foldl f s, .foldl hbeside before s, others before hbefore s, ?_⟩
  rw [hsplit, List.foldl_append, List.foldl_cons]
  exact others rest hrest _

end Sys2Proof.DistrictWork

/-! PROOFS. Requests on a district: the work of DIC reads nothing of REX, so that each is answered at its start (11 R194); DISTRICT-IN,
DISTRICT-RESTORE and DISTRICT-OUT (04 R84 to R86; O31, O32). -/

namespace Sys2Proof.DistrictRequests

open Sys2Proof.Machine Sys2Proof.Safety Sys2Proof.StationReplies Sys2Proof.HolderOrders Sys2Proof.AutoJoins Sys2Proof.DistrictWork

/-! ### District work reads nothing of REX -/

section
variable (x : Rex)

@[simp] theorem district_withRex (s : State) (d : DistrictId) : (withRex x s).district d = s.district d := rfl

theorem takeJudged_withRex (d : DistrictId) (s : State) : takeJudged d (withRex x s) = withRex x (takeJudged d s) := by
  rw [takeJudged_eq, takeJudged_eq]
  rfl

theorem evaluate_withRex (d : DistrictId) (s : State) : evaluate d (withRex x s) = withRex x (evaluate d s) := by
  rw [evaluate_eq, evaluate_eq]
  rfl

theorem delivered_withRex (d : DistrictId) (f : District → District) (s : State) :
    delivered d f (withRex x s) = withRex x (delivered d f s) := by
  refine ite_commutes (withRex x) (fun _ => rfl) fun _ => rfl

theorem adjustDistrict_withRex (d : DistrictId) (f : District → District) (s : State) :
    adjustDistrict d f (withRex x s) = withRex x (adjustDistrict d f s) := by
  rw [adjustDistrict_eq, adjustDistrict_eq, delivered_withRex]
  exact ite_commutes (withRex x) (fun _ => evaluate_withRex x d _) fun _ => rfl

theorem tryJoin_withRex (d : DistrictId) (s : State) : tryJoin d (withRex x s) = withRex x (tryJoin d s) := by
  have hcandidate (required : Nat) : isCandidate (withRex x s) required = isCandidate s required := rfl
  unfold tryJoin
  dsimp only [district_withRex]
  rw [hcandidate]
  refine ite_commutes (withRex x) (fun _ => rfl) fun _ => ite_commutes (withRex x) (fun _ => rfl) fun _ => ?_
  split <;> rfl

theorem tryJoins_withRex (ds : List DistrictId) (s : State) : tryJoins ds (withRex x s) = withRex x (tryJoins ds s) := by
  induction ds generalizing s with
  | nil => rfl
  | cons d ds ih => exact ite_commutes (withRex x) (fun _ => rfl) fun _ => by rw [tryJoin_withRex, ih]

theorem runOccasions_withRex (s : State) : runOccasions (withRex x s) = withRex x (runOccasions s) := tryJoins_withRex x _ s

theorem enterService_withRex (d : DistrictId) (s : State) : enterService d (withRex x s) = withRex x (enterService d s) := by
  unfold enterService
  rw [takeJudged_withRex]
  rfl

theorem onDistrict_withRex {f : State → DistrictId → Result × State} (n : Nat) (s : State)
    (hf : ∀ d, f (withRex x s) d = answerWithRex x (f s d)) :
    onDistrict n (withRex x s) (f (withRex x s)) = answerWithRex x (onDistrict n s (f s)) := by
  unfold onDistrict
  split
  · rfl
  · exact hf _

end

/-! ### The district a number names -/

theorem onDistrict_of_le {n : Nat} (s : State) (f : DistrictId → Result × State) (hn : 8 ≤ n) :
    onDistrict n s f = (.noRecord, s) := by
  rw [onDistrict, Looks.districtOf_of_le hn]

theorem onDistrict_val (d : DistrictId) (s : State) (f : DistrictId → Result × State) : onDistrict d s f = f d := by
  rw [onDistrict, Looks.districtOf_val]

/-- A request on a district, of a shared group, of a part that is ready (11 R195). -/
theorem exec_shared {i : Instr} {s t : State} {tag : Byte} {q : Request} {f : State → Result × State} {result : Result}
    (hi : i.request = some (tag, q)) (hr : Ready s) (him : immediate tag q s = none) (hg : groupOf q.code = .shared)
    (hq : ∀ t, startRequest q t = atOnce (f t)) (hf : ∀ x s, f (withRex x s) = answerWithRex x (f s)) (h : f s = (result, t)) :
    exec i s = .next (withResponse t tag q.code result []) := by
  rw [exec_of_holderRequest hi hr him (by rw [admits, hg]) hq hf, h]

/-! ### DISTRICT-IN and DISTRICT-RESTORE -/

theorem districtIn_withRex (x : Rex) (n : Nat) (s : State) : districtIn n (withRex x s) = answerWithRex x (districtIn n s) := by
  refine onDistrict_withRex x (f := fun s d => match (s.district d).state with
    | .tripped => (.wrongState, s)
    | .out =>
      let answering := match s.governorEntry d with
        | some e => decide (e.state = .answering)
        | none => false
      let tripped := ((s.lastGovernor d).map (·.trip)).getD false
      if (s.telltaleEntry d).isNone || !answering || tripped then (.wrongState, s)
      else (.done, runOccasions (enterService d s))
    | _ => (.done, s)) n s fun d => ?_
  dsimp only [district_withRex]
  cases (s.district d).state with
  | out =>
    exact ite_commutes (answerWithRex x) (fun _ => rfl) fun _ => by
      rw [enterService_withRex, runOccasions_withRex]
      rfl
  | _ => rfl

theorem districtRestore_withRex (x : Rex) (n : Nat) (s : State) :
    districtRestore n (withRex x s) = answerWithRex x (districtRestore n s) := by
  refine onDistrict_withRex x (f := fun s d =>
    if (s.district d).state = .tripped ∧ (s.lastGovernor d).map (·.trip) = some false then
      (.done, runOccasions (enterService d s))
    else (.wrongState, s)) n s fun d => ?_
  exact ite_commutes (answerWithRex x) (fun _ => by rw [enterService_withRex, runOccasions_withRex]; rfl) fun _ => rfl

theorem exec_districtIn {s t : State} {tag : Byte} {n : Nat} {result : Result} (hr : Ready s) (h : districtIn n s = (result, t)) :
    exec (.districtIn tag n) s = .next (withResponse t tag 0x21 result []) :=
  exec_shared (q := .districtIn n) rfl hr rfl rfl (fun _ => rfl) (fun x t => districtIn_withRex x n t) h

theorem exec_districtRestore {s t : State} {tag : Byte} {n : Nat} {result : Result} (hr : Ready s)
    (h : districtRestore n s = (result, t)) : exec (.districtRestore tag n) s = .next (withResponse t tag 0x23 result []) :=
  exec_shared (q := .districtRestore n) rfl hr rfl rfl (fun _ => rfl) (fun x t => districtRestore_withRex x n t) h

section
variable {s : State} {d : DistrictId}

theorem districtIn_of_service (hs : (s.district d).state = .serving ∨ (s.district d).state = .short ∨ (s.district d).state = .starved) :
    districtIn d s = (.done, s) := by
  rw [districtIn, onDistrict_val]
  rcases hs with hs | hs | hs <;> rw [hs]

theorem districtIn_of_tripped (hs : (s.district d).state = .tripped) : districtIn d s = (.wrongState, s) := by
  rw [districtIn, onDistrict_val, hs]

theorem districtRestore_of_untripped (hs : (s.district d).state ≠ .tripped) : districtRestore d s = (.wrongState, s) := by
  rw [districtRestore, onDistrict_val, if_neg fun h => hs h.1]

/-- The last good reply of the governor's entry, whatever the age of its link (log entry 32). -/
theorem lastGovernor_of_entry {e : PollEntry} {g : GovernorReading} (he : s.governorEntry d = some e)
    (hl : e.last = some (.governor g)) : s.lastGovernor d = some g := by
  simp [State.lastGovernor, he, hl]

theorem lastGovernor_of_none (h : ∀ e, s.governorEntry d = some e → e.last = none) : s.lastGovernor d = none := by
  cases he : s.governorEntry d with
  | none => simp [State.lastGovernor, he]
  | some e => simp [State.lastGovernor, he, h e he]

/-- What keeps a district OUT from service: a station that is missing, a governor not ANSWERING, a trip (04 R86). -/
theorem districtIn_of_refused (hs : (s.district d).state = .out)
    (h : s.telltaleEntry d = none ∨ (∀ e, s.governorEntry d = some e → e.state ≠ .answering)
      ∨ ∃ g, s.lastGovernor d = some g ∧ g.trip = true) : districtIn d s = (.wrongState, s) := by
  rw [districtIn, onDistrict_val, hs]
  refine if_pos ?_
  rcases h with h | h | ⟨g, hg, ht⟩
  · simp [h]
  · cases he : s.governorEntry d with
    | none => simp
    | some e => simp [h e he]
  · simp [hg, ht]

theorem districtIn_of_taken {e : PollEntry} {g : GovernorReading} (hs : (s.district d).state = .out)
    (ht : (s.telltaleEntry d).isSome = true) (he : s.governorEntry d = some e) (ha : e.state = .answering)
    (hg : s.lastGovernor d = some g) (htrip : g.trip = false) :
    districtIn d s = (.done, runOccasions (enterService d s)) := by
  rw [districtIn, onDistrict_val, hs]
  have htell : (s.telltaleEntry d).isNone = false := by simpa using ht
  exact if_neg (by simp [htell, he, ha, hg, htrip])

theorem districtRestore_of_refused (hg : ∀ g, s.lastGovernor d = some g → g.trip = true) :
    districtRestore d s = (.wrongState, s) := by
  rw [districtRestore, onDistrict_val, if_neg]
  rintro ⟨-, ht⟩
  obtain ⟨g, hl, hf⟩ := Option.map_eq_some_iff.1 ht
  rw [hg g hl] at hf
  cases hf

theorem districtRestore_of_taken {g : GovernorReading} (hs : (s.district d).state = .tripped)
    (hg : s.lastGovernor d = some g) (htrip : g.trip = false) :
    districtRestore d s = (.done, runOccasions (enterService d s)) := by
  rw [districtRestore, onDistrict_val, if_pos ⟨hs, by simp [hg, htrip]⟩]

/-- With automatic joins off an occasion does nothing (04 R79). -/
theorem runOccasions_of_off {t : State} (hj : (t.district d).autoJoin = false) (ho : t.occasions = [] ∨ t.occasions = [d])
    (ha : t.attempt = none) : runOccasions t = { t with occasions := [] } := by
  rcases ho with ho | ho
  · rw [runOccasions_of_none ho, ← ho]
  · rw [runOccasions_of_one ho ha, tryJoin_of_no_attempt (by simp [Attempts, hj])]

/-- A district out of service that comes into it with automatic joins off (04 R72, R78, R84, R86). -/
theorem enterService_of_off {st : DistrictState} (hs : (s.district d).state.inService = false) (hj : (s.district d).autoJoin = false)
    (ho : s.occasions = []) (ha : s.attempt = none)
    (hst : st = stateOfFeeds s.view (s.district d).feeds (s.district d).required (s.district d).available) :
    runOccasions (enterService d s) = (s.modDistrict d fun r => { r with
      state := st, inFlight := some r.loading
      latches := { r.latches with
        starved := r.latches.starved || decide (st = .starved), short := r.latches.short || decide (st = .short) } }
      ).setLoadingCommand d (some (s.district d).loading) := by
  have hjudged : takeJudged d s = enterState d st s := by rw [takeJudged_eq, judgedState_eq, hst]
  have hrec : entering st (s.district d) = { s.district d with
      state := st
      latches := { (s.district d).latches with
        starved := (s.district d).latches.starved || decide (st = .starved)
        short := (s.district d).latches.short || decide (st = .short) } } := by
    have hstarved : (s.district d).state ≠ .starved := fun h => by simp [h, DistrictState.inService] at hs
    have hshort : (s.district d).state ≠ .short := fun h => by simp [h, DistrictState.inService] at hs
    simp [entering, hstarved, hshort]
  have hoff : ((enterService d s).district d).autoJoin = false := by
    rw [enterService, hjudged, placeLoading_eq, setLoadingCommand_district, State.district_modDistrict_self]
    simpa [enterState, State.modDistrict, State.district, entering] using hj
  rw [runOccasions_of_off hoff, enterService, hjudged, placeLoading_eq]
  · have hloading : ((s.modDistrict d (entering st)).district d).loading = (s.district d).loading := by
      rw [State.district_modDistrict_self]
      rfl
    show { ((s.modDistrict d (entering st)).modDistrict d fun r => { r with inFlight := some r.loading }).setLoadingCommand d
      (some ((s.modDistrict d (entering st)).district d).loading) with occasions := [] } = _
    rw [hloading, State.modDistrict_modDistrict, ← ho]
    refine congrArg (State.setLoadingCommand · d (some (s.district d).loading)) (modDistrict_congr (s := s) (d := d)
      (f := fun r => { entering st r with inFlight := some r.loading }) (g := fun r => { r with
        state := st, inFlight := some r.loading
        latches := { r.latches with
          starved := r.latches.starved || decide (st = .starved), short := r.latches.short || decide (st = .short) } }) ?_)
    dsimp only
    rw [hrec]
  · rw [enterService, hjudged]
    show s.occasions ++ entryOccasion d _ st = [] ∨ s.occasions ++ entryOccasion d _ st = [d]
    rw [ho]
    unfold entryOccasion
    split <;> simp
  · rw [enterService, hjudged]
    exact ha

end

/-- Settles O31: the refusals of both requests, and the two ways into service. -/
theorem districtComesIntoService : Obligations.DistrictComesIntoService := by
  unfold Obligations.DistrictComesIntoService
  intro s tag d hr
  refine ⟨fun n hn => ⟨exec_districtIn hr (onDistrict_of_le s _ hn), exec_districtRestore hr (onDistrict_of_le s _ hn)⟩,
    fun hs => exec_districtIn hr (districtIn_of_service hs), fun hs => exec_districtIn hr (districtIn_of_tripped hs),
    fun hs => exec_districtRestore hr (districtRestore_of_untripped hs),
    fun hs => ⟨fun ht => exec_districtIn hr (districtIn_of_refused hs (.inl ht)),
      fun hg => exec_districtIn hr (districtIn_of_refused hs (.inr (.inl (by simp [hg])))),
      fun e he => ⟨fun ha => exec_districtIn hr (districtIn_of_refused hs (.inr (.inl (by simpa [he] using ha)))),
        fun g hl ht => exec_districtIn hr (districtIn_of_refused hs (.inr (.inr ⟨g, lastGovernor_of_entry he hl, ht⟩)))⟩⟩,
    fun hs => ⟨fun hg => exec_districtRestore hr (districtRestore_of_refused (by simp [lastGovernor_of_none, hg])),
      fun e he => ⟨fun hl => exec_districtRestore hr (districtRestore_of_refused (by simp [lastGovernor_of_none, he, hl])),
        fun g hl ht => exec_districtRestore hr (districtRestore_of_refused (by simpa [lastGovernor_of_entry he hl] using ht))⟩⟩,
    fun hj ho ha e g st he hl htrip hst => ⟨fun hs htell hans => ?_, fun hs => ?_⟩⟩
  · refine exec_districtIn hr ((districtIn_of_taken hs htell he hans (lastGovernor_of_entry he hl) htrip).trans ?_)
    rw [enterService_of_off (by rw [hs]; rfl) hj ho ha hst]
  · refine exec_districtRestore hr ((districtRestore_of_taken hs (lastGovernor_of_entry he hl) htrip).trans ?_)
    rw [enterService_of_off (by rw [hs]; rfl) hj ho ha hst]

/-! ### DISTRICT-OUT -/

theorem districtOut_withRex (x : Rex) (n : Nat) (s : State) : districtOut n (withRex x s) = answerWithRex x (districtOut n s) := by
  refine onDistrict_withRex x (f := fun s d =>
    if (s.district d).state = .out then (.done, s)
    else if !noFeeds s d then (.wrongState, s)
    else (.done, (withdrawLoading d s).modDistrict d fun r =>
      { r with state := .out, acked := none, ttLow := false, comp := 0 }.recompute)) n s fun d => ?_
  exact ite_commutes (answerWithRex x) (fun _ => rfl) fun _ => ite_commutes (answerWithRex x) (fun _ => rfl) fun _ => rfl

theorem exec_districtOut {s t : State} {tag : Byte} {n : Nat} {result : Result} (hr : Ready s) (h : districtOut n s = (result, t)) :
    exec (.districtOut tag n) s = .next (withResponse t tag 0x22 result []) :=
  exec_shared (q := .districtOut n) rfl hr rfl rfl (fun _ => rfl) (fun x t => districtOut_withRex x n t) h

/-- With no message in transit the lists alone decide (04 R85; log entry 5). -/
theorem noFeeds_of_quiet {s : State} {d : DistrictId} (hf : (s.district d).feeds = []) (hp : (s.district d).pendingJoins = [])
    (ht : s.inTransit = []) : noFeeds s d = true := by
  simp [noFeeds, State.given, ht, hf, hp, District.lists]

/-- Settles O32: the number above 7, the district that is OUT, the one with a feed, and the one without. -/
theorem districtOutNeedsAnEmptyFeedList : Obligations.DistrictOutNeedsAnEmptyFeedList := by
  unfold Obligations.DistrictOutNeedsAnEmptyFeedList
  intro s tag d hr
  refine ⟨fun n hn => exec_districtOut hr (onDistrict_of_le s _ hn), fun hs => exec_districtOut hr ?_,
    fun hs hf => exec_districtOut hr ?_, fun hs hf hp ht => exec_districtOut hr ?_⟩
  · rw [districtOut, onDistrict_val, if_pos hs]
  · rw [districtOut, onDistrict_val, if_neg hs, if_pos (by simp [noFeeds, hf])]
  · rw [districtOut, onDistrict_val, if_neg hs, if_neg (by simp [noFeeds_of_quiet hf hp ht]), withdrawLoading_eq,
      modDistrict_setLoadingCommand, State.modDistrict_modDistrict]
    rfl

end Sys2Proof.DistrictRequests

/-! PROOFS. SET-DISTRICT-STATIONS (04 R63): the refusals of an address, the link that changes entry by entry, and the two stations of one
request (O25). -/

namespace Sys2Proof.Stations

open Sys2Proof.Machine Sys2Proof.Safety Sys2Proof.HolderOrders Sys2Proof.DistrictRequests

/-! ### Links -/

section
variable {l : Line} {kind : EntryKind} {link : Link}

theorem not_linked (hn : l.linked kind link = none) : ∀ e ∈ l.entries, ¬ (e.kind = kind ∧ e.link = link) := by
  simpa [Line.linked] using hn

theorem linked_spec {e : PollEntry} (h : l.linked kind link = some e) : e ∈ l.entries ∧ e.kind = kind ∧ e.link = link :=
  ⟨List.mem_of_find?_eq_some h, by simpa using List.find?_some h⟩

theorem modLinked_of_none (f : PollEntry → PollEntry) (hn : l.linked kind link = none) : l.modLinked kind link f = l := by
  have hsame : l.entries.map (fun e => if e.kind = kind ∧ e.link = link then f e else e) = l.entries :=
    (List.map_congr_left fun e he => if_neg (not_linked hn e he)).trans (List.map_id' _)
  rw [Line.modLinked, hsame]

/-- To name no entry is to release the one linked (09 R168). -/
theorem relink_none : l.relink kind link none = l.release kind link := by
  cases hn : l.linked kind link with
  | none => rw [relink_of_same (by simp [hn]), Line.release, modLinked_of_none _ hn]
  | some e => simp [Line.relink, hn]

theorem linked_release (hl : link ≠ .none) : (l.release kind link).linked kind link = none := by
  have hnone (e : PollEntry) : ¬ ((if e.kind = kind ∧ e.link = link then
        { e with link := .none, command := none, handed := false } else e).kind = kind
      ∧ (if e.kind = kind ∧ e.link = link then { e with link := .none, command := none, handed := false } else e).link = link) := by
    split
    · exact fun h => hl h.2.symm
    · assumption
  simpa [Line.linked, Line.release, Line.modLinked] using fun e _ => not_and.1 (hnone e)

end

/-- An entry once another entry of a kind has been named for a district: the named one is linked, with a command placed where there is
one, and the one linked before is released (04 R63). -/
def relinkedStation (d : DistrictId) (kind : EntryKind) (a : Nat) (command : Option Command) (e : PollEntry) : PollEntry :=
  if e.address = a then { e with link := .district d, handed := false, command := command.orElse fun _ => e.command }
  else if e.kind = kind ∧ e.link = .district d then { e with link := .none, command := none, handed := false }
  else e

section
variable {s : State} {d : DistrictId} {kind : EntryKind} {a : Nat}

/-- The state with an entry newly named for a district. -/
def withStation (d : DistrictId) (kind : EntryKind) (a : Nat) (command : Option Command) (s : State) : State :=
  { s with line := { s.line with entries := s.line.entries.map (relinkedStation d kind a command) } }

/-- A free entry of the kind, alone at its address (04 R63, 09 R168). -/
structure Free (s : State) (kind : EntryKind) (a : Nat) : Prop where
  kind : ∀ e ∈ s.line.entries, e.address = a → e.kind = kind
  link : ∀ e ∈ s.line.entries, e.address = a → e.link = .none
  mem : ∃ e ∈ s.line.entries, e.address = a

theorem free_of_entry {e : PollEntry} (hp : pollSound s.line = true) (he : s.line.entry a = some e) (hk : e.kind = kind)
    (hl : e.link = .none) : Free s kind a := by
  simp only [pollSound, Bool.and_eq_true, decide_eq_true_eq] at hp
  have hone (x : PollEntry) (hx : x ∈ s.line.entries) (ha : x.address = a) : x = e := entry_unique hp.2 he hx ha
  exact ⟨fun x hx ha => by rw [hone x hx ha, hk], fun x hx ha => by rw [hone x hx ha, hl],
    e, List.mem_of_find?_eq_some he, by simpa using List.find?_some he⟩

/-- The link that changes, entry by entry (04 R63). -/
theorem relinkStation_of_named (ha : a ≠ 0) (hne : (s.line.linked kind (.district d)).map (·.address) ≠ some a)
    (hfree : ∀ e ∈ s.line.entries, e.address = a → ¬ (e.kind = kind ∧ e.link = .district d)) :
    relinkStation d kind (some a) s = withStation d kind a none s := by
  have hentries : s.line.relink kind (.district d) (some a)
      = { s.line with entries := s.line.entries.map (relinkedStation d kind a none) } := by
    rw [relink_entries hne]
    congr 1
    refine List.map_congr_left fun e he => ?_
    by_cases hn : e.address = a
    · simp [relinkedStation, hn, if_neg (hfree e he hn)]
    · simp [relinkedStation, hn, Ne.symm hn]
  simp only [relinkStation, if_neg ha, State.modLine, hentries, withStation]

theorem not_linked_of_free (hf : Free s kind a) : (s.line.linked kind (.district d)).map (·.address) ≠ some a := by
  intro h
  obtain ⟨e, he, hadd⟩ := Option.map_eq_some_iff.1 h
  obtain ⟨hmem, -, hlink⟩ := linked_spec he
  rw [hf.link e hmem hadd] at hlink
  cases hlink

theorem relinkStation_of_free (ha : a ≠ 0) (hf : Free s kind a) : relinkStation d kind (some a) s = withStation d kind a none s :=
  relinkStation_of_named ha (not_linked_of_free hf) fun e he hadd h => by
    rw [hf.link e he hadd] at h
    cases h.2

theorem relinkStation_of_same (ha : a ≠ 0) (h : (s.line.linked kind (.district d)).map (·.address) = some a) :
    relinkStation d kind (some a) s = s := by
  simp only [relinkStation, if_neg ha, State.modLine, relink_of_same h]

theorem relinkStation_zero : relinkStation d kind (some 0) s = s.modLine fun l => l.release kind (.district d) := by
  simp only [relinkStation, if_true, relink_none]

/-! ### The governor's loading -/

/-- With no loading in flight the governor's station is written as any (04 R63). -/
theorem relinkGovernor_of_quiet (address : Option Nat) (hf : (s.district d).inFlight = none) :
    relinkGovernor d address s = relinkStation d .governor address s := by
  have hd : (relinkStation d .governor address s).district d = s.district d := by cases address <;> rfl
  unfold relinkGovernor
  dsimp only
  rw [hd, hf]
  split <;> rfl

theorem relinkGovernor_of_same {address : Option Nat} (h : relinkStation d .governor address s = s) :
    relinkGovernor d address s = s := by
  unfold relinkGovernor
  rw [h]
  exact if_pos rfl

/-- A governor's entry that is released takes no loading (04 R63). -/
theorem relinkGovernor_zero : relinkGovernor d (some 0) s = s.modLine fun l => l.release .governor (.district d) := by
  have hnone : (s.modLine fun l => l.release .governor (.district d)).governorEntry d = none := linked_release (by simp)
  have hplace (l : Nat) : (s.modLine fun l => l.release .governor (.district d)).setLoadingCommand d (some l)
      = s.modLine fun l => l.release .governor (.district d) := by
    rw [State.setLoadingCommand, State.setCommand, State.modLine, modLinked_of_none _ hnone]
  unfold relinkGovernor
  dsimp only
  rw [relinkStation_zero]
  split
  · rfl
  · split
    · exact hplace _
    · rfl

/-- A loading placed behind the link reaches the entry named and no other (04 R63). -/
theorem setLoadingCommand_withStation (l : Nat) (hf : Free s .governor a) :
    (withStation d .governor a none s).setLoadingCommand d (some l) = withStation d .governor a (some (.loading l)) s := by
  simp only [withStation, State.setLoadingCommand, State.setCommand, State.modLine, Line.modLinked, List.map_map]
  congr 2
  refine List.map_congr_left fun e he => ?_
  by_cases ha : e.address = a
  · simp [relinkedStation, ha, hf.kind e he ha]
  · by_cases hl : e.kind = .governor ∧ e.link = .district d
    · simp [relinkedStation, ha, hl]
    · simp [relinkedStation, ha, hl]

/-- A governor newly named takes up the loading in flight (04 R63). -/
theorem relinkGovernor_of_free (ha : a ≠ 0) (hf : Free s .governor a) : relinkGovernor d (some a) s
    = withStation d .governor a ((s.district d).inFlight.map Command.loading) s := by
  have hnew : ((withStation d .governor a none s).governorEntry d).map (·.address) ≠ (s.governorEntry d).map (·.address) := by
    obtain ⟨e, he, hadd⟩ := hf.mem
    obtain ⟨x, hx⟩ : ∃ x, (withStation d .governor a none s).governorEntry d = some x := by
      refine Option.isSome_iff_exists.1 (List.find?_isSome.2 ⟨_, List.mem_map_of_mem he, ?_⟩)
      simp [relinkedStation, hadd, hf.kind e he hadd]
    obtain ⟨hmem, hkind, hlink⟩ := linked_spec hx
    obtain ⟨y, hy, rfl⟩ := List.mem_map.1 hmem
    have hya : y.address = a := by
      by_contra hne
      by_cases hl : y.kind = .governor ∧ y.link = .district d
      · simp [relinkedStation, hne, hl] at hlink
      · simp only [relinkedStation, if_neg hne, if_neg hl] at hkind hlink
        exact hl ⟨hkind, hlink⟩
    have hxa : (relinkedStation d .governor a none y).address = a := by simp [relinkedStation, hya]
    rw [hx, Option.map_some, hxa]
    exact (not_linked_of_free hf).symm
  unfold relinkGovernor
  dsimp only
  rw [relinkStation_of_free ha hf, if_neg hnew]
  have hd : (withStation d .governor a none s).district d = s.district d := rfl
  rw [hd]
  cases (s.district d).inFlight with
  | none => rfl
  | some l => exact setLoadingCommand_withStation l hf

end

/-! ### Refusals -/

section
variable {s : State} {d : DistrictId} {kind : EntryKind} {a : Nat} {e : PollEntry}

theorem stationRefusal_zero : stationRefusal s d kind (some 0) = if (s.district d).state = .out then none else some .wrongState := rfl

theorem stationRefusal_of_absent (ha : a ≠ 0) (he : s.line.entry a = none) : stationRefusal s d kind (some a) = some .noRecord := by
  obtain ⟨a, rfl⟩ := Nat.exists_eq_succ_of_ne_zero ha
  simp [stationRefusal, he]

theorem stationRefusal_of_kind (ha : a ≠ 0) (he : s.line.entry a = some e) (hk : e.kind ≠ kind) :
    stationRefusal s d kind (some a) = some .noRecord := by
  obtain ⟨a, rfl⟩ := Nat.exists_eq_succ_of_ne_zero ha
  simp [stationRefusal, he, hk]

theorem stationRefusal_of_linked {c : DistrictId} (ha : a ≠ 0) (he : s.line.entry a = some e) (hk : e.kind = kind)
    (hl : e.link = .district c) : stationRefusal s d kind (some a) = if c = d then none else some .inUse := by
  obtain ⟨a, rfl⟩ := Nat.exists_eq_succ_of_ne_zero ha
  simp [stationRefusal, he, hk, hl]

theorem stationRefusal_of_free (ha : a ≠ 0) (he : s.line.entry a = some e) (hk : e.kind = kind) (hl : e.link = .none) :
    stationRefusal s d kind (some a) = none := by
  obtain ⟨a, rfl⟩ := Nat.exists_eq_succ_of_ne_zero ha
  simp [stationRefusal, he, hk, hl]

/-- No refusal answers DONE. -/
theorem stationRefusal_ne_done (address : Option Nat) : stationRefusal s d kind address ≠ some .done := by
  unfold stationRefusal
  repeat' split
  all_goals simp

end

/-! ### The request -/

theorem relinkStation_withRex (x : Rex) (d : DistrictId) (kind : EntryKind) (address : Option Nat) (s : State) :
    relinkStation d kind address (withRex x s) = withRex x (relinkStation d kind address s) := by
  cases address <;> rfl

theorem relinkGovernor_withRex (x : Rex) (d : DistrictId) (address : Option Nat) (s : State) :
    relinkGovernor d address (withRex x s) = withRex x (relinkGovernor d address s) := by
  unfold relinkGovernor
  dsimp only
  rw [relinkStation_withRex]
  refine ite_commutes (withRex x) (fun _ => rfl) fun _ => ?_
  rw [district_withRex]
  split <;> rfl

theorem setStations_withRex (x : Rex) (n : Nat) (governor telltale : Option Nat) (s : State) :
    setStations n governor telltale (withRex x s) = answerWithRex x (setStations n governor telltale s) := by
  refine onDistrict_withRex x (f := fun s d =>
    if !(optWithin 0 62 governor && optWithin 0 62 telltale) then (.range, s)
    else match stationRefusal s d .governor governor, stationRefusal s d .telltale telltale with
      | some refusal, _ => (refusal, s)
      | none, some refusal => (refusal, s)
      | none, none => (.done, relinkStation d .telltale telltale (relinkGovernor d governor s))) n s fun d => ?_
  have hrefusal (kind : EntryKind) (address : Option Nat) :
      stationRefusal (withRex x s) d kind address = stationRefusal s d kind address := rfl
  refine ite_commutes (answerWithRex x) (fun _ => rfl) fun _ => ?_
  rw [hrefusal, hrefusal, relinkGovernor_withRex, relinkStation_withRex]
  split <;> rfl

theorem exec_setStations_eq {s : State} {tag : Byte} (n : Nat) (governor telltale : Option Nat) (hr : Ready s)
    (hm : s.yard.mode = .setup) : exec (.setDistrictStations tag n governor telltale) s
      = .next (withResponse (setStations n governor telltale s).2 tag 0x03 (setStations n governor telltale s).1 []) :=
  exec_of_holderRequest (q := .setDistrictStations n governor telltale) rfl hr rfl (by rw [hm]; rfl) (fun _ => rfl)
    fun x t => setStations_withRex x n governor telltale t

theorem exec_setStations {s t : State} {tag : Byte} {n : Nat} {governor telltale : Option Nat} {result : Result} (hr : Ready s)
    (hm : s.yard.mode = .setup) (h : setStations n governor telltale s = (result, t)) :
    exec (.setDistrictStations tag n governor telltale) s = .next (withResponse t tag 0x03 result []) := by
  rw [exec_setStations_eq n governor telltale hr hm, h]

/-- What an answered request tells of its result. -/
theorem result_of_exec {s t : State} {tag : Byte} {n : Nat} {governor telltale : Option Nat} {result : Result} (hr : Ready s)
    (hm : s.yard.mode = .setup)
    (h : exec (.setDistrictStations tag n governor telltale) s = .next (withResponse t tag 0x03 result [])) :
    (setStations n governor telltale s).1 = result := by
  rw [exec_setStations_eq n governor telltale hr hm] at h
  have hlast := congrArg (fun o => match o with
    | .next s => s.rex.responses.getLast?
    | _ => none) h
  simpa [withResponse] using hlast

section
variable {s : State} {d : DistrictId} {x y : Option Nat}

theorem setStations_of_range (h : optWithin 0 62 x = false ∨ optWithin 0 62 y = false) : setStations d x y s = (.range, s) := by
  rw [setStations, onDistrict_val, if_pos]
  rcases h with h | h <;> simp [h]

theorem setStations_of_within (hx : optWithin 0 62 x = true) (hy : optWithin 0 62 y = true) : setStations d x y s
    = match stationRefusal s d .governor x, stationRefusal s d .telltale y with
      | some refusal, _ => (refusal, s)
      | none, some refusal => (refusal, s)
      | none, none => (.done, relinkStation d .telltale y (relinkGovernor d x s)) :=
  (onDistrict_val d s _).trans (if_neg (by simp [hx, hy]))

/-- A governor that is refused refuses the request (04 R63; log entry 15). -/
theorem setStations_of_governor_refused {refusal : Result} (hx : optWithin 0 62 x = true) (hy : optWithin 0 62 y = true)
    (h : stationRefusal s d .governor x = some refusal) : setStations d x y s = (refusal, s) := by
  rw [setStations_of_within hx hy, h]

theorem setStations_of_telltale_refused {refusal : Result} (hx : optWithin 0 62 x = true) (hy : optWithin 0 62 y = true)
    (h : stationRefusal s d .governor x = none) (h' : stationRefusal s d .telltale y = some refusal) :
    setStations d x y s = (refusal, s) := by
  rw [setStations_of_within hx hy, h, h']

theorem setStations_of_taken (hx : optWithin 0 62 x = true) (hy : optWithin 0 62 y = true)
    (h : stationRefusal s d .governor x = none) (h' : stationRefusal s d .telltale y = none) :
    setStations d x y s = (.done, relinkStation d .telltale y (relinkGovernor d x s)) := by
  rw [setStations_of_within hx hy, h, h']

theorem relinkGovernor_none : relinkGovernor d none s = s := relinkGovernor_of_same rfl

/-- A request refused for its governor is refused with any tell-tale whose address is in range (04 R63). -/
theorem setStations_of_governor_alone {result : Result} (hne : result ≠ .done) (hy : optWithin 0 62 y = true)
    (h : (setStations d x none s).1 = result) : setStations d x y s = (result, s) := by
  subst h
  by_cases hx : optWithin 0 62 x = true
  · cases hg : stationRefusal s d .governor x with
    | none =>
      rw [setStations_of_taken (y := none) hx rfl hg rfl] at hne
      exact absurd rfl hne
    | some refusal => rw [setStations_of_governor_refused hx hy hg, setStations_of_governor_refused (y := none) hx rfl hg]
  · rw [setStations_of_range (.inl (by simpa using hx)), setStations_of_range (.inl (by simpa using hx))]

/-- One refused for its tell-tale is refused behind a governor that is taken (04 R63). -/
theorem setStations_of_telltale_alone {result : Result} (hne : result ≠ .done) (hdone : (setStations d x none s).1 = .done)
    (h : (setStations d none y s).1 = result) : setStations d x y s = (result, s) := by
  subst h
  have hx : optWithin 0 62 x = true := by
    by_contra hx
    rw [setStations_of_range (.inl (by simpa using hx))] at hdone
    cases hdone
  have hg : stationRefusal s d .governor x = none := by
    cases hg : stationRefusal s d .governor x with
    | none => rfl
    | some refusal =>
      rw [setStations_of_governor_refused (y := none) hx rfl hg] at hdone
      obtain rfl : refusal = .done := hdone
      exact absurd hg (stationRefusal_ne_done x)
  by_cases hy : optWithin 0 62 y = true
  · cases ht : stationRefusal s d .telltale y with
    | none =>
      rw [setStations_of_taken (x := none) rfl hy rfl ht] at hne
      exact absurd rfl hne
    | some refusal => rw [setStations_of_telltale_refused hx hy hg ht, setStations_of_telltale_refused (x := none) rfl hy rfl ht]
  · rw [setStations_of_range (.inr (by simpa using hy)), setStations_of_range (.inr (by simpa using hy))]

end

/-! ### One station named -/

/-- The request that names one station, and how that station is written (04 R63). -/
structure Names (s : State) (tag : Byte) (d : DistrictId) (kind : EntryKind) (names : Option Nat → Instr)
    (written : Option Nat → State) : Prop where
  refused : ∀ a refusal, optWithin 0 62 a = true → stationRefusal s d kind a = some refusal →
    exec (names a) s = .next (withResponse s tag 0x03 refusal [])
  taken : ∀ a, optWithin 0 62 a = true → stationRefusal s d kind a = none →
    exec (names a) s = .next (withResponse (written a) tag 0x03 .done [])

section
variable {s : State} {tag : Byte} {d : DistrictId} (hr : Ready s) (hm : s.yard.mode = .setup)

include hr hm

theorem names_governor : Names s tag d .governor (fun a => .setDistrictStations tag d a none) (relinkGovernor d · s) where
  refused _ _ hw h := exec_setStations hr hm (setStations_of_governor_refused hw rfl h)
  taken _ hw h := exec_setStations hr hm (setStations_of_taken hw rfl h rfl)

theorem names_telltale : Names s tag d .telltale (fun a => .setDistrictStations tag d none a) (relinkStation d .telltale · s) where
  refused _ _ hw h := exec_setStations hr hm (setStations_of_telltale_refused rfl hw rfl h)
  taken a hw h := by
    rw [exec_setStations hr hm (setStations_of_taken rfl hw rfl h), relinkGovernor_none]

end

/-- What one station's writing comes to, for the governor with its loading and for the tell-tale (04 R63). -/
structure Writes (s : State) (d : DistrictId) (kind : EntryKind) (written : Option Nat → State) : Prop where
  zero : written (some 0) = s.modLine fun l => l.release kind (.district d)
  same : ∀ a, a ≠ 0 → (s.line.linked kind (.district d)).map (·.address) = some a → written (some a) = s
  quiet : ∀ a, (kind = .governor → (s.district d).inFlight = none) → written (some a) = relinkStation d kind (some a) s
  free : ∀ a, a ≠ 0 → Free s kind a → written (some a)
    = withStation d kind a (if kind = .governor then (s.district d).inFlight.map Command.loading else none) s

theorem writes_governor (s : State) (d : DistrictId) : Writes s d .governor (relinkGovernor d · s) where
  zero := relinkGovernor_zero
  same _ ha h := relinkGovernor_of_same (relinkStation_of_same ha h)
  quiet _ hf := relinkGovernor_of_quiet _ (hf rfl)
  free _ ha hf := relinkGovernor_of_free ha hf

theorem writes_telltale (s : State) (d : DistrictId) : Writes s d .telltale (relinkStation d .telltale · s) where
  zero := relinkStation_zero
  same _ ha h := relinkStation_of_same ha h
  quiet _ _ := rfl
  free _ ha hf := relinkStation_of_free ha hf

/-- With none linked before, the entry named is linked and no other is touched (04 R63). -/
theorem relinkStation_of_first {s : State} {d : DistrictId} {kind : EntryKind} {a : Nat} (ha : a ≠ 0)
    (hn : s.line.linked kind (.district d) = none) : relinkStation d kind (some a) s
      = { s with line := { s.line with
          entries := s.line.entries.map fun x => if x.address = a then { x with link := .district d, handed := false } else x } } := by
  rw [relinkStation_of_named ha (by simp [hn]) fun e he _ => not_linked hn e he, withStation]
  have hentries : s.line.entries.map (relinkedStation d kind a none)
      = s.line.entries.map fun x => if x.address = a then { x with link := .district d, handed := false } else x :=
    List.map_congr_left fun e he => by simp [relinkedStation, not_linked hn e he]
  rw [hentries]

theorem withStation_command {s : State} {d : DistrictId} {kind : EntryKind} {a : Nat} :
    withStation d kind a (if kind = .governor then (s.district d).inFlight.map Command.loading else none) s
      = { s with line := { s.line with
          entries := s.line.entries.map fun x =>
            if x.address = a then { x with
              link := .district d, handed := false
              command := if kind = .governor then ((s.district d).inFlight.map Command.loading).orElse fun _ => x.command
                else x.command }
            else if x.kind = kind ∧ x.link = .district d then { x with link := .none, command := none, handed := false }
            else x } } := by
  by_cases hk : kind = .governor <;> simp [withStation, relinkedStation, hk]

/-- Both stations of a district named at once, where it had neither (04 R63). -/
theorem relinkBoth {s : State} {d : DistrictId} {a b : Nat} {e : PollEntry} (ha : a ≠ 0) (hb : b ≠ 0)
    (hp : pollSound s.line = true) (he : s.line.entry a = some e) (hk : e.kind = .governor) (hl : e.link = .none)
    (hg : s.governorEntry d = none) (ht : s.telltaleEntry d = none) (hf : (s.district d).inFlight = none) :
    relinkStation d .telltale (some b) (relinkGovernor d (some a) s)
      = { s with line := { s.line with
          entries := s.line.entries.map fun x =>
            if x.address = a ∨ x.address = b then { x with link := .district d, handed := false } else x } } := by
  have hfree := free_of_entry hp he hk hl
  rw [relinkGovernor_of_quiet _ hf, relinkStation_of_first ha hg, relinkStation_of_first hb]
  · simp only [List.map_map]
    congr 2
    refine List.map_congr_left fun x _ => ?_
    by_cases hxa : x.address = a
    · simp [hxa]
    · simp only [Function.comp, hxa, if_false, false_or]
  · refine List.find?_eq_none.2 fun x hx => ?_
    obtain ⟨y, hy, rfl⟩ := List.mem_map.1 hx
    by_cases hya : y.address = a
    · simp [hya, hfree.kind y hy hya]
    · simpa [hya] using not_linked ht y hy

/-- Settles O25: the numbers and addresses out of range, one station named, both at once, and a refusal for either. -/
theorem setDistrictStationsLinksTheGovernor : Obligations.SetDistrictStationsLinksTheGovernor := by
  unfold Obligations.SetDistrictStationsLinksTheGovernor
  intro s tag d hr hm
  have beyond {a : Nat} (ha : 62 < a) : optWithin 0 62 (some a) = false := by simp [optWithin, within, ha]
  have inRange {a : Nat} (ha : a ≤ 62) : optWithin 0 62 (some a) = true := by simp [optWithin, within, ha]
  refine ⟨fun n g t hn => exec_setStations hr hm (onDistrict_of_le s _ hn), ?_,
    fun a x ha => ⟨exec_setStations hr hm (setStations_of_range (.inl (beyond ha))),
      exec_setStations hr hm (setStations_of_range (.inr (beyond ha)))⟩, ?_, ?_,
    fun x y result hne => ⟨fun hy h => exec_setStations hr hm (setStations_of_governor_alone hne hy (result_of_exec hr hm h)),
      fun t hdone h => exec_setStations hr hm
        (setStations_of_telltale_alone hne (result_of_exec hr hm hdone) (result_of_exec hr hm h))⟩⟩
  · refine exec_setStations hr hm ((setStations_of_taken rfl rfl rfl rfl).trans ?_)
    rw [relinkGovernor_none]
    rfl
  · intro kind names hnames
    obtain ⟨written, hn, hw⟩ : ∃ written, Names s tag d kind names written ∧ Writes s d kind written := by
      rcases hnames with ⟨rfl, rfl⟩ | ⟨rfl, rfl⟩
      · exact ⟨_, names_governor hr hm, writes_governor s d⟩
      · exact ⟨_, names_telltale hr hm, writes_telltale s d⟩
    refine ⟨fun hs => hn.refused _ _ rfl (by rw [stationRefusal_zero, if_neg hs]), fun hs => ?_, fun a h1 h62 => ?_⟩
    · rw [hn.taken _ rfl (by rw [stationRefusal_zero, if_pos hs]), hw.zero]
      rfl
    · have ha : a ≠ 0 := by omega
      refine ⟨fun he => hn.refused _ _ (inRange h62) (stationRefusal_of_absent ha he), fun e he =>
        ⟨fun hk => hn.refused _ _ (inRange h62) (stationRefusal_of_kind ha he hk),
          fun c hk hl hc => hn.refused _ _ (inRange h62) ((stationRefusal_of_linked ha he hk hl).trans (if_neg hc)),
          fun hk hl hnone hf => ?_, fun hsame => ?_, fun hk hl hp => ?_⟩⟩
      · rw [hn.taken _ (inRange h62) (stationRefusal_of_free ha he hk hl), hw.quiet a hf, relinkStation_of_first ha hnone]
      · obtain ⟨-, hk, hl⟩ := linked_spec hsame
        have hadd : e.address = a := by simpa using List.find?_some he
        rw [hn.taken _ (inRange h62) ((stationRefusal_of_linked ha he hk hl).trans (if_pos rfl)),
          hw.same a ha (by rw [hsame, Option.map_some, hadd])]
      · rw [hn.taken _ (inRange h62) (stationRefusal_of_free ha he hk hl), hw.free a ha (free_of_entry hp he hk hl),
          withStation_command]
  · intro a b e u h1 h62 h1' h62' he hk hl hu hk' hl' hp hg ht hf
    have ha : a ≠ 0 := by omega
    have hb : b ≠ 0 := by omega
    rw [exec_setStations hr hm (setStations_of_taken (inRange h62) (inRange h62') (stationRefusal_of_free ha he hk hl)
      (stationRefusal_of_free hb hu hk' hl')), relinkBoth ha hb hp he hk hl hg ht hf]

end Sys2Proof.Stations

/-! PROOFS. SET-DISTRICT (04 R64): the fields it takes and those it refuses, the district judged with them, and the occasions that its
work makes (O30). -/

namespace Sys2Proof.DistrictFields

open Sys2Proof.Machine Sys2Proof.Safety Sys2Proof.StationReplies Sys2Proof.HolderOrders Sys2Proof.AutoJoins Sys2Proof.DistrictWork
open Sys2Proof.DistrictRequests

/-! ### Clamping -/

theorem clampField_fst (lo hi present : Nat) (o : Option Nat) :
    (clampField lo hi present o).1 = (o.map (clampTo lo hi)).getD present := by
  cases o <;> rfl

theorem clampField_snd (lo hi present : Nat) (o : Option Nat) : (clampField lo hi present o).2 = !optWithin lo hi o := by
  cases o with
  | none => rfl
  | some v =>
    rw [Bool.eq_iff_iff]
    simp [clampField, clampNote, optWithin, within, Quantities.clampTo_ne_iff, or_iff_not_imp_left]

theorem clampStep_eq (t : ScheduleStep) : clampStep t = ⟨min t.start 1439, clampTo 10 150 t.setPoint⟩ := by
  rw [clampStep, Quantities.clampTo_zero]

theorem clampStep_eq_self_iff (t : ScheduleStep) : clampStep t = t ↔ t.start ≤ 1439 ∧ within 10 150 t.setPoint = true := by
  have hsetPoint : clampTo 10 150 t.setPoint = t.setPoint ↔ ¬ (t.setPoint < 10 ∨ 150 < t.setPoint) :=
    not_iff_not.1 (Quantities.clampTo_ne_iff.trans not_not.symm)
  rw [clampStep_eq, ScheduleStep.mk.injEq, hsetPoint]
  simp [within]

/-- The schedule a request stores, before it is set in order (04 R64). -/
def clampedSteps (f : DistrictSettings) (r : District) : List ScheduleStep :=
  (f.schedule.map fun l => l.map fun t => ⟨min t.start 1439, clampTo 10 150 t.setPoint⟩).getD r.schedule

theorem clampedSteps_eq (f : DistrictSettings) (r : District) :
    (f.schedule.map fun l => l.map clampStep).getD r.schedule = clampedSteps f r := by
  simp only [clampedSteps, funext clampStep_eq]

/-- No clamp acts on a request (04 R64). -/
def inRange (f : DistrictSettings) : Bool :=
  (f.schedule.getD []).all (fun t => decide (t.start ≤ 1439) && within 10 150 t.setPoint)
    && optWithin 20 150 f.floor && optWithin 20 150 f.ceiling && optWithin 0 50 f.drop && optWithin 5 100 f.ttMin
    && optWithin 1 20 f.ttBand && optWithin 1 10 f.ttStep && optWithin 0 40 f.compMax

theorem schedule_clamped (o : Option (List ScheduleStep)) : decide (o.map (fun l => l.map clampStep) ≠ o)
    = !(o.getD []).all fun t => decide (t.start ≤ 1439) && within 10 150 t.setPoint := by
  cases o with
  | none => rfl
  | some l =>
    have hsame : l.map clampStep = l ↔ ∀ t ∈ l, clampStep t = t := by
      conv_lhs => rw [← List.map_id l, List.map_map]
      exact List.map_inj_left
    rw [Bool.eq_iff_iff]
    simp [hsame, clampStep_eq_self_iff]

/-! ### The schedule in its order -/

/-- Steps that rise are what the sorting of their like gives (04 R64). -/
theorem insertionSort_of_rising {steps l : List ScheduleStep} (hrise : steps.Pairwise fun a b => a.start < b.start) (hp : steps.Perm l) :
    (l.insertionSort fun a b => a.start ≤ b.start) = steps := by
  let le (a b : ScheduleStep) : Prop := a.start ≤ b.start
  have htotal : Std.Total le := ⟨fun a b => Nat.le_total a.start b.start⟩
  have htrans : IsTrans ScheduleStep le := ⟨fun a b c => Nat.le_trans⟩
  have hinj : ∀ a ∈ steps, ∀ b ∈ steps, a.start = b.start → a = b := by
    have hnodup : (steps.map (·.start)).Nodup := List.pairwise_map.2 (hrise.imp Nat.ne_of_lt)
    exact fun a ha b hb => List.inj_on_of_nodup_map hnodup ha hb
  have hsorted : (l.insertionSort le).Pairwise le := List.pairwise_insertionSort le l
  have hperm : (l.insertionSort le).Perm steps := (List.perm_insertionSort le l).trans hp.symm
  exact hperm.eq_of_pairwise
    (fun a b ha hb hab hba => hinj a (hperm.mem_iff.1 ha) b hb (Nat.le_antisymm hab hba)) hsorted (hrise.imp Nat.le_of_lt)

/-! ### The fields taken and refused -/

section
variable {s : State} {l : List Nat} {hs : List HolderId}

theorem mapM_holderOf_val (hs : List HolderId) : (hs.map Fin.val).mapM holderOf = some hs := by
  induction hs with
  | nil => rfl
  | cons h hs ih => simp [Looks.holderOf_val, ih]

theorem mapM_holderOf_of_le (h : ∃ n ∈ l, 6 ≤ n) : l.mapM holderOf = none := by
  induction l with
  | nil => simp at h
  | cons n l ih =>
    obtain ⟨m, hm, hle⟩ := h
    rcases List.mem_cons.1 hm with rfl | hm
    · simp [Looks.holderOf_of_le hle]
    · cases hn : holderOf n <;> simp [ih ⟨m, hm, hle⟩, hn]

theorem standbyOf_of_long (h : 3 < l.length) : standbyOf s l = .inl .range := by
  rw [standbyOf, if_pos h]

theorem standbyOf_of_le (hl : l.length ≤ 3) (h : ∃ n ∈ l, 6 ≤ n) : standbyOf s l = .inl .noRecord := by
  rw [standbyOf, if_neg (by omega), mapM_holderOf_of_le h]

theorem standbyOf_val (hl : (hs.map Fin.val).length ≤ 3) : standbyOf s (hs.map Fin.val)
    = if !hs.all fun h => (s.holder h).fitted then .inl .noRecord else if !hs.Nodup then .inl .range else .inr hs := by
  rw [standbyOf, if_neg (by omega), mapM_holderOf_val]

theorem standbyOf_of_unfitted (hl : (hs.map Fin.val).length ≤ 3) (h : ∃ h ∈ hs, (s.holder h).fitted = false) :
    standbyOf s (hs.map Fin.val) = .inl .noRecord := by
  rw [standbyOf_val hl, if_pos (by simpa using h)]

theorem standbyOf_of_twice (hl : (hs.map Fin.val).length ≤ 3) (hf : ∀ h ∈ hs, (s.holder h).fitted = true) (hn : ¬ hs.Nodup) :
    standbyOf s (hs.map Fin.val) = .inl .range := by
  rw [standbyOf_val hl, if_neg (by simpa using hf), if_pos (by simpa using hn)]

theorem standbyOf_of_taken (hl : hs.length ≤ 3) (hn : hs.Nodup) (hf : ∀ h ∈ hs, (s.holder h).fitted = true) :
    standbyOf s (hs.map Fin.val) = .inr hs := by
  rw [standbyOf_val (by simpa using hl), if_neg (by simpa using hf), if_neg (by simpa using hn)]

end

/-- The standby list that a request leaves in force, or names (04 R64). -/
theorem standby_taken {s : State} {o : Option (List Nat)} {present hs : List HolderId}
    (h : (o = none ∧ hs = present)
      ∨ (o = some (hs.map Fin.val) ∧ hs.length ≤ 3 ∧ hs.Nodup ∧ ∀ h ∈ hs, (s.holder h).fitted = true)) :
    (o.map (standbyOf s)).getD (.inr present) = .inr hs := by
  rcases h with ⟨rfl, rfl⟩ | ⟨rfl, hl, hn, hf⟩
  · rfl
  · exact standbyOf_of_taken hl hn hf

theorem scheduleLengthOk_iff (o : Option (List ScheduleStep)) :
    scheduleLengthOk o = true ↔ ∀ l, o = some l → 1 ≤ l.length ∧ l.length ≤ 6 := by
  cases o <;> simp [scheduleLengthOk, within]

/-- The working fields of a district with those of a request in their place (04 R64). -/
def settings (f : DistrictSettings) (steps : List ScheduleStep) (standby : List HolderId) (r : District) : District :=
  { r with
    schedule := steps
    floor := (f.floor.map (clampTo 20 150)).getD r.floor
    ceiling := (f.ceiling.map (clampTo 20 150)).getD r.ceiling
    drop := (f.drop.map (clampTo 0 50)).getD r.drop
    ttMin := (f.ttMin.map (clampTo 5 100)).getD r.ttMin
    ttBand := (f.ttBand.map (clampTo 1 20)).getD r.ttBand
    ttStep := (f.ttStep.map (clampTo 1 10)).getD r.ttStep
    compMax := (f.compMax.map (clampTo 0 40)).getD r.compMax
    autoJoin := f.autoJoin.getD r.autoJoin
    standby := standby }

section
variable {s : State} {r : District} {f : DistrictSettings}

/-- What a request's fields come to where the schedule's length and the standby list pass (04 R64). -/
theorem districtSettings_eq {hs : List HolderId} (hlength : scheduleLengthOk f.schedule = true)
    (hstandby : (f.standby.map (standbyOf s)).getD (.inr r.standby) = .inr hs) : districtSettings s r f
    = if ¬ ((clampedSteps f r).map (·.start)).Nodup then .inl .range
      else if (f.ceiling.map (clampTo 20 150)).getD r.ceiling < (f.floor.map (clampTo 20 150)).getD r.floor then .inl .range
      else .inr (settings f ((clampedSteps f r).insertionSort fun a b => a.start ≤ b.start) hs r, !inRange f) := by
  simp only [districtSettings, hlength, hstandby, clampField_fst, clampField_snd, schedule_clamped, clampedSteps_eq, Bool.not_true,
    Bool.false_eq_true, if_false, Bool.not_eq_true', decide_eq_false_iff_not, settings, inRange, Bool.not_and]

theorem districtSettings_of_taken {hs : List HolderId} {steps : List ScheduleStep} (hlength : scheduleLengthOk f.schedule = true)
    (hstandby : (f.standby.map (standbyOf s)).getD (.inr r.standby) = .inr hs)
    (hrise : steps.Pairwise fun a b => a.start < b.start) (hperm : steps.Perm (clampedSteps f r))
    (hle : (f.floor.map (clampTo 20 150)).getD r.floor ≤ (f.ceiling.map (clampTo 20 150)).getD r.ceiling) :
    districtSettings s r f = .inr (settings f steps hs r, !inRange f) := by
  have hnodup : ((clampedSteps f r).map (·.start)).Nodup :=
    (hperm.map _).nodup_iff.1 (List.pairwise_map.2 (hrise.imp Nat.ne_of_lt))
  rw [districtSettings_eq hlength hstandby, if_neg (not_not.2 hnodup), if_neg (Nat.not_lt.2 hle), insertionSort_of_rising hrise hperm]

theorem districtSettings_of_length (h : scheduleLengthOk f.schedule = false) : districtSettings s r f = .inl .range := by
  rw [districtSettings, h]
  rfl

theorem districtSettings_of_standby {l : List Nat} {refusal : Result} (hlength : scheduleLengthOk f.schedule = true)
    (hl : f.standby = some l) (hrefused : standbyOf s l = .inl refusal) : districtSettings s r f = .inl refusal := by
  simp [districtSettings, hlength, hl, hrefused]

end

/-! ### Occasions of one district -/

/-- An occasion that changes nothing is taken out of the list (04 R79). -/
theorem tryJoins_of_fixed {s : State} {ds : List DistrictId} (ha : s.attempt = none) (hfixed : ∀ e ∈ ds, tryJoin e s = s) :
    tryJoins ds s = { s with occasions := [] } := by
  induction ds with
  | nil => rfl
  | cons d ds ih => rw [tryJoins, if_neg (by simp [ha]), hfixed d (by simp), ih fun e he => hfixed e (by simp [he])]

/-- With an attempt in flight the list waits (04 R82). -/
theorem tryJoins_of_attempt {s : State} (ds : List DistrictId) (ha : s.attempt.isSome = true) :
    tryJoins ds s = { s with occasions := ds } := by
  cases ds with
  | nil => rfl
  | cons d ds => rw [tryJoins, if_pos ha]

/-- The candidates depend on the holders, the feed lists and the pending joins alone (04 R80). -/
theorem candidate_congr {s t : State} (hh : t.holders = s.holders)
    (hl : ∀ e, (t.district e).feeds = (s.district e).feeds ∧ (t.district e).pendingJoins = (s.district e).pendingJoins)
    (required : Nat) (k : HolderId) : Candidate t required k ↔ Candidate s required k := by
  have hholder : t.holder k = s.holder k := by rw [State.holder, hh]; rfl
  simp only [Candidate, hholder, hl]

/-- A change of one district that leaves its lists leaves every list. -/
theorem lists_modDistrict {s : State} {d : DistrictId} {g : District → District}
    (hg : (g (s.district d)).feeds = (s.district d).feeds ∧ (g (s.district d)).pendingJoins = (s.district d).pendingJoins)
    (e : DistrictId) : ((s.modDistrict d g).district e).feeds = (s.district e).feeds
      ∧ ((s.modDistrict d g).district e).pendingJoins = (s.district e).pendingJoins := by
  by_cases he : e = d
  · subst he
    rwa [State.district_modDistrict_self]
  · rw [State.district_modDistrict_ne _ _ he]
    exact ⟨rfl, rfl⟩

section
variable {s : State} {d : DistrictId} {ds : List DistrictId} (ha : s.attempt = none) (hatt : Attempts s d)

include ha hatt

/-- Occasions of one district that find no room, or no candidate, all fail (04 R80). -/
theorem tryJoins_of_failure (hd : ∀ e ∈ ds, e = d) (hfail : 3 ≤ (s.district d).feeds.length + (s.district d).pendingJoins.length
    ∨ ∀ k ∈ (s.district d).standby, ¬ Candidate s (s.district d).required k) :
    tryJoins (d :: ds) s = { joinFailed d s with occasions := [] } := by
  have hrec : (joinFailed d s).district d = withFailed true (s.district d) := State.district_modDistrict_self ..
  have hagain : tryJoin d (joinFailed d s) = joinFailed d s := by
    rw [tryJoin_of_failure]
    · exact State.modDistrict_modDistrict ..
    · rw [Attempts, hrec]
      exact hatt
    · have hcandidate := candidate_congr (s := s) (t := joinFailed d s) rfl (lists_modDistrict ⟨rfl, rfl⟩)
      simp only [hrec, hcandidate]
      exact hfail
  rw [tryJoins, if_neg (by simp [ha]), tryJoin_of_failure hatt hfail]
  exact tryJoins_of_fixed ha fun e he => hd e he ▸ hagain

/-- The first of the occasions places the automatic DRAW, and the others wait for its answer (04 R80, R82; log entry 8). -/
theorem tryJoins_of_candidate {before rest : List HolderId} {k : HolderId}
    (hroom : (s.district d).feeds.length + (s.district d).pendingJoins.length < 3)
    (hstandby : (s.district d).standby = before ++ k :: rest)
    (hbefore : ∀ j ∈ before, ¬ Candidate s (s.district d).required j) (hk : Candidate s (s.district d).required k) :
    tryJoins (d :: ds) s
      = { s with attempt := some ⟨d, k⟩, inTransit := s.inTransit ++ [.automaticDraw k d], occasions := ds } := by
  rw [tryJoins, if_neg (by simp [ha]), tryJoin_of_candidate hatt hroom hstandby hbefore hk, tryJoins_of_attempt _ rfl]
  rfl

end

/-! ### The request -/

/-- A district's record with new fields in force: the compensation within its maximum, and the schedule judged (04 R64, R68). -/
def retuned (minute : Nat) (new : District) : District :=
  { new with comp := min new.comp new.compMax }.judgeSchedule minute

/-- The state with new fields of a district in force, and with the occasions they make taken (04 R64, R78, R79). -/
def withFields (d : DistrictId) (new : District) (s : State) : State :=
  let u := evaluate d (adjustDistrict d (fun _ => retuned s.yard.minute new) s)
  runOccasions (if !(s.district d).autoJoin && new.autoJoin
    && (decide ((u.district d).state = .short) || decide ((u.district d).state = .starved)) then occasion d u else u)

section
variable {s : State} {d : DistrictId} {f : DistrictSettings}

theorem setDistrict_of_refused {refusal : Result} (h : districtSettings s (s.district d) f = .inl refusal) :
    setDistrict d f s = (refusal, s) := by
  simp only [setDistrict, onDistrict_val, h]

theorem setDistrict_of_taken {new : District} {acted : Bool} (h : districtSettings s (s.district d) f = .inr (new, acted)) :
    setDistrict d f s = (if acted then .doneClamped else .done, withFields d new s) := by
  simp only [setDistrict, onDistrict_val, h]
  rfl

end

theorem withFields_withRex (x : Rex) (d : DistrictId) (new : District) (s : State) :
    withFields d new (withRex x s) = withRex x (withFields d new s) := by
  have hyard : (withRex x s).yard = s.yard := rfl
  unfold withFields
  dsimp only
  rw [← runOccasions_withRex, hyard, adjustDistrict_withRex, evaluate_withRex]
  exact congrArg runOccasions (ite_commutes (withRex x) (fun _ => rfl) fun _ => rfl)

theorem setDistrict_withRex (x : Rex) (n : Nat) (f : DistrictSettings) (s : State) :
    setDistrict n f (withRex x s) = answerWithRex x (setDistrict n f s) := by
  rcases Nat.lt_or_ge n 8 with hn | hn
  · have hsettings : districtSettings (withRex x s) ((withRex x s).district ⟨n, hn⟩) f
        = districtSettings s (s.district ⟨n, hn⟩) f := rfl
    cases h : districtSettings s (s.district ⟨n, hn⟩) f with
    | inl refusal =>
      rw [setDistrict_of_refused (d := ⟨n, hn⟩) h, setDistrict_of_refused (d := ⟨n, hn⟩) (hsettings.trans h)]
      rfl
    | inr taken =>
      rw [setDistrict_of_taken (d := ⟨n, hn⟩) h, setDistrict_of_taken (d := ⟨n, hn⟩) (hsettings.trans h), withFields_withRex]
      rfl
  · rw [setDistrict, setDistrict, onDistrict_of_le _ _ hn, onDistrict_of_le _ _ hn]
    rfl

theorem exec_setDistrict {s t : State} {tag : Byte} {n : Nat} {f : DistrictSettings} {result : Result} (hr : Ready s)
    (h : setDistrict n f s = (result, t)) : exec (.setDistrict tag n f) s = .next (withResponse t tag 0x20 result []) :=
  exec_shared (q := .setDistrict n f) rfl hr rfl rfl (fun _ => rfl) (fun x t => setDistrict_withRex x n f t) h

/-- The occasions of a request: the state entered, and automatic joining turned on (04 R78, R79). -/
def occasionsOf (d : DistrictId) (entered turnedOn : Bool) : List DistrictId :=
  (if entered = true then [d] else []) ++ if turnedOn = true then [d] else []

theorem mem_occasionsOf {d e : DistrictId} {entered turnedOn : Bool} (he : e ∈ occasionsOf d entered turnedOn) : e = d := by
  cases entered <;> cases turnedOn <;> simp [occasionsOf] at he <;> assumption

theorem occasionsOf_cons {d : DistrictId} {entered turnedOn : Bool} (h : (entered || turnedOn) = true) :
    occasionsOf d entered turnedOn = d :: if entered = true ∧ turnedOn = true then [d] else [] := by
  cases entered <;> cases turnedOn
  · cases h
  all_goals rfl

theorem occasionsOf_eq_nil {d : DistrictId} {entered turnedOn : Bool} (h : (entered || turnedOn) = false) :
    occasionsOf d entered turnedOn = [] := by
  obtain ⟨rfl, rfl⟩ := Bool.or_eq_false_iff.1 h
  rfl

section
variable {s : State} {d : DistrictId} {new : District} {st : DistrictState}

/-- What new fields come to: the district judged with them, and then the occasions (04 R71, R72, R78, R79). -/
theorem withFields_eq {entered turnedOn : Bool} (hstate : new.state = (s.district d).state)
    (hst : st = evaluated s (retuned s.yard.minute new).recompute) (ho : s.occasions = [])
    (hentered : entered = decide (st ≠ (s.district d).state ∧ st ≠ .serving))
    (hturnedOn : turnedOn = (decide ((s.district d).autoJoin = false ∧ new.autoJoin = true) && decide (st = .short ∨ st = .starved))) :
    withFields d new s = runOccasions { enterState d st (delivered d (fun _ => retuned s.yard.minute new) s) with
      occasions := occasionsOf d entered turnedOn } := by
  let u := delivered d (fun _ => retuned s.yard.minute new) s
  have hevaluated : evaluated u (u.district d) = st := by
    rw [delivered_district, evaluated, (beside_delivered d _ s).view, hst]
    rfl
  have hjudged : evaluate d (adjustDistrict d (fun _ => retuned s.yard.minute new) s) = enterState d st u := by
    rw [evaluate_adjustDistrict, evaluate_eq, hevaluated]
  have hoccasions : (enterState d st u).occasions = if entered = true then [d] else [] := by
    have hsame : u.occasions = s.occasions := by
      unfold u delivered
      split <;> rfl
    have hbefore : (u.district d).state = (s.district d).state := by
      rw [delivered_district, ← hstate]
      rfl
    rw [enterState, hsame, ho, hbefore, entryOccasion, hentered]
    simp
  have hafter : ((enterState d st u).district d).state = st := by
    show ((u.modDistrict d (entering st)).district d).state = st
    rw [State.district_modDistrict_self]
    rfl
  have hturn : (!(s.district d).autoJoin && new.autoJoin && (decide (st = .short) || decide (st = .starved))) = turnedOn := by
    rw [hturnedOn]
    simp
  rw [withFields]
  dsimp only
  rw [hjudged, hafter, hturn, occasionsOf, ← hoccasions]
  split
  · rfl
  · rw [List.append_nil]

end

section
variable {s u : State} {d : DistrictId} {os : List DistrictId} (ho : u.occasions = [])

include ho

/-- Occasions that make no attempt change nothing (04 R79). -/
theorem runOccasions_of_idle (h : os = [] ∨ (u.attempt = none ∧ ¬ Attempts u d ∧ ∀ e ∈ os, e = d)) :
    runOccasions { u with occasions := os } = u := by
  have hu : { u with occasions := [] } = u := by rw [← ho]
  rcases h with rfl | ⟨ha, hnot, hos⟩
  · rw [runOccasions_of_none rfl, hu]
  · have hfixed : ∀ e ∈ os, tryJoin e { u with occasions := os } = { u with occasions := os } := fun e he =>
      tryJoin_of_no_attempt (by rw [hos e he]; exact hnot)
    exact (tryJoins_of_fixed (s := { u with occasions := os }) ha hfixed).trans hu

variable (ha : u.attempt = none) (hatt : Attempts u d)

include ha hatt

theorem runOccasions_of_failure (hos : ∀ e ∈ os, e = d) (hfail : 3 ≤ (u.district d).feeds.length + (u.district d).pendingJoins.length
    ∨ ∀ k ∈ (u.district d).standby, ¬ Candidate u (u.district d).required k) :
    runOccasions { u with occasions := d :: os } = joinFailed d u := by
  refine (tryJoins_of_failure (s := { u with occasions := d :: os }) ha hatt hos hfail).trans ?_
  have hocc : (joinFailed d u).occasions = [] := ho
  rw [← hocc]
  rfl

omit ho in
theorem runOccasions_of_candidate {before rest : List HolderId} {k : HolderId}
    (hroom : (u.district d).feeds.length + (u.district d).pendingJoins.length < 3)
    (hstandby : (u.district d).standby = before ++ k :: rest)
    (hbefore : ∀ j ∈ before, ¬ Candidate u (u.district d).required j) (hk : Candidate u (u.district d).required k) :
    runOccasions { u with occasions := d :: os }
      = { u with attempt := some ⟨d, k⟩, inTransit := u.inTransit ++ [.automaticDraw k d], occasions := os } :=
  tryJoins_of_candidate (s := { u with occasions := d :: os }) ha hatt hroom hstandby hbefore hk

end

/-- A district's record with new fields in force, in the state its feeds then give it (04 R64, R71, R72, R78). -/
theorem enterState_delivered {s : State} {d : DistrictId} {new : District} {st : DistrictState} {g : District → District}
    {moved : Bool} {loading : Nat} {os : List DistrictId} (hloading : loading = (retuned s.yard.minute new).recompute.loading)
    (hmoved : moved = (new.state.inService && decide (loading ≠ (s.district d).loading)))
    (hg : g (s.district d) = entering st { (retuned s.yard.minute new).recompute with
      inFlight := if moved = true then some loading else new.inFlight }) :
    { enterState d st (delivered d (fun _ => retuned s.yard.minute new) s) with occasions := os }
      = { (if moved = true then (s.modDistrict d g).setLoadingCommand d (some loading) else s.modDistrict d g) with
          occasions := os } := by
  have hiff : moved = true ↔ (retuned s.yard.minute new).state.inService = true
      ∧ (retuned s.yard.minute new).recompute.loading ≠ (s.district d).loading := by
    rw [hmoved, Bool.and_eq_true, decide_eq_true_iff, hloading]
    rfl
  have hrec : entering st (adjusted (fun _ => retuned s.yard.minute new) (s.district d)) = g (s.district d) := by
    rw [hg, DistrictWork.adjusted]
    simp only [← hiff, hloading]
    rfl
  have hdistrict : (s.modDistrict d (adjusted fun _ => retuned s.yard.minute new)).modDistrict d (entering st) = s.modDistrict d g := by
    rw [State.modDistrict_modDistrict]
    exact modDistrict_congr hrec
  rw [← hdistrict, hloading]
  unfold enterState delivered
  simp only [← hiff]
  split <;> rfl

theorem turnedOn_iff (before : Bool) (o : Option Bool) :
    (before = false ∧ o.getD before = true) ↔ (before = false ∧ o = some true) := by
  cases o <;> cases before <;> simp

/-- The state of a district in service is one of three (04 R78). -/
theorem short_or_starved {st : DistrictState} (hin : st.inService = true) (hne : st ≠ .serving) : st = .short ∨ st = .starved := by
  cases st with
  | out => cases hin
  | tripped => cases hin
  | serving => exact absurd rfl hne
  | short => exact .inl rfl
  | starved => exact .inr rfl

/-- Only a district in service enters SHORT or STARVED, or has automatic joining turned on in one of them (04 R78, R79). -/
theorem short_or_starved_of_occasion {before st : DistrictState} {inService entered turnedOn off : Bool}
    (hin : st.inService = inService) (hout : inService = false → st = before)
    (hentered : entered = decide (st ≠ before ∧ st ≠ .serving))
    (hturnedOn : turnedOn = (off && decide (st = .short ∨ st = .starved)))
    (h : (entered || turnedOn) = true) : inService = true ∧ (st = .short ∨ st = .starved) := by
  rcases Bool.or_eq_true_iff.1 h with h | h
  · obtain ⟨hne, hserving⟩ := of_decide_eq_true (hentered ▸ h)
    have hservice : inService = true := Bool.eq_true_of_not_eq_false fun hf => hne (hout hf)
    exact ⟨hservice, short_or_starved (hin.trans hservice) hserving⟩
  · have hst := of_decide_eq_true (Bool.and_eq_true_iff.1 (hturnedOn ▸ h)).2
    refine ⟨hin.symm.trans ?_, hst⟩
    rcases hst with rfl | rfl <;> rfl

/-- The latches of a state entered, as SHORT and STARVED latch (04 R78). -/
theorem entering_eq {st : DistrictState} {entered : Bool} {r : District}
    (hentered : entered = decide (st ≠ r.state ∧ st ≠ .serving)) :
    entering st r = { r with
      state := st
      latches := { r.latches with
        starved := r.latches.starved || (entered && decide (st = .starved))
        short := r.latches.short || (entered && decide (st = .short)) } } := by
  have hlatch (w : DistrictState) (hw : w ≠ .serving) : decide (st = w ∧ r.state ≠ w) = (entered && decide (st = w)) := by
    by_cases hst : st = w
    · subst hst
      simp [hentered, hw, eq_comm]
    · simp [hst]
  simp only [entering, hlatch .starved (by decide), hlatch .short (by decide)]

/-- The state that new fields of a district leave for the occasions they make: the lists and the holders as they were (04 R79, R80). -/
structure Fielded (s u : State) (d : DistrictId) (standby : List HolderId) (required : Nat) (made tries : Bool) : Prop where
  occasions : u.occasions = []
  standby : (u.district d).standby = standby
  required : (u.district d).required = required
  lists : ∀ e, (u.district e).feeds = (s.district e).feeds ∧ (u.district e).pendingJoins = (s.district e).pendingJoins
  holders : u.holders = s.holders
  attempt : made = true → u.attempt = none ∧ (Attempts u d ↔ tries = true)
  made : tries = true → made = true

section
variable {s u : State} {d : DistrictId} {hs : List HolderId} {required : Nat} {entered turnedOn tries : Bool}
  (h : Fielded s u d hs required (entered || turnedOn) tries)

include h

theorem Fielded.idle (hnone : tries = false) : runOccasions { u with occasions := occasionsOf d entered turnedOn } = u := by
  refine runOccasions_of_idle (d := d) h.occasions ?_
  cases hmade : (entered || turnedOn) with
  | false => exact .inl (occasionsOf_eq_nil hmade)
  | true =>
    obtain ⟨ha, hiff⟩ := h.attempt hmade
    exact .inr ⟨ha, by simp [hiff, hnone], fun e => mem_occasionsOf⟩

theorem Fielded.failure (htry : tries = true) (hfail : 3 ≤ (s.district d).feeds.length + (s.district d).pendingJoins.length
    ∨ ∀ k ∈ hs, ¬ Candidate s required k) :
    runOccasions { u with occasions := occasionsOf d entered turnedOn } = joinFailed d u := by
  obtain ⟨ha, hiff⟩ := h.attempt (h.made htry)
  rw [occasionsOf_cons (h.made htry), runOccasions_of_failure h.occasions ha (hiff.2 htry)]
  · exact fun e he => by simpa using (List.mem_ite_nil_right.1 he).2
  · rw [(h.lists d).1, (h.lists d).2, h.standby, h.required]
    simpa only [candidate_congr h.holders h.lists] using hfail

theorem Fielded.candidate {before rest : List HolderId} {k : HolderId} (htry : tries = true)
    (hroom : (s.district d).feeds.length + (s.district d).pendingJoins.length < 3) (hsplit : hs = before ++ k :: rest)
    (hbefore : ∀ j ∈ before, ¬ Candidate s required j) (hk : Candidate s required k) :
    runOccasions { u with occasions := occasionsOf d entered turnedOn } = { u with
      attempt := some ⟨d, k⟩, inTransit := u.inTransit ++ [.automaticDraw k d]
      occasions := if entered = true ∧ turnedOn = true then [d] else [] } := by
  obtain ⟨ha, hiff⟩ := h.attempt (h.made htry)
  have hcandidate := candidate_congr h.holders h.lists
  rw [occasionsOf_cons (h.made htry), runOccasions_of_candidate ha (hiff.2 htry) (before := before) (k := k) (rest := rest)]
  · rwa [(h.lists d).1, (h.lists d).2]
  · rw [h.standby, hsplit]
  · rw [h.required]
    simpa only [hcandidate] using hbefore
  · rw [h.required]
    exact (hcandidate _ k).2 hk

end

/-- Settles O30: the refusals in their order, and the fields taken, with no attempt, one that fails, and one that finds a holder. -/
theorem setDistrictClampsItsFields : Obligations.SetDistrictClampsItsFields := by
  unfold Obligations.SetDistrictClampsItsFields
  intro s tag d f hr
  have refused {refusal : Result} (h : districtSettings s (s.district d) f = .inl refusal) :
      exec (.setDistrict tag d f) s = .next (withResponse s tag 0x20 refusal []) := exec_setDistrict hr (setDistrict_of_refused h)
  refine ⟨fun n hn => exec_setDistrict hr (onDistrict_of_le s _ hn), fun hl => refused (districtSettings_of_length (by rw [hl]; rfl)),
    fun l hl hlong => refused (districtSettings_of_length (by simp [hl, scheduleLengthOk, within]; omega)), fun hlen => ?_⟩
  have hlength := (scheduleLengthOk_iff f.schedule).2 hlen
  refine ⟨fun l hl hlong => refused (districtSettings_of_standby hlength hl (standbyOf_of_long hlong)),
    fun l hl hshort => ⟨fun hn => refused (districtSettings_of_standby hlength hl (standbyOf_of_le hshort hn)), ?_⟩, ?_⟩
  · rintro hs rfl
    exact ⟨fun hf => refused (districtSettings_of_standby hlength hl (standbyOf_of_unfitted hshort hf)),
      fun hf hn => refused (districtSettings_of_standby hlength hl (standbyOf_of_twice hshort hf hn))⟩
  intro hs floor ceiling drop compMax hstandby hfloor hceiling hdrop hcompMax
  have htaken := standby_taken hstandby
  have hsettings := districtSettings_eq hlength htaken
  rw [← hfloor, ← hceiling] at hsettings
  refine ⟨fun l hl hn => refused (hsettings.trans (if_pos ?_)), fun hlt => refused (hsettings.trans ?_), ?_⟩
  · simpa [clampedSteps, hl, Function.comp_def] using hn
  · rw [if_pos hlt, ite_self]
  intro steps setPoint comp loading st moved inService entered turnedOn tries t u result hle hrise hperm ho hin hattempt hsetPoint hcomp
    hloading hmoved hst hentered hturnedOn htries ht hu hresult
  have hfields := districtSettings_of_taken hlength htaken hrise hperm (by rwa [← hfloor, ← hceiling])
  have hanswer : result = if !inRange f then .doneClamped else .done := by
    rw [hresult]
    show (if inRange f = true then _ else _) = _
    cases inRange f <;> rfl
  have hexec : exec (.setDistrict tag d f) s
      = .next (withResponse (runOccasions { u with occasions := occasionsOf d entered turnedOn }) tag 0x20 result []) := by
    refine exec_setDistrict hr ((setDistrict_of_taken hfields).trans (Prod.ext hanswer.symm ?_))
    refine (withFields_eq (new := settings f steps hs (s.district d)) (st := st) (turnedOn := turnedOn) rfl ?_ ho hentered
      ?_).trans (congrArg runOccasions ?_)
    · rw [hst, hin, hloading, hsetPoint, hcomp, hfloor, hceiling, hdrop, hcompMax]
      rfl
    · rw [hturnedOn]
      exact congrArg (fun p => p && decide (st = .short ∨ st = .starved)) (decide_eq_decide.2 (turnedOn_iff _ _)).symm
    · rw [hu, ht]
      refine enterState_delivered ?_ (by rw [hmoved, hin]; rfl) ?_
      · rw [hloading, hsetPoint, hcomp, hfloor, hceiling, hcompMax]
        rfl
      · refine Eq.trans ?_ (entering_eq (entered := entered) (by exact hentered)).symm
        simp only [hloading, hsetPoint, hcomp, hfloor, hceiling, hdrop, hcompMax]
        rfl
  have hdistrict (e : DistrictId) : u.district e = t.district e := by
    rw [hu]
    split
    · exact setLoadingCommand_district t e e (some loading)
    · rfl
  have hrec := (hdistrict d).trans (ht ▸ State.district_modDistrict_self ..)
  obtain ⟨hyard, hholders, hocc, hatt⟩ : u.yard = s.yard ∧ u.holders = s.holders ∧ u.occasions = [] ∧ u.attempt = s.attempt := by
    rw [hu, ht]
    split <;> exact ⟨rfl, rfl, ho, rfl⟩
  have hservice : st.inService = inService := by
    rw [hst]
    split
    · rename_i h
      rw [h, stateOfFeeds_inService]
    · exact hin.symm
  have hfielded : Fielded s u d hs (loading + drop) (entered || turnedOn) tries :=
    { occasions := hocc
      standby := by rw [hrec]
      required := by rw [hrec]
      lists := fun e => by
        rw [hdistrict, ht]
        exact lists_modDistrict ⟨rfl, rfl⟩ e
      holders := hholders
      attempt := fun h => by
        obtain ⟨hserved, hstate⟩ := short_or_starved_of_occasion hservice (fun h => by rw [hst, h]; rfl) hentered hturnedOn h
        refine ⟨hatt.trans (hattempt hserved), ?_⟩
        rw [htries, h]
        simp [Attempts, hrec, hyard, hstate]
      made := fun htry => (Bool.and_eq_true_iff.1 (htries ▸ htry)).1 }
  exact ⟨fun hnone => by rw [hexec, hfielded.idle hnone], fun htry hfail => by rw [hexec, hfielded.failure htry hfail]; rfl,
    fun before k rest htry hroom hsplit hbefore hk => by rw [hexec, hfielded.candidate htry hroom hsplit hbefore hk]⟩

end Sys2Proof.DistrictFields

/-! PROOFS. SET-CLOCK and the minute event (04 R67, R68; O33): each district's schedule judged at the minute, and the occasions behind. -/

namespace Sys2Proof.Schedules

open Sys2Proof.Machine Sys2Proof.Safety Sys2Proof.HolderOrders Sys2Proof.DistrictWork Sys2Proof.DistrictRequests

/-! ### One district's schedule -/

section
variable {s : State} {d : DistrictId}

theorem judgeDistrictSchedule_of_same
    (h : setPointAt s.yard.minute (s.district d).setPoint (s.district d).schedule = (s.district d).setPoint) :
    judgeDistrictSchedule s d = s := if_pos h

theorem judgeDistrictSchedule_of_changed
    (h : setPointAt s.yard.minute (s.district d).setPoint (s.district d).schedule ≠ (s.district d).setPoint) :
    judgeDistrictSchedule s d = adjustDistrict d (District.judgeSchedule s.yard.minute) s := if_neg h

theorem beside_judgeDistrictSchedule (s : State) (d : DistrictId) : Beside s (judgeDistrictSchedule s d) := by
  by_cases h : setPointAt s.yard.minute (s.district d).setPoint (s.district d).schedule = (s.district d).setPoint
  · rw [judgeDistrictSchedule_of_same h]
    exact .refl s
  · rw [judgeDistrictSchedule_of_changed h]
    exact beside_adjustDistrict d _ s

theorem sameAt_judgeDistrictSchedule (s : State) (d e : DistrictId) (he : e ≠ d) : SameAt e s (judgeDistrictSchedule s d) := by
  by_cases h : setPointAt s.yard.minute (s.district d).setPoint (s.district d).schedule = (s.district d).setPoint
  · rw [judgeDistrictSchedule_of_same h]
    exact .refl e s
  · rw [judgeDistrictSchedule_of_changed h]
    exact sameAt_adjustDistrict _ s he

theorem judgeDistrictSchedule_withRex (x : Rex) (s : State) (d : DistrictId) :
    judgeDistrictSchedule (withRex x s) d = withRex x (judgeDistrictSchedule s d) :=
  ite_commutes (withRex x) (fun _ => rfl) fun _ => adjustDistrict_withRex x d _ s

end

/-! ### The values that follow a set-point -/

section
variable {s : State} {d : DistrictId} {f : District → District}

/-- The governor's entry once a district's values have been adjusted (04 R72). -/
theorem governorEntry_delivered (d : DistrictId) (f : District → District) (s : State) : (delivered d f s).governorEntry d
    = if (f (s.district d)).state.inService = true ∧ (f (s.district d)).recompute.loading ≠ (s.district d).loading then
        (s.governorEntry d).map fun e => { e with command := some (.loading (f (s.district d)).recompute.loading) }
      else s.governorEntry d := by
  unfold delivered
  split
  · rw [governorEntry_setLoadingCommand, if_pos rfl]
    rfl
  · rfl

/-- An adjusted district: its values worked again, and its state that of its feeds where the required pressure has changed (04 R71,
R72, R78). -/
theorem adjustDistrict_at (d : DistrictId) (f : District → District) (s : State) : ∃ l, (adjustDistrict d f s).district d
      = { DistrictWork.adjusted f (s.district d) with
          latches := l
          state := if (f (s.district d)).recompute.required ≠ (s.district d).required then
            evaluated s (f (s.district d)).recompute else (f (s.district d)).state }
    ∧ (adjustDistrict d f s).governorEntry d = (delivered d f s).governorEntry d := by
  rw [adjustDistrict_eq]
  split
  · have hst : evaluated (delivered d f s) ((delivered d f s).district d) = evaluated s (f (s.district d)).recompute := by
      rw [delivered_district]
      simp only [evaluated, (beside_delivered d f s).view]
      rfl
    have hrec : (evaluate d (delivered d f s)).district d
        = entering (evaluated s (f (s.district d)).recompute) (DistrictWork.adjusted f (s.district d)) := by
      rw [evaluate_eq, hst, ← delivered_district]
      exact State.district_modDistrict_self ..
    exact ⟨(entering (evaluated s (f (s.district d)).recompute) (DistrictWork.adjusted f (s.district d))).latches, hrec,
      by rw [evaluate_eq]; rfl⟩
  · exact ⟨_, delivered_district d f s, rfl⟩

/-- A district whose schedule has been judged follows it (04 R68, R71, R72, R78). -/
theorem judgeDistrictSchedule_followed (s : State) (d : DistrictId) : ScheduleFollowed s (judgeDistrictSchedule s d) d
    ∧ ((judgeDistrictSchedule s d).district d).setPoint
      = setPointAt s.yard.minute (s.district d).setPoint (s.district d).schedule := by
  by_cases h : setPointAt s.yard.minute (s.district d).setPoint (s.district d).schedule = (s.district d).setPoint
  · rw [judgeDistrictSchedule_of_same h]
    exact ⟨⟨fun _ => ⟨rfl, rfl, rfl, rfl, rfl⟩, fun hne => absurd rfl hne⟩, h.symm⟩
  · rw [judgeDistrictSchedule_of_changed h]
    obtain ⟨l, hrec, hgov⟩ := adjustDistrict_at d (District.judgeSchedule s.yard.minute) s
    have hset : ((adjustDistrict d (District.judgeSchedule s.yard.minute) s).district d).setPoint
        = setPointAt s.yard.minute (s.district d).setPoint (s.district d).schedule := by rw [hrec]; rfl
    refine ⟨⟨fun hsame => absurd (hset.symm.trans hsame) h, fun _ => ?_⟩, hset⟩
    rw [hgov, governorEntry_delivered, hset, hrec]
    refine ⟨rfl, rfl, fun hin hne => ?_, fun hnot => ?_, fun hin hne => ?_, fun hnot => ?_⟩
    · exact ⟨if_pos ⟨hin, hne⟩, if_pos ⟨hin, hne⟩⟩
    · have hkept : ¬ ((s.district d).state.inService = true ∧ _ ≠ (s.district d).loading) := fun ⟨hin, hne⟩ =>
        hnot.elim (fun hf => by simp [hf] at hin) hne
      exact ⟨if_neg hkept, if_neg hkept⟩
    · exact (if_pos hne).trans (if_pos hin)
    · rcases hnot with hf | hsame
      · exact ite_eq_right_iff.2 fun _ => if_neg (by simp [District.judgeSchedule, District.recompute, hf])
      · exact if_neg (not_not.2 hsame)

end

/-! ### Every district -/

/-- What a district's schedule comes to depends on its own records alone. -/
theorem scheduleFollowed_congr {s u v t : State} {d : DistrictId} (h : ScheduleFollowed u v d) (hview : s.view = u.view)
    (hu : SameAt d s u) (hv : SameAt d v t) : ScheduleFollowed s t d := by
  simp only [ScheduleFollowed, hview, hv.district, hv.governor, ← hu.district, ← hu.governor]
  exact h

/-- The occasions leave what a schedule governs (04 R79, R80). -/
theorem scheduleFollowed_tried {s t u : State} {d : DistrictId} (h : ScheduleFollowed s t d) (ht : Tried t u) :
    ScheduleFollowed s u d := by
  obtain ⟨b, hb⟩ := ht.districts d
  have hgov : u.governorEntry d = t.governorEntry d := by
    rw [ht.others]
    rfl
  simp only [ScheduleFollowed, hb, hgov]
  exact h

/-- A schedule judged for each district in turn (04 R68). -/
theorem schedules_followed (s : State) (d : DistrictId) : ScheduleFollowed s (districtIds.foldl judgeDistrictSchedule s) d
    ∧ ((districtIds.foldl judgeDistrictSchedule s).district d).setPoint
      = setPointAt s.yard.minute (s.district d).setPoint (s.district d).schedule := by
  obtain ⟨u, hbeside, hbefore, hafter⟩ := foldl_at beside_judgeDistrictSchedule sameAt_judgeDistrictSchedule s d
  obtain ⟨hfollowed, hset⟩ := judgeDistrictSchedule_followed u d
  obtain ⟨hyard, -⟩ := hbeside.kept
  refine ⟨scheduleFollowed_congr hfollowed hbeside.view.symm hbefore hafter, ?_⟩
  rw [hafter.district, hset, hyard, hbefore.district]

/-- DIC takes a minute: every schedule is judged at it (04 R68). -/
theorem takeMinute_followed {s t : State} (h : takeMinute s = t) : Beside s t ∧ ∀ d, ScheduleFollowed s t d
    ∧ (t.district d).setPoint = setPointAt s.yard.minute (s.district d).setPoint (s.district d).schedule := by
  have hbeside := Beside.foldl beside_judgeDistrictSchedule districtIds s
  have hfollowed := schedules_followed s
  have htried := tried_runOccasions (districtIds.foldl judgeDistrictSchedule s)
  rw [← takeMinute, h] at htried
  generalize districtIds.foldl judgeDistrictSchedule s = u at hbeside hfollowed htried
  refine ⟨hbeside.trans htried.beside, fun d => ⟨scheduleFollowed_tried (hfollowed d).1 htried, ?_⟩⟩
  obtain ⟨b, hb⟩ := htried.districts d
  rw [hb]
  exact (hfollowed d).2

/-! ### The two occasions -/

theorem setClock_withRex (x : Rex) (day minute : Nat) (s : State) :
    setClock day minute (withRex x s) = answerWithRex x (setClock day minute s) := by
  have hfold (l : List DistrictId) (t : State) :
      l.foldl judgeDistrictSchedule (withRex x t) = withRex x (l.foldl judgeDistrictSchedule t) := by
    induction l generalizing t with
    | nil => rfl
    | cons d l ih => rw [List.foldl_cons, List.foldl_cons, judgeDistrictSchedule_withRex, ih]
  refine ite_commutes (answerWithRex x) (fun _ => ?_) fun _ => rfl
  refine congrArg (Prod.mk Result.done) ?_
  rw [takeMinute, takeMinute, ← runOccasions_withRex, ← hfold]
  rfl

theorem exec_setClock {s t : State} {tag : Byte} {day minute : Nat} {result : Result} (hr : Ready s)
    (h : setClock day minute s = (result, t)) : exec (.setClock tag day minute) s = .next (withResponse t tag 0x24 result []) :=
  exec_shared (q := .setClock day minute) rfl hr rfl rfl (fun _ => rfl) (fun x t => setClock_withRex x day minute t) h

/-- Settles O33: the minute out of range, the clock set, and the clock raised. -/
theorem clockJudgesEverySchedule : Obligations.ClockJudgesEverySchedule := by
  unfold Obligations.ClockJudgesEverySchedule
  intro s tag day minute
  refine ⟨fun hr hlate => exec_setClock hr (if_neg (by omega)), fun hr hle => ?_, fun hrun => ?_⟩
  · let c := s.modYard fun y => { y with day := day, minute := minute }
    obtain ⟨t, ht⟩ : ∃ t, takeMinute c = t := ⟨_, rfl⟩
    obtain ⟨hbeside, hfollowed⟩ := takeMinute_followed ht
    obtain ⟨hyard, hbalance, hholders, -, hbke, hrst, hrex⟩ := hbeside.kept
    refine ⟨withResponse t tag 0x24 .done [], exec_setClock hr ((if_pos hle).trans (congrArg (Prod.mk Result.done) ht)), hyard,
      fun d => (hfollowed d).2, fun d => (hfollowed d).1, ?_, hholders, hrst, hbke,
      hbalance⟩
    simp only [withResponse]
    rw [hrex]
    rfl
  · let c := s.modYard Yard.tickMinute
    obtain ⟨t, ht⟩ : ∃ t, takeMinute c = t := ⟨_, rfl⟩
    obtain ⟨hbeside, hfollowed⟩ := takeMinute_followed ht
    obtain ⟨hyard, hbalance, hholders, -, hbke, hrst, hrex⟩ := hbeside.kept
    refine ⟨t, (whenRunning_of_running (s := c) takeMinute hrun).trans (congrArg Host.Outcome.next ht),
      hyard.trans ?_, fun d => ?_, fun d => (hfollowed d).1, hrex,
      hholders, hrst, hbke, hbalance⟩
    · show s.yard.tickMinute = _
      unfold Yard.tickMinute
      split <;> rfl
    · rw [hyard]
      exact (hfollowed d).2

end Sys2Proof.Schedules

/-! PROOFS. HOC's own work (02, 03) leaves everything but the holders' records, the line and the messages in transit: each piece of it
once, in the order of the model (O9, O55). -/

namespace Sys2Proof.HocWork

open Sys2Proof.Machine Sys2Proof.Safety Sys2Proof.HolderWork

/-- From `s` to `t` only the holders, the line and the messages in transit have changed. -/
def HolderSide (s t : State) : Prop := t = { s with holders := t.holders, line := t.line, inTransit := t.inTransit }

theorem HolderSide.refl (s : State) : HolderSide s s := rfl

theorem HolderSide.trans {s t u : State} (h : HolderSide s t) (k : HolderSide t u) : HolderSide s u := by
  unfold HolderSide at h k ⊢
  rw [k, h]

theorem HolderSide.kept {s t : State} (h : HolderSide s t) : t.yard = s.yard ∧ t.balance = s.balance ∧ t.districts = s.districts
    ∧ t.views = s.views ∧ t.bke = s.bke ∧ t.rst = s.rst ∧ t.rex = s.rex := by
  unfold HolderSide at h
  rw [h]
  exact ⟨rfl, rfl, rfl, rfl, rfl, rfl, rfl⟩

/-- What each of a list's pieces of work leaves alone, all of them leave alone. -/
theorem HolderSide.foldl {α : Type} {f : State → α → State} (hf : ∀ s a, HolderSide s (f s a)) (l : List α) (s : State) :
    HolderSide s (l.foldl f s) := by
  induction l generalizing s with
  | nil => exact .refl s
  | cons a l ih => exact (hf s a).trans (ih _)

section
variable {s : State} {d : Draft} (hd : HolderSide s d.s) (h : HolderId)

include hd

theorem HolderSide.mod (f : Holder → Holder) : HolderSide s (d.mod h f).s := hd.trans rfl

theorem HolderSide.drive (v : Option Drive) : HolderSide s (d.drive h v).s := hd.trans rfl

omit h in
theorem HolderSide.tell (p : Part) : HolderSide s (d.tell p).s := hd

theorem HolderSide.giveEach : HolderSide s (d.giveEach h) :=
  hd.trans (HolderSide.foldl (f := fun t p => t.send (partMessage (plainNotice t h) p)) (fun _ _ => rfl) d.parts d.s)

theorem HolderSide.giveReply : HolderSide s (d.giveReply h) := by
  unfold Draft.giveReply
  split
  · exact hd
  · exact hd.trans rfl

/-! ### Change-overs and the ends of orders -/

theorem HolderSide.startMove : HolderSide s (startMove h d).s := by
  unfold Machine.startMove
  repeat' split
  · exact hd
  · exact hd
  · exact hd
  all_goals exact hd.trans rfl

theorem HolderSide.reachTarget (t : Target) : HolderSide s (reachTarget h t d).s := by
  unfold Machine.reachTarget
  dsimp only
  split <;> exact hd.trans rfl

theorem HolderSide.build (t : Target) : HolderSide s (build h t d).s := by
  unfold Machine.build
  dsimp only
  split
  · exact hd.reachTarget h t
  · refine HolderSide.startMove ?_ h
    split <;> exact hd.trans rfl

theorem HolderSide.endAction (o : Order) : HolderSide s (endAction h o d).s := by
  unfold Machine.endAction
  repeat' split
  · exact hd.trans rfl
  · exact hd.build h _
  · exact hd
  · exact hd.build h _
  · exact hd
  · exact hd

end

/-- HOC turns to the ACTIVE order: induction on the orders that can end at one event (03 R43, R49, R51). -/
theorem HolderSide.settle {s : State} {d : Draft} (hd : HolderSide s d.s) (h : HolderId) (n : Nat) : HolderSide s (settle n h d).s := by
  induction n generalizing d with
  | zero => exact hd
  | succ n ih =>
    unfold Machine.settle
    dsimp only
    split
    · exact hd
    · rename_i o _
      have hact : HolderSide s (if (d.holder h).activationWaits then d.mod h (·.activate o) else d).s := by
        split
        · exact hd.trans rfl
        · exact hd
      generalize (if (d.holder h).activationWaits then d.mod h (·.activate o) else d) = e at hact ⊢
      repeat' split
      · exact ih (hact.mod h _)
      · exact hact.build h _
      · exact hact.mod h _
      · exact ih (hact.mod h _)
      · exact hact

section
variable {s : State} {d : Draft} (hd : HolderSide s d.s) (h : HolderId)

include hd

theorem HolderSide.completeOrder (o : Order) : HolderSide s (completeOrder h o d).s := by
  have hp := hd.mod h fun r => r.latchDone.promote
  unfold Machine.completeOrder
  dsimp only
  split
  · exact hp.settle h _
  · exact hp.endAction h o

theorem HolderSide.limitEnd (t : Target) (idle : Holder → Holder) : HolderSide s (limitEnd h t idle d).s :=
  (hd.mod h _).build h t

theorem HolderSide.endMove : HolderSide s (endMove h d).s := by
  unfold Machine.endMove
  dsimp only
  repeat' split
  · exact hd
  · exact ((hd.drive h none).mod h _).startMove h
  · exact ((hd.drive h none).reachTarget h _).settle h _

/-! ### Faults and crown replies -/

theorem HolderSide.enterFaulted (reason : FaultReason) : HolderSide s (enterFaulted h reason d).s := hd.trans rfl

theorem HolderSide.judgeMove : HolderSide s (judgeMove h d).s := by
  unfold Machine.judgeMove
  repeat' split
  · exact hd.endMove h
  · exact hd
  · exact hd

theorem HolderSide.track : HolderSide s (track h d).s := by
  unfold Machine.track
  dsimp only
  repeat' split
  · exact hd
  · exact HolderSide.completeOrder ((hd.mod h _).mod h _) h _
  · exact hd.trans rfl
  · exact hd

theorem HolderSide.judgeLimits (c : CrownReading) : HolderSide s (judgeLimits h c d).s := by
  unfold Machine.judgeLimits
  dsimp only
  repeat' split
  all_goals first | exact hd | exact hd.limitEnd h _ _

theorem HolderSide.recover : HolderSide s (recover h d).s := by
  have hr := hd.mod h fun r => { r with latches := { r.latches with recovered := true } }
  unfold Machine.recover
  dsimp only
  generalize (d.mod h fun r => { r with latches := { r.latches with recovered := true } }) = e at hr ⊢
  repeat' split
  all_goals first | exact hr.enterFaulted h _ | exact hr.trans rfl

theorem HolderSide.limitsWork (c : CrownReading) (before : Holder) : HolderSide s (CrownReplies.limitsWork h c before d).s := by
  have hfault : HolderSide s (if uncommanded (d.holder h) = true then Machine.enterFaulted h .uncommanded d else d).s := by
    split
    · exact hd.enterFaulted h _
    · exact hd
  unfold CrownReplies.limitsWork
  dsimp only
  generalize (if uncommanded (d.holder h) = true then Machine.enterFaulted h .uncommanded d else d) = e at hfault ⊢
  split
  · exact hfault
  · refine HolderSide.judgeLimits ?_ h c
    split
    · exact hfault.track h
    · exact hfault

end

section
variable (s : State) (h : HolderId)

theorem holderSide_replyWork (c : CrownReading) : HolderSide s (replyWork h c s).s := by
  have hread (ps : List Part) :
      HolderSide s (⟨s.setHolder h (takeReading c s.yard.barometer (s.holder h)), ps⟩ : Draft).s := rfl
  by_cases hrec : (s.holder h).state = .recovering
  · rw [CrownReplies.replyWork_of_recovering hrec rfl]
    exact (hread _).recover h
  · rw [CrownReplies.replyWork_of_later hrec rfl]
    exact ((hread _).judgeMove h).limitsWork h c _

/-! ### Notices, silences and timers -/

theorem holderSide_crownReply (c : CrownReading) : HolderSide s (crownReply h c s) := by
  unfold crownReply
  split
  · exact (holderSide_replyWork s h c).giveReply h
  · exact .refl s

theorem holderSide_crownSilent : HolderSide s (crownSilent h s) := by
  unfold crownSilent
  dsimp only
  split
  · refine HolderSide.giveEach ?_ h
    split <;> rfl
  · exact .refl s

theorem holderSide_moveTimerExpires : HolderSide s (moveTimerExpires h s) := by
  unfold moveTimerExpires
  split
  · exact (HolderSide.enterFaulted (d := s.draft) (.refl s) h _).giveEach h
  · exact .refl s

theorem holderSide_moveTaken (m : Move) : HolderSide s (moveTaken h m s) := by
  unfold moveTaken
  split
  · exact (HolderSide.endMove (d := s.draft) (.refl s) h).giveEach h
  · exact .refl s

theorem holderSide_startAllWaiting : HolderSide s (startAllWaiting s) :=
  HolderSide.foldl (fun t k => (HolderSide.startMove (d := t.draft) (.refl t) k).giveEach k) holderIds s

/-! ### Orders -/

theorem holderSide_place (o : Order) : HolderSide s (place h o s).2 := by
  unfold place
  dsimp only
  split
  · refine HolderSide.giveEach ?_ h
    split
    · rfl
    · exact HolderSide.settle (d := s.draft.mod h fun r => (r.noteOrder o).becomeActive o) rfl h _
  · refine HolderSide.giveEach ?_ h
    split
    · exact HolderSide.settle (d := s.draft.mod h fun r => { r.noteOrder o with next := some o }) rfl h _
    · rfl
  · exact .refl s

theorem holderSide_tryOrder (o : Order) : HolderSide s (tryOrder h o s).2 := by
  unfold tryOrder
  split
  · exact .refl s
  · exact holderSide_place s h o

end

theorem holderSide_onFitted (n : Nat) (s : State) {f : HolderId → Result × State} (hf : ∀ h, HolderSide s (f h).2) :
    HolderSide s (onFitted n s f).2 := by
  unfold onFitted
  repeat' split
  · exact .refl s
  · exact hf _
  · exact .refl s

section
variable (s : State) (n : Nat)

theorem holderSide_order (kind : OrderKind) (district quantity : Option Nat) (e : Option EndAction) :
    HolderSide s (order n kind district quantity e s).2 := by
  refine holderSide_onFitted n s fun h => ?_
  repeat' split
  · exact .refl s
  · exact .refl s
  · exact holderSide_tryOrder s h _

theorem holderSide_repeatLast : HolderSide s (repeatLast n s).2 := by
  refine holderSide_onFitted n s fun h => ?_
  repeat' split
  · exact .refl s
  · exact .refl s
  · exact holderSide_tryOrder s h _

theorem holderSide_automaticDraw (h : HolderId) (d : DistrictId) : HolderSide s (automaticDraw h d s) := by
  refine HolderSide.trans (t := (onFitted h s _).2) (holderSide_onFitted h s fun h => ?_) rfl
  repeat' split
  · exact .refl s
  · exact .refl s
  · exact holderSide_tryOrder s h _

theorem holderSide_stopHolder : HolderSide s (stopHolder n s).2 := holderSide_onFitted n s fun _ => rfl

theorem holderSide_isolateWork (h : HolderId) : HolderSide s (isolateWork h s).s := by
  rw [isolateWork_eq]
  dsimp only
  split
  · exact HolderSide.reachTarget rfl h _
  · exact HolderSide.startMove rfl h

theorem holderSide_isolateHolder : HolderSide s (isolateHolder n s).2 := by
  refine holderSide_onFitted n s fun h => ?_
  dsimp only
  repeat' split
  · exact .refl s
  · exact .refl s
  · exact (holderSide_isolateWork s h).giveEach h

theorem holderSide_returnToService : HolderSide s (returnToService n s).2 := by
  refine holderSide_onFitted n s fun h => ?_
  split
  · exact .refl s
  · exact HolderSide.giveEach rfl h

end

theorem HolderSide.relinkCrown {s : State} {d : Draft} (hd : HolderSide s d.s) (h : HolderId) (address : Option Nat) :
    HolderSide s (relinkCrown h address d).s := by
  unfold Machine.relinkCrown
  dsimp only
  split
  · exact hd
  · have hline : HolderSide s ({ d with s := d.s.modLine fun l => l.relink .crown (.holder h) address } : Draft).s := hd.trans rfl
    revert hline
    generalize ({ d with s := d.s.modLine fun l => l.relink .crown (.holder h) address } : Draft) = e
    intro he
    repeat' split
    all_goals exact he.trans rfl

theorem holderSide_setHolder (n : Nat) (f : HolderSettings) (s : State) : HolderSide s (Machine.setHolder n f s).2 := by
  unfold Machine.setHolder
  dsimp only
  repeat' split
  · exact .refl s
  · exact .refl s
  · exact .refl s
  · exact .refl s
  · exact HolderSide.giveEach
      (((HolderSide.relinkCrown (s := s) (d := s.draft.mod _ (·.configure f)) rfl _ _).mod _ _).tell .values) _
  · exact HolderSide.giveEach (HolderSide.relinkCrown (s := s) (d := s.draft.mod _ (·.configure f)) rfl _ _) _

end Sys2Proof.HocWork

/-! PROOFS. The notices of HOC (04 R75 to R78, R81, R82; O55): what one does to a district's lists, its available pressure, its state and
its latches, and the change-over that goes on behind a join or leave (03 R48). -/

namespace Sys2Proof.Notices

open Sys2Proof.Machine Sys2Proof.Safety Sys2Proof.HolderOrders Sys2Proof.DistrictWork Sys2Proof.HocWork

/-! ### One district -/

/-- The available pressure that a feed list gives (04 R77). -/
def pressureOf (view : HolderId → View) (feeds : List HolderId) : Nat :=
  ((feeds.filter fun h => (view h).answering).map fun h => (view h).pressure).foldl max 0

/-- A district's record with new lists, and its available pressure worked again where they hold the holder (04 R76, R77, R81). -/
def listed (view : HolderId → View) (h : HolderId) (after : Lists) (ended : Bool) (r : District) : District :=
  { r with
    feeds := after.feeds
    pendingJoins := after.pending
    joinInHand := if ended then none else r.joinInHand
    available := if touched r.lists after h then pressureOf view after.feeds else r.available }

/-- A district's record once a notice has been taken: judged where its lists held the holder, or where its join in hand ended (04 R78,
R81). -/
def noticed (view : HolderId → View) (h : HolderId) (after : Lists) (ended : Bool) (r : District) : District :=
  let u := listed view h after ended r
  if touched r.lists after h || ended then
    entering (if r.state.inService = true then stateOfFeeds view after.feeds r.required u.available else r.state) u
  else u

section
variable {m : Instr} {n : HolderNotice} {ends : DistrictId → Bool}

theorem takeLists_at (s : State) (d : DistrictId) : (takeLists m n ends s d).district d
    = listed s.view n.holder ((s.district d).lists.after d m)
      (decide ((s.district d).joinInHand = some n.holder) && (ends d || n.remove)) (s.district d) := by
  unfold takeLists listed
  dsimp only
  split
  · rw [recomputeAvailable, State.district_modDistrict_self, State.district_modDistrict_self]
    rfl
  · rw [State.district_modDistrict_self]

theorem beside_takeLists (s : State) (d : DistrictId) : Beside s (takeLists m n ends s d) := by
  unfold takeLists
  dsimp only
  split <;> rfl

theorem line_takeLists (s : State) (d : DistrictId) : (takeLists m n ends s d).line = s.line := by
  unfold takeLists
  dsimp only
  split <;> rfl

theorem sameAt_takeLists (s : State) (d e : DistrictId) (he : e ≠ d) : SameAt e s (takeLists m n ends s d) := by
  unfold takeLists
  dsimp only
  split
  · exact (sameAt_modDistrict s _ he).trans (sameAt_modDistrict _ _ he)
  · exact sameAt_modDistrict s _ he

/-- The end of a join in hand shows in the two records (04 R81). -/
def joinEnded (before after : District) : Bool := before.joinInHand.isSome && after.joinInHand.isNone

theorem joinEnded_listed (view : HolderId → View) (h : HolderId) (after : Lists) (ends : Bool) (r : District) :
    joinEnded r (listed view h after (decide (r.joinInHand = some h) && ends) r) = (decide (r.joinInHand = some h) && ends) := by
  unfold joinEnded listed
  dsimp only
  by_cases hj : r.joinInHand = some h
  · cases ends <;> simp [hj]
  · cases hr : r.joinInHand <;> simp_all

theorem evaluateAfter_eq (before : State) (n : HolderNotice) (s : State) (d : DistrictId) : evaluateAfter before n s d
    = let ended := joinEnded (before.district d) (s.district d)
      let u := if touched (before.district d).lists (s.district d).lists n.holder || ended then evaluate d s else s
      if ended then occasion d u else u := rfl

theorem beside_evaluateAfter (before : State) (n : HolderNotice) (s : State) (d : DistrictId) : Beside s (evaluateAfter before n s d) := by
  rw [evaluateAfter_eq]
  dsimp only
  have hocc (u : State) : Beside u (occasion d u) := rfl
  repeat' split
  · exact (beside_evaluate d s).trans (hocc _)
  · exact hocc s
  · exact beside_evaluate d s
  · exact .refl s

theorem line_evaluateAfter (before : State) (n : HolderNotice) (s : State) (d : DistrictId) :
    (evaluateAfter before n s d).line = s.line := by
  have hevaluate : (evaluate d s).line = s.line := by
    rw [evaluate_eq]
    rfl
  rw [evaluateAfter_eq]
  dsimp only
  repeat' split
  all_goals first | exact hevaluate | rfl

theorem sameAt_evaluateAfter (before : State) (n : HolderNotice) (s : State) (d e : DistrictId) (he : e ≠ d) :
    SameAt e s (evaluateAfter before n s d) := by
  have hocc (u : State) : SameAt e u (occasion d u) := ⟨rfl, rfl⟩
  rw [evaluateAfter_eq]
  dsimp only
  repeat' split
  · exact (sameAt_evaluate s he).trans (hocc _)
  · exact hocc s
  · exact sameAt_evaluate s he
  · exact .refl e s

/-- The district's own evaluation behind its lists (04 R76, R78, R81). -/
theorem evaluateAfter_at {before s : State} {d : DistrictId} {after : Lists} {ends : Bool} (hrec : s.district d
      = listed s.view n.holder after (decide ((before.district d).joinInHand = some n.holder) && ends) (before.district d)) :
    (evaluateAfter before n s d).district d
      = noticed s.view n.holder after (decide ((before.district d).joinInHand = some n.holder) && ends) (before.district d) := by
  have hended : joinEnded (before.district d) (s.district d) = (decide ((before.district d).joinInHand = some n.holder) && ends) := by
    rw [hrec]
    exact joinEnded_listed ..
  have hlists : (s.district d).lists = after := by
    rw [hrec]
    rfl
  have hevaluate : (evaluate d s).district d = entering (evaluated s (s.district d)) (s.district d) := by
    rw [evaluate_eq]
    exact State.district_modDistrict_self ..
  have hocc (p : Bool) (u : State) : (if p then occasion d u else u).district d = u.district d := by
    split <;> rfl
  rw [evaluateAfter_eq]
  dsimp only
  rw [hended, hlists, hocc, noticed]
  split
  · rw [hevaluate, hrec]
    rfl
  · exact hrec

end

/-! ### Every district -/

theorem line_foldl {α : Type} {f : State → α → State} (hf : ∀ s a, (f s a).line = s.line) (l : List α) (s : State) :
    (l.foldl f s).line = s.line := by
  induction l generalizing s with
  | nil => rfl
  | cons a l ih => exact (ih (f s a)).trans (hf s a)

section
variable {m : Instr} {n : HolderNotice} {ends : DistrictId → Bool} (s : State) (e : DistrictId)

theorem takeLists_all : (districtIds.foldl (takeLists m n ends) s).district e = listed s.view n.holder ((s.district e).lists.after e m)
    (decide ((s.district e).joinInHand = some n.holder) && (ends e || n.remove)) (s.district e) := by
  obtain ⟨u, hbeside, hbefore, hafter⟩ := foldl_at (beside_takeLists (m := m) (n := n) (ends := ends)) sameAt_takeLists s e
  rw [hafter.district, takeLists_at, hbeside.view, hbefore.district]

theorem evaluateAfter_all {before : State} {after : Lists} {p : Bool} (hrec : s.district e
      = listed s.view n.holder after (decide ((before.district e).joinInHand = some n.holder) && p) (before.district e)) :
    (districtIds.foldl (evaluateAfter before n) s).district e
      = noticed s.view n.holder after (decide ((before.district e).joinInHand = some n.holder) && p) (before.district e) := by
  obtain ⟨u, hbeside, hbefore, hafter⟩ := foldl_at (beside_evaluateAfter before n) (sameAt_evaluateAfter before n) s e
  rw [hafter.district, evaluateAfter_at (by rw [hbefore.district, hbeside.view]; exact hrec), hbeside.view]

end

theorem standingOccasions_if (p : Bool) (h : HolderId) (s : State) :
    ∃ os, (if p then standingOccasions h s else s) = { s with occasions := os } := by
  split
  · exact ⟨_, AutoJoins.standingOccasions_eq h s⟩
  · exact ⟨s.occasions, rfl⟩

/-- What a notice comes to: the view of its holder, each district as noticed, and then the occasions (04 R75 to R78, R81, R82). -/
theorem takeNotice_spec {m : Instr} {n : HolderNotice} {ends : DistrictId → Bool} {standing : Bool} {s t : State}
    (hr : n.remove = false) (h : takeNotice m n ends standing s = t) :
    Beside (s.setView n.holder ⟨n.answering, n.stagePressure⟩) t ∧ t.line = s.line
      ∧ ∀ e, ∃ b, t.district e = withFailed b (noticed t.view n.holder ((s.district e).lists.after e m)
        (decide ((s.district e).joinInHand = some n.holder) && ends e) (s.district e)) := by
  let v := takeView n s
  let lists := districtIds.foldl (takeLists m n ends) v
  let judged := districtIds.foldl (evaluateAfter s n) lists
  obtain ⟨os, hos⟩ := standingOccasions_if (standing || n.standing) n.holder judged
  have htried : Tried { judged with occasions := os } t := by
    rw [← h, takeNotice, ← hos]
    exact tried_runOccasions _
  have hlists : Beside v lists := Beside.foldl beside_takeLists districtIds v
  have hjudged : Beside lists judged := Beside.foldl (beside_evaluateAfter s n) districtIds lists
  have hoccasions : Beside judged { judged with occasions := os } := rfl
  have hall : Beside v t := ((hlists.trans hjudged).trans hoccasions).trans htried.beside
  refine ⟨hall, ?_, fun e => ?_⟩
  · have hline : judged.line = s.line :=
      (line_foldl (line_evaluateAfter s n) districtIds lists).trans (line_foldl line_takeLists districtIds v)
    rw [htried.others]
    exact hline
  · obtain ⟨b, hb⟩ := htried.districts e
    have hrec : lists.district e = listed lists.view n.holder ((s.district e).lists.after e m)
        (decide ((s.district e).joinInHand = some n.holder) && ends e) (s.district e) := by
      rw [hlists.view]
      refine (takeLists_all v e).trans ?_
      rw [hr, Bool.or_false]
      rfl
    refine ⟨b, hb.trans (congrArg (withFailed b) ?_)⟩
    rw [hall.view, ← hlists.view]
    exact evaluateAfter_all lists e hrec

/-- A noticed district is a listed one that takes a state (04 R78). -/
theorem noticed_eq (view : HolderId → View) (h : HolderId) (after : Lists) (ended : Bool) (r : District) :
    noticed view h after ended r = entering
      (if r.state.inService = true ∧ (touched r.lists after h || ended) = true then
        stateOfFeeds view after.feeds r.required (listed view h after ended r).available else r.state)
      (listed view h after ended r) := by
  unfold noticed
  cases htouched : touched r.lists after h || ended with
  | true => simp
  | false =>
    simp only [Bool.false_eq_true, and_false, if_false]
    exact (entering_same (listed view h after ended r)).symm

theorem touched_iff (before after : Lists) (h : HolderId) : touched before after h = true ↔ h ∈ before.feeds ∨ h ∈ after.feeds := by
  simp [touched]

/-! ### What each notice does to the lists -/

/-- A notice of HOC with nothing riding on it is taken: its own lists, and behind a join or leave the change-over that goes on (04 R76,
R81, 03 R48). -/
structure Taken (s : State) (m : Instr) (n : HolderNotice) (ends : DistrictId → Bool) (lists : DistrictId → Lists) (t : State) :
    Prop where
  exec : exec m s = .next t
  work : ∃ standing u, takesNotice m n ends standing s = u ∧ HolderSide u t
    ∧ ((∀ e, m ≠ .joinNotice n e) → m ≠ .leaveNotice n → t = u)
  after : ∀ e, (s.district e).lists.after e m = lists e

section
variable {s : State} {n : HolderNotice} {m : Instr} {ends : DistrictId → Bool} {lists : DistrictId → Lists}

theorem taken_of_plain {standing : Bool} (hexec : exec m s = .next (takesNotice m n ends standing s))
    (hafter : ∀ e, (s.district e).lists.after e m = lists e) : ∃ t, Taken s m n ends lists t :=
  ⟨_, hexec, ⟨standing, _, rfl, .refl _, fun _ _ => rfl⟩, hafter⟩

theorem taken_of_move {move : Move} (hm : (∃ e, m = .joinNotice n e) ∨ m = .leaveNotice n)
    (hexec : exec m s = .next (moveTaken n.holder move (takesNotice m n ends false s)))
    (hafter : ∀ e, (s.district e).lists.after e m = lists e) : ∃ t, Taken s m n ends lists t := by
  refine ⟨_, hexec, ⟨false, _, rfl, holderSide_moveTaken _ _ move, fun hjoin hleave => ?_⟩, hafter⟩
  rcases hm with ⟨e, hm⟩ | hm
  · exact absurd hm (hjoin e)
  · exact absurd hm hleave

end

section
variable {n : HolderNotice} (hp : n.pend = none) (hr : n.remove = false) (d e : DistrictId) (l : Lists)

include hp hr

/-- Nothing rides on the notice (04 R76). -/
theorem take_of_plain (own : Lists → Lists) : l.take e n own = own l := by
  simp [Lists.take, hp, hr]

theorem after_joinPending : l.after e (.joinPendingNotice n d) = if e = d then l.pend n.holder else l := by
  simp only [Lists.after, take_of_plain hp hr, eq_comm]

theorem after_join : l.after e (.joinNotice n d) = if e = d then l.join n.holder else l := by
  simp only [Lists.after, take_of_plain hp hr, eq_comm]

theorem after_withdrawPending : l.after e (.withdrawPendingNotice n d) = if e = d then l.withdraw n.holder else l := by
  simp only [Lists.after, take_of_plain hp hr, eq_comm]

theorem after_leave : l.after e (.leaveNotice n) = l.leave n.holder :=
  take_of_plain hp hr e l fun l => l.leave n.holder

theorem after_remove : l.after e (.removeNotice n) = l.remove n.holder :=
  take_of_plain hp hr e l fun l => l.remove n.holder

theorem after_values : l.after e (.holderValuesNotice n) = l := take_of_plain hp hr e l id

theorem after_standing : l.after e (.standingNotice n) = l := take_of_plain hp hr e l id

end

section
variable {s : State} {n : HolderNotice} (hrun : s.running = true)

include hrun

theorem exec_joinNotice (d : DistrictId) : exec (.joinNotice n d) s = .next (moveTaken n.holder (.join d)
    (takesNotice (.joinNotice n d) n (fun e => decide (e = d)) false s)) :=
  whenRunning_of_running (fun s => moveTaken n.holder (.join d)
    (takesNotice (.joinNotice n d) n (fun e => decide (e = d)) false s)) hrun

theorem exec_leaveNotice : exec (.leaveNotice n) s = .next (moveTaken n.holder .leave
    (takesNotice (.leaveNotice n) n (fun _ => false) false s)) :=
  whenRunning_of_running (fun s => moveTaken n.holder .leave (takesNotice (.leaveNotice n) n (fun _ => false) false s)) hrun

end

section
variable {s : State} {n : HolderNotice} {feeds pending : DistrictId → List HolderId} {ends : DistrictId → Bool} (d : DistrictId)
  (hrun : s.running = true) (hp : n.pend = none) (hr : n.remove = false)

include hrun hp hr

omit d in
theorem taken_values (hl : ∀ e, feeds e = (s.district e).feeds ∧ pending e = (s.district e).pendingJoins ∧ ends e = false) :
    ∃ t, Taken s (.holderValuesNotice n) n ends (fun e => ⟨feeds e, pending e⟩) t := by
  obtain rfl : ends = fun _ => false := funext fun e => (hl e).2.2
  refine taken_of_plain (whenRunning_of_running (takesNotice _ n _ false) hrun) fun e => ?_
  obtain ⟨hf, hj, -⟩ := hl e
  rw [after_values hp hr, hf, hj]
  rfl

omit d in
theorem taken_standing (hl : ∀ e, feeds e = (s.district e).feeds ∧ pending e = (s.district e).pendingJoins ∧ ends e = false) :
    ∃ t, Taken s (.standingNotice n) n ends (fun e => ⟨feeds e, pending e⟩) t := by
  obtain rfl : ends = fun _ => false := funext fun e => (hl e).2.2
  refine taken_of_plain (whenRunning_of_running (takesNotice _ n _ true) hrun) fun e => ?_
  obtain ⟨hf, hj, -⟩ := hl e
  rw [after_standing hp hr, hf, hj]
  rfl

theorem taken_joinPending (hl : ∀ e, feeds e = (s.district e).feeds ∧ ends e = false
      ∧ pending e = if e = d then addNew (s.district e).pendingJoins n.holder else (s.district e).pendingJoins) :
    ∃ t, Taken s (.joinPendingNotice n d) n ends (fun e => ⟨feeds e, pending e⟩) t := by
  obtain rfl : ends = fun _ => false := funext fun e => (hl e).2.1
  refine taken_of_plain (whenRunning_of_running (takesNotice _ n _ false) hrun) fun e => ?_
  obtain ⟨hf, -, hj⟩ := hl e
  rw [after_joinPending hp hr, hf, hj]
  split <;> rfl

theorem taken_join (hl : ∀ e, ends e = decide (e = d)
      ∧ (feeds e = if e = d then addNew (s.district e).feeds n.holder else (s.district e).feeds)
      ∧ pending e = if e = d then (s.district e).pendingJoins.filter (· ≠ n.holder) else (s.district e).pendingJoins) :
    ∃ t, Taken s (.joinNotice n d) n ends (fun e => ⟨feeds e, pending e⟩) t := by
  obtain rfl : ends = fun e => decide (e = d) := funext fun e => (hl e).1
  refine taken_of_move (.inl ⟨d, rfl⟩) (exec_joinNotice hrun d) fun e => ?_
  obtain ⟨-, hf, hj⟩ := hl e
  rw [after_join hp hr, hf, hj]
  split <;> rfl

omit d in
theorem taken_leave (hl : ∀ e, feeds e = (s.district e).feeds.filter (· ≠ n.holder)
      ∧ pending e = (s.district e).pendingJoins ∧ ends e = false) :
    ∃ t, Taken s (.leaveNotice n) n ends (fun e => ⟨feeds e, pending e⟩) t := by
  obtain rfl : ends = fun _ => false := funext fun e => (hl e).2.2
  refine taken_of_move (.inr rfl) (exec_leaveNotice hrun) fun e => ?_
  obtain ⟨hf, hj, -⟩ := hl e
  rw [after_leave hp hr, hf, hj]
  rfl

theorem taken_withdrawPending (hl : ∀ e, feeds e = (s.district e).feeds ∧ ends e = decide (e = d)
      ∧ pending e = if e = d then (s.district e).pendingJoins.filter (· ≠ n.holder) else (s.district e).pendingJoins) :
    ∃ t, Taken s (.withdrawPendingNotice n d) n ends (fun e => ⟨feeds e, pending e⟩) t := by
  obtain rfl : ends = fun e => decide (e = d) := funext fun e => (hl e).2.1
  refine taken_of_plain (whenRunning_of_running (takesNotice _ n _ false) hrun) fun e => ?_
  obtain ⟨hf, -, hj⟩ := hl e
  rw [after_withdrawPending hp hr, hf, hj]
  split <;> rfl

omit d in
theorem taken_remove (hl : ∀ e, feeds e = (s.district e).feeds.filter (· ≠ n.holder)
      ∧ pending e = (s.district e).pendingJoins.filter (· ≠ n.holder) ∧ ends e = true) :
    ∃ t, Taken s (.removeNotice n) n ends (fun e => ⟨feeds e, pending e⟩) t := by
  obtain rfl : ends = fun _ => true := funext fun e => (hl e).2.2
  refine taken_of_plain (whenRunning_of_running (takesNotice _ n _ false) hrun) fun e => ?_
  obtain ⟨hf, hj, -⟩ := hl e
  rw [after_remove hp hr, hf, hj]
  rfl

end

/-! ### The change-over goes on -/

section
variable {u : State} {h : HolderId} {d : DistrictId} {tm : Option Nat}

/-- The join that a DRAW awaited ends its change-over (03 R46, R48, R49). -/
theorem moveTaken_join (hc : (u.holder h).changeOver = some ⟨.drawing d, [.openOutlet, .join d], 1, true, tm⟩)
    (ha : (u.holder h).active = none) : moveTaken h (.join d) u
      = (u.setHolder h { u.holder h with changeOver := none, state := .drawing }).setDrive h none := by
  have hcurrent : (u.holder h).changeOver.bind (·.current) = some (.join d) := by rw [hc]; rfl
  rw [moveTaken, if_pos hcurrent]
  simp [endMove, State.draft, hc, reachTarget, Target.state, CrownReplies.settle_of_idle, ha]

/-- The leave that a STAND awaited is followed by the closing of the outlet (03 R46, R48). -/
theorem moveTaken_leave (hc : (u.holder h).changeOver = some ⟨.standing, [.leave, .closeOutlet], 0, true, tm⟩)
    (hw : u.yard.mode = .working) : moveTaken h .leave u = (u.setHolder h { u.holder h with
      outletIntent := .closed
      changeOver := some ⟨.standing, [.leave, .closeOutlet], 1, true, some (u.holder h).travel⟩ }).setDrive h
        (some .outletClosed) := by
  have hcurrent : (u.holder h).changeOver.bind (·.current) = some .leave := by rw [hc]; rfl
  rw [moveTaken, if_pos hcurrent]
  simp [endMove, State.draft, hc, startMove, hw, Move.valve, Holder.setIntent, driveOf]

end

theorem holder_of_takesNotice {m : Instr} {n : HolderNotice} {ends : DistrictId → Bool} {standing : Bool} {s u : State}
    (hu : takesNotice m n ends standing s = u) (h : HolderId) : u.holder h = s.holder h := by
  rw [← hu, State.holder, HoldersKept.holders_takesNotice]
  rfl

/-- Settles O55: the districts a notice names, and the change-over that goes on behind a join and behind a leave. -/
theorem noticesChangeTheFeedLists : Obligations.NoticesChangeTheFeedLists := by
  unfold Obligations.NoticesChangeTheFeedLists
  intro s n d hrun hp hr hstand
  refine ⟨fun m feeds pending ends hm => ?_, fun tm hc ha => ?_, fun tm hc hw => ?_⟩
  · obtain ⟨t, ht⟩ : ∃ t, Taken s m n ends (fun e => ⟨feeds e, pending e⟩) t := by
      rcases hm with ⟨rfl, hl⟩ | ⟨rfl, hl⟩ | ⟨rfl, hl⟩ | ⟨rfl, hl⟩ | ⟨rfl, hl⟩ | ⟨rfl, hl⟩ | ⟨rfl, hl⟩
      · exact taken_values hrun hp hr hl
      · exact taken_standing hrun hp hr hl
      · exact taken_joinPending d hrun hp hr hl
      · exact taken_join d hrun hp hr hl
      · exact taken_leave hrun hp hr hl
      · exact taken_withdrawPending d hrun hp hr hl
      · exact taken_remove hrun hp hr hl
    obtain ⟨standing, u, hu, hside, halone⟩ := ht.work
    obtain ⟨hbeside, hline, hnoticed⟩ := takeNotice_spec (s := s.taken m) hr hu
    obtain ⟨hyard, hbalance, hdistricts, hviews, hbke, hrst, hrex⟩ := hside.kept
    obtain ⟨hyard', hbalance', hholders', hviews', hbke', hrst', hrex'⟩ := hbeside.kept
    have hview (h : HolderId) : t.view h = (s.setView n.holder ⟨n.answering, n.stagePressure⟩).view h := by
      simp only [State.view, hviews, hviews']
      rfl
    refine ⟨t, ht.exec, (hview _).trans (State.view_setView_self ..), fun h hh => (hview h).trans (State.view_setView_ne s _ hh),
      fun e => ?_, hyard.trans hyard', hbalance.trans hbalance', hbke.trans hbke', hrst.trans hrst', hrex.trans hrex',
      fun hjoin hleave => ?_⟩
    · have hsame : (s.taken m).district e = s.district e := rfl
      have hviewed : u.view = t.view := funext fun h => by simp only [State.view, hviews]
      have hrec : t.district e = u.district e := by rw [State.district, hdistricts]; rfl
      obtain ⟨b, hb⟩ := hnoticed e
      rw [hsame, ht.after, hviewed, noticed_eq] at hb
      rw [hrec, hb]
      refine ⟨rfl, rfl, ?_, fun hin => ?_, fun hout hout' => ?_, ?_, rfl, rfl, rfl, rfl, rfl, rfl, rfl, rfl, rfl⟩
      · simp [withFailed, entering, listed]
      · exact if_pos ((touched_iff ..).2 hin)
      · exact if_neg fun htouched => ((touched_iff ..).1 htouched).elim hout hout'
      · refine if_congr (and_congr_right fun _ => ?_) rfl rfl
        rw [Bool.or_eq_true, touched_iff, or_assoc, Bool.and_eq_true, decide_eq_true_iff]
        rfl
    · rw [halone hjoin hleave]
      exact ⟨hholders', hline⟩
  · obtain ⟨u, hu⟩ : ∃ u, takesNotice (.joinNotice n d) n (fun e => decide (e = d)) false s = u := ⟨_, rfl⟩
    have hholder := holder_of_takesNotice hu
    have hmoved := moveTaken_join (u := u) (by rw [hholder]; exact hc) (by rw [hholder]; exact ha)
    refine ⟨_, (exec_joinNotice hrun d).trans (congrArg Host.Outcome.next ((congrArg _ hu).trans hmoved)), ?_, fun h hh => ?_⟩
    · simp [hholder]
    · simp [State.holder_setHolder_ne _ _ hh, hholder]
  · obtain ⟨u, hu⟩ : ∃ u, takesNotice (.leaveNotice n) n (fun _ => false) false s = u := ⟨_, rfl⟩
    have hholder := holder_of_takesNotice hu
    obtain ⟨hyard, -⟩ := (takeNotice_spec (s := s.taken (.leaveNotice n)) hr hu).1.kept
    have hmoved := moveTaken_leave (u := u) (by rw [hholder]; exact hc) (by rw [hyard]; exact hw)
    refine ⟨_, (exec_leaveNotice hrun).trans (congrArg Host.Outcome.next ((congrArg _ hu).trans hmoved)), ?_, fun h hh => ?_⟩
    · simp [hholder]
    · simp [State.holder_setHolder_ne _ _ hh, hholder]

end Sys2Proof.Notices

/-! PROOFS. What leaves every district's loading, and the minute of the day, as they stand: the work of the line, the store, booking, the
directory, the accounts and the yard, in the order of the model (04 R67, R71, R72, for O9). -/

namespace Sys2Proof.Machine

/-- What the limits of a loading speak of in a district's record (04 R71, R72). -/
structure Rate where
  floor : Nat
  ceiling : Nat
  drop : Nat
  loading : Nat
  required : Nat
  inFlight : Option Nat
  inService : Bool

def District.rate (r : District) : Rate := ⟨r.floor, r.ceiling, r.drop, r.loading, r.required, r.inFlight, r.state.inService⟩

/-- The rates of every district, with the minute of the day. -/
def State.rates (s : State) : (DistrictId → Rate) × Nat := (fun d => (s.district d).rate, s.yard.minute)

end Sys2Proof.Machine

namespace Sys2Proof.RatesKept

open Sys2Proof.Machine Sys2Proof.Safety Sys2Proof.DistrictWork

/-! ### Changes of one record -/

theorem rates_modDistrict {s : State} {d : DistrictId} {f : District → District} (h : (f (s.district d)).rate = (s.district d).rate) :
    (s.modDistrict d f).rates = s.rates := by
  refine Prod.ext (funext fun e => ?_) rfl
  by_cases he : e = d
  · subst he
    exact (congrArg District.rate (State.district_modDistrict_self ..)).trans h
  · exact congrArg District.rate (State.district_modDistrict_ne _ _ he)

@[simp] theorem rates_modYard {s : State} {f : Yard → Yard} (h : (f s.yard).minute = s.yard.minute) :
    (s.modYard f).rates = s.rates := Prod.ext rfl h

@[simp] theorem rates_modBalance (s : State) (f : Balance → Balance) : (s.modBalance f).rates = s.rates := rfl

@[simp] theorem rates_modLine (s : State) (f : Line → Line) : (s.modLine f).rates = s.rates := rfl

@[simp] theorem rates_modBke (s : State) (f : Bke → Bke) : (s.modBke f).rates = s.rates := rfl

@[simp] theorem rates_modRst (s : State) (f : Rst → Rst) : (s.modRst f).rates = s.rates := rfl

@[simp] theorem rates_modRex (s : State) (f : Rex → Rex) : (s.modRex f).rates = s.rates := rfl

@[simp] theorem rates_send (s : State) (m : Instr) : (s.send m).rates = s.rates := rfl

@[simp] theorem rates_taken (s : State) (m : Instr) : (s.taken m).rates = s.rates := rfl

@[simp] theorem rates_setHolder (s : State) (h : HolderId) (r : Holder) : (s.setHolder h r).rates = s.rates := rfl

@[simp] theorem rates_setView (s : State) (h : HolderId) (v : View) : (s.setView h v).rates = s.rates := rfl

/-! ### The line -/

@[simp] theorem rates_setCommand (s : State) (kind : EntryKind) (link : Link) (c : Option Command) :
    (s.setCommand kind link c).rates = s.rates := rfl

@[simp] theorem rates_setDrive (s : State) (h : HolderId) (v : Option Drive) : (s.setDrive h v).rates = s.rates := rfl

@[simp] theorem rates_setLoadingCommand (s : State) (d : DistrictId) (l : Option Nat) :
    (s.setLoadingCommand d l).rates = s.rates := rfl

@[simp] theorem rates_nextTurn (gaveUp : Bool) (s : State) : (nextTurn gaveUp s).rates = s.rates := by
  obtain ⟨_, _, _, _, _, h⟩ := nextTurn_eq gaveUp s
  rw [h]
  rfl

@[simp] theorem rates_judgeDead (s : State) : (judgeDead s).rates = s.rates := by
  obtain ⟨_, _, _, h⟩ := judgeDead_eq s
  rw [h]
  rfl

@[simp] theorem rates_leaveLate (late : Bool) (s : State) : (leaveLate late s).rates = s.rates := rfl

@[simp] theorem rates_startAttempt (gaveUp : Bool) (e : PollEntry) (single : Bool) (s : State) :
    (startAttempt gaveUp e single s).rates = s.rates := rfl

@[simp] theorem rates_goSilent (e : PollEntry) (misses : Nat) (s : State) : (goSilent e misses s).rates = s.rates := by
  unfold goSilent
  cases silentMessage e <;> simp

@[simp] theorem rates_missAttempt (s : State) : (missAttempt s).rates = s.rates := by
  unfold missAttempt
  split <;> [rfl; split] <;> simp [apply_ite State.rates]

@[simp] theorem rates_goodReply (e : PollEntry) (r : Reading) (s : State) : (goodReply e r s).rates = s.rates := by
  unfold goodReply
  cases replyMessage e r <;> simp

@[simp] theorem rates_judgeGood (body : List Byte) (s : State) : (judgeGood body s).rates = s.rates := by
  unfold judgeGood
  dsimp only
  repeat' split
  all_goals simp

@[simp] theorem rates_judgeFrame (f : FrameEnd) (s : State) : (judgeFrame f s).rates = s.rates := by
  cases f <;> simp [judgeFrame, apply_ite State.rates]

@[simp] theorem rates_lineByte (s : State) (b : Byte) : (lineByte s b).rates = s.rates := by
  unfold lineByte
  dsimp only
  repeat' split
  all_goals simp

@[simp] theorem rates_waitExpires (s : State) : (waitExpires s).rates = s.rates := by
  simp [waitExpires, apply_ite State.rates]

@[simp] theorem rates_lineReset (s : State) : (lineReset s).rates = s.rates := by
  simp [lineReset]

@[simp] theorem rates_afterListChange (left : Option Nat) (s : State) : (afterListChange left s).rates = s.rates := by
  unfold afterListChange
  dsimp only
  repeat' split
  all_goals simp

@[simp] theorem rates_applyOutstation (address : Nat) (action : OutstationAction) (kind : EntryKind) (retry : Nat) (s : State) :
    (applyOutstation address action kind retry s).rates = s.rates := by
  unfold applyOutstation
  repeat' split
  all_goals simp

/-! ### The store -/

@[simp] theorem rates_takeDamage (own : Bool) (period n : Nat) (s : State) : (takeDamage own period n s).rates = s.rates := by
  simp [takeDamage, apply_ite State.rates]

@[simp] theorem rates_judge (own : Bool) (period n : Nat) (s : State) : (judge own period n s).2.rates = s.rates := by
  unfold judge
  repeat' split
  all_goals simp

/-- A judged read in parts: what it finds, and a state with the same holders. -/
theorem judge_keeps (own : Bool) (period n : Nat) (s : State) :
    ∃ found t, judge own period n s = (found, t) ∧ t.rates = s.rates := ⟨_, _, rfl, rates_judge own period n s⟩

@[simp] theorem rates_arbitrate (s : State) : (arbitrate s).rates = s.rates := by
  simp [arbitrate, grant, apply_ite State.rates]

@[simp] theorem rates_request (q : Requester) (s : State) : (request q s).rates = s.rates := by
  simp [request]

@[simp] theorem rates_release (s : State) : (release s).rates = s.rates := by
  simp [release]

@[simp] theorem rates_scrubTimerExpires (s : State) : (scrubTimerExpires s).rates = s.rates := by
  unfold scrubTimerExpires
  dsimp only
  repeat' split
  all_goals simp

@[simp] theorem rates_scrubEffect (g : Grant) (s : State) : (scrubEffect g s).rates = s.rates := by
  simp [scrubEffect]

@[simp] theorem rates_setScrubInterval (v : Nat) (s : State) : (setScrubInterval v s).rates = s.rates := by
  simp [setScrubInterval, apply_ite State.rates]

@[simp] theorem rates_setBookingShare (v : Nat) (s : State) : (setBookingShare v s).rates = s.rates := rfl

/-! ### Booking -/

@[simp] theorem rates_modChannel (s : State) (address : Nat) (ch : Fin 4) (f : Channel → Channel) :
    (s.modChannel address ch f).rates = s.rates := rfl

@[simp] theorem rates_conclude (h : InHand) (r : Option Resolution) (s : State) : (conclude h r s).rates = s.rates := by
  simp [conclude, setPhase]

@[simp] theorem rates_awaitLevel (h : InHand) (w : Walk) (level : WalkLevel) (s : State) :
    (awaitLevel h w level s).rates = s.rates := by
  simp [awaitLevel, setPhase]

@[simp] theorem rates_useRoot (d : DistrictId) (s : State) : (useRoot d s).rates = s.rates := by
  unfold useRoot
  exact rates_modDistrict rfl

@[simp] theorem rates_resolve (h : InHand) (s : State) : (resolve h s).rates = s.rates := by
  unfold resolve
  dsimp only
  repeat' split
  all_goals simp

@[simp] theorem rates_walkEnds (h : InHand) (w : Walk) (r : Resolution) (s : State) : (walkEnds h w r s).rates = s.rates := by
  unfold walkEnds
  cases r <;> simp [apply_ite State.rates]

@[simp] theorem rates_followIndirect (h : InHand) (w : Walk) (own : LeafRef) (target : Nat) (s : State) :
    (followIndirect h w own target s).rates = s.rates := by
  unfold followIndirect
  dsimp only
  split <;> simp

@[simp] theorem rates_passLeaf (h : InHand) (w : Walk) (t : Nat) (leaf : Leaf) (s : State) :
    (passLeaf h w t leaf s).rates = s.rates := by
  unfold passLeaf
  dsimp only
  split <;> simp

@[simp] theorem rates_flagAccess (own : Bool) (period slot : Nat) (f : Rst → Rst) (s : State) :
    (flagAccess own period slot f s).2.rates = s.rates := by
  obtain ⟨found, t, hj, ht⟩ := judge_keeps own period slot s
  cases found <;> simp [flagAccess, hj, ht]

@[simp] theorem rates_walkAccess (g : Grant) (w : Walk) (s : State) : (walkAccess g w s).2.rates = s.rates := by
  unfold walkAccess
  split <;> simp

@[simp] theorem rates_walkGoesOn (h : InHand) (w : Walk) (found : Found) (s : State) :
    (walkGoesOn h w found s).rates = s.rates := by
  unfold walkGoesOn
  dsimp only
  repeat' split
  all_goals simp

@[simp] theorem rates_walkAccessEnds (g : Grant) (h : InHand) (w : Walk) (s : State) :
    (walkAccessEnds g h w s).rates = s.rates := by
  simp [walkAccessEnds]

@[simp] theorem rates_takeHeads (qs : List QueueEntry) (s : State) : (takeHeads qs s).rates = s.rates := by
  induction qs generalizing s with
  | nil => rfl
  | cons q qs ih =>
    unfold takeHeads
    split
    · exact ih s
    · simp [apply_ite State.rates]

@[simp] theorem rates_endCycle (s : State) : (endCycle s).rates = s.rates := by
  simp [endCycle]

@[simp] theorem rates_toSuspense (g : Grant) (q : Quantity) (reason : Divert) (s : State) :
    (toSuspense g q reason s).2.rates = s.rates := by
  obtain ⟨found, t, hj, ht⟩ := judge_keeps false g.period 0 s
  cases found with
  | contents =>
    simp only [toSuspense, hj]
    split <;> simp [ht]
  | damaged => simp [toSuspense, hj, ht]
  | uncorrectable => simp [toSuspense, hj, ht]

@[simp] theorem rates_toAccount (g : Grant) (q : Quantity) (slot : Nat) (s : State) :
    (toAccount g q slot s).2.rates = s.rates := by
  obtain ⟨found, t, hj, ht⟩ := judge_keeps false g.period slot s
  cases found with
  | contents =>
    simp only [toAccount, hj]
    repeat' split
    all_goals simp [ht]
  | damaged => simp [toAccount, hj, ht]
  | uncorrectable => simp [toAccount, hj, ht]

@[simp] theorem rates_commitTo (g : Grant) (q : Quantity) (r : Option Resolution) (s : State) :
    (commitTo g q r s).2.rates = s.rates := by
  unfold commitTo
  repeat' split
  all_goals simp

@[simp] theorem rates_settleChannel (h : InHand) (c : Committed) (s : State) : (settleChannel h c s).rates = s.rates := by
  cases c <;> simp [settleChannel, apply_ite State.rates]

@[simp] theorem rates_commitEffect (g : Grant) (h : InHand) (r : Option Resolution) (s : State) :
    (commitEffect g h r s).2.rates = s.rates := by
  simp [commitEffect]

@[simp] theorem rates_commitEnds (g : Grant) (h : InHand) (r : Option Resolution) (s : State) :
    (commitEnds g h r s).rates = s.rates := by
  unfold commitEnds
  dsimp only
  repeat' split
  all_goals simp [setPhase]

@[simp] theorem rates_markBooked (g : Grant) (own : LeafRef) (s : State) : (markBooked g own s).rates = s.rates := by
  simp [markBooked]

@[simp] theorem rates_takeCount (address : Nat) (r : MeterReading) (s : State) (ch : Fin 4) :
    (takeCount address r s ch).rates = s.rates := by
  unfold takeCount
  dsimp only
  repeat' split
  all_goals simp

/-- What each of a list's pieces of work keeps, all of them keep. -/
theorem rates_foldl {α : Type} {f : State → α → State} (hf : ∀ s a, (f s a).rates = s.rates) (l : List α) (s : State) :
    (l.foldl f s).rates = s.rates := by
  induction l generalizing s with
  | nil => rfl
  | cons a l ih => exact (ih (f s a)).trans (hf s a)

@[simp] theorem rates_meterReply (address : Nat) (r : MeterReading) (s : State) : (meterReply address r s).rates = s.rates := by
  unfold meterReply
  repeat' split
  all_goals simp [rates_foldl]

@[simp] theorem rates_dropInHand (s : State) : (dropInHand s).rates = s.rates := by
  simp [dropInHand, withdrawBke]

@[simp] theorem rates_discardInHand (h : InHand) (s : State) : (discardInHand h s).rates = s.rates := by
  unfold discardInHand
  repeat' split
  all_goals simp

@[simp] theorem rates_removeWhere (address : Nat) (p : Fin 4 → Bool) (s : State) : (removeWhere address p s).rates = s.rates := by
  unfold removeWhere
  dsimp only
  rw [rates_foldl fun s ch => by split <;> rfl]
  repeat' split
  all_goals simp

@[simp] theorem rates_setChannel (address channel : Nat) (enabled : Bool) (point constant limit : Nat) (s : State) :
    (Machine.setChannel address channel enabled point constant limit s).2.rates = s.rates := by
  unfold Machine.setChannel
  dsimp only
  repeat' split
  all_goals simp [removeChannel]

@[simp] theorem rates_completeBke (g : Grant) (s : State) : (completeBke g s).rates = s.rates := by
  unfold completeBke
  repeat' split
  all_goals simp

/-! ### The directory -/

@[simp] theorem rates_completeChange (s : State) : (completeChange s).rates = s.rates := rfl

theorem rates_actAtOnce {a : DirAction} {s t : State} (h : actAtOnce a s = some t) : t.rates = s.rates := by
  cases a <;> simp only [actAtOnce, Option.some.injEq, reduceCtorEq] at h <;> subst h
  case setRoot d root =>
    have h : (setRoot d root s).rates = s.rates := by
      unfold setRoot
      exact rates_modDistrict rfl
    exact h
  case barRoot d barred => exact rates_modDistrict rfl
  all_goals rfl

@[simp] theorem rates_runPlan (plan : List DirAction) (s : State) : (runPlan plan s).2.rates = s.rates := by
  induction plan generalizing s with
  | nil => rfl
  | cons a plan ih =>
    unfold runPlan
    split
    · rename_i t ht
      exact (ih t).trans (rates_actAtOnce ht)
    · rfl

@[simp] theorem rates_refuse (r : Result) (s : State) : (refuse r s).2.rates = s.rates := rfl

@[simp] theorem rates_await (w : HeadWork) (s : State) : (await w s).2.rates = s.rates := rfl

@[simp] theorem rates_stopAtDamage (s : State) : (stopAtDamage s).2.rates = s.rates := rfl

@[simp] theorem rates_writeAccess (g : Grant) (slot : Nat) (f : Rst → Rst) (s : State) :
    (writeAccess g slot f s).2.rates = s.rates := by
  obtain ⟨found, t, hj, ht⟩ := judge_keeps false g.period slot s
  cases found <;> simp [writeAccess, hj, ht]

@[simp] theorem rates_actAccess (g : Grant) (p : Nat) (a : DirAction) (s : State) : (actAccess g p a s).2.rates = s.rates := by
  cases a <;> simp [actAccess]

@[simp] theorem rates_actFrees (plan : List DirAction) (s : State) : (actFrees plan s).rates = s.rates := by
  unfold actFrees
  refine rates_foldl (fun s a => ?_) _ s
  cases ha : actAtOnce a s with
  | none => rfl
  | some t => exact rates_actAtOnce ha

/-- An access of a plan in parts: the actions that follow, and a state with the same holders. -/
theorem actAccess_keeps (g : Grant) (p : Nat) (a : DirAction) (s : State) :
    ∃ more t, actAccess g p a s = (more, t) ∧ t.rates = s.rates := ⟨_, _, rfl, rates_actAccess g p a s⟩

@[simp] theorem rates_abandonedAction (g : Grant) (p : Nat) (plan : List DirAction) (s : State) :
    (abandonedAction g p plan s).rates = s.rates := by
  cases plan with
  | nil => rfl
  | cons a rest =>
    obtain ⟨more, t, ha, ht⟩ := actAccess_keeps g p a s
    simp only [abandonedAction, ha]
    split <;> simp_all

@[simp] theorem rates_planAccess (g : Grant) (p : Nat) (plan : List DirAction) (s : State) :
    (planAccess g p plan s).2.rates = s.rates := by
  cases plan with
  | nil => rfl
  | cons a rest =>
    obtain ⟨more, t, ha, ht⟩ := actAccess_keeps g p a s
    cases more <;> simp [planAccess, ha, ht]

@[simp] theorem rates_planWholePath (p : Nat) (leaf : Leaf) (s : State) : (planWholePath p leaf s).2.rates = s.rates := by
  unfold planWholePath
  dsimp only
  split <;> simp

@[simp] theorem rates_planPointTable (p : Nat) (leaf : Leaf) (main : Nat) (barred : Bool) (s : State) :
    (planPointTable p leaf main barred s).2.rates = s.rates := by
  unfold planPointTable
  split <;> simp

@[simp] theorem rates_planDamagedMain (p : Nat) (leaf : Leaf) (main : Nat) (s : State) :
    (planDamagedMain p leaf main s).2.rates = s.rates := by
  unfold planDamagedMain
  split <;> simp

theorem rates_enterPath (p : Nat) {noTable : State → Progress × State} (s : State) (hn : (noTable s).2.rates = s.rates) :
    (enterPath p noTable s).2.rates = s.rates := by
  unfold enterPath
  split <;> simp [hn]

@[simp] theorem rates_enterBinding (q : Request) (s : State) : (enterBinding q s).2.rates = s.rates :=
  rates_enterPath _ s (rates_planWholePath _ _ s)

@[simp] theorem rates_startMap (p slot : Nat) (s : State) : (startMap p slot s).2.rates = s.rates := by
  unfold startMap
  repeat' split
  all_goals rfl

@[simp] theorem rates_startLink (p target : Nat) (s : State) : (startLink p target s).2.rates = s.rates := by
  unfold startLink
  repeat' split
  all_goals rfl

@[simp] theorem rates_startUnmap (p : Nat) (s : State) : (startUnmap p s).2.rates = s.rates := by
  unfold startUnmap
  split
  · rfl
  · exact rates_enterPath p s rfl

@[simp] theorem rates_startBar (barred : Bool) (level : BarLevel) (p : Nat) (s : State) :
    (startBar barred level p s).2.rates = s.rates := by
  unfold startBar
  split
  · rfl
  · cases level with
    | root => exact rates_runPlan _ s
    | main => exact rates_enterPath p s rfl
    | point => exact rates_enterPath p s rfl

@[simp] theorem rates_startRoute (n : Nat) (f : RouteSettings) (s : State) : (startRoute n f s).2.rates = s.rates := by
  unfold startRoute
  repeat' split
  all_goals simp

@[simp] theorem rates_accountRead (g : Grant) (q : Request) (s : State) : (accountRead g q s).2.rates = s.rates := by
  obtain ⟨found, t, hj, ht⟩ := judge_keeps false g.period (checkedSlot q) s
  cases found with
  | contents =>
    simp only [accountRead, hj]
    repeat' split
    all_goals simp [ht]
  | damaged => simp [accountRead, hj, ht]
  | uncorrectable => simp [accountRead, hj, ht]

@[simp] theorem rates_targetMainRead (g : Grant) (target t : Nat) (s : State) :
    (targetMainRead g target t s).2.rates = s.rates := by
  obtain ⟨found, u, hj, hu⟩ := judge_keeps false g.period (mainSlot t) s
  cases found with
  | contents =>
    simp only [targetMainRead, hj]
    split <;> simp [hu]
  | damaged => simp [targetMainRead, hj, hu]
  | uncorrectable => simp [targetMainRead, hj, hu]

@[simp] theorem rates_targetPointRead (g : Grant) (q : Request) (target t : Nat) (s : State) :
    (targetPointRead g q target t s).2.rates = s.rates := by
  obtain ⟨found, u, hj, hu⟩ := judge_keeps false g.period (pointSlot t) s
  cases found with
  | contents =>
    simp only [targetPointRead, hj]
    split <;> simp [hu]
  | damaged => simp [targetPointRead, hj, hu]
  | uncorrectable => simp [targetPointRead, hj, hu]

@[simp] theorem rates_ownMainSound (q : Request) (t : Nat) (s : State) : (ownMainSound q t s).2.rates = s.rates := by
  unfold ownMainSound
  dsimp only
  repeat' split
  all_goals simp

@[simp] theorem rates_ownMainDamaged (q : Request) (t : Nat) (s : State) : (ownMainDamaged q t s).2.rates = s.rates := by
  unfold ownMainDamaged
  dsimp only
  split <;> simp

@[simp] theorem rates_ownMainRead (g : Grant) (q : Request) (t : Nat) (s : State) : (ownMainRead g q t s).2.rates = s.rates := by
  obtain ⟨found, u, hj, hu⟩ := judge_keeps false g.period (mainSlot t) s
  cases found <;> simp [ownMainRead, hj, hu]

@[simp] theorem rates_ownPointSound (q : Request) (main : Nat) (d : Desc) (t : Nat) (s : State) :
    (ownPointSound q main d t s).2.rates = s.rates := by
  unfold ownPointSound
  dsimp only
  repeat' split
  all_goals simp

@[simp] theorem rates_ownPointDamaged (q : Request) (main : Nat) (d : Desc) (t : Nat) (s : State) :
    (ownPointDamaged q main d t s).2.rates = s.rates := by
  unfold ownPointDamaged
  dsimp only
  split <;> simp

@[simp] theorem rates_ownPointRead (g : Grant) (q : Request) (main : Nat) (d : Desc) (t : Nat) (s : State) :
    (ownPointRead g q main d t s).2.rates = s.rates := by
  obtain ⟨found, u, hj, hu⟩ := judge_keeps false g.period (pointSlot t) s
  cases found <;> simp [ownPointRead, hj, hu]

@[simp] theorem rates_directoryAccess (g : Grant) (q : Request) (w : DirWork) (s : State) :
    (directoryAccess g q w s).2.rates = s.rates := by
  cases w <;> simp [directoryAccess]

@[simp] theorem rates_lookDone (p : Nat) (clear : Bool) (w : LookWork) (s : State) :
    (lookDone p clear w s).2.rates = s.rates := by
  unfold lookDone
  repeat' split
  all_goals rfl

@[simp] theorem rates_lookTarget (p : Nat) (clear : Bool) (w : LookWork) (s : State) :
    (lookTarget p clear w s).2.rates = s.rates := by
  unfold lookTarget
  dsimp only
  repeat' split
  all_goals simp

@[simp] theorem rates_startLookPoint (p : Nat) (clear : Bool) (s : State) : (startLookPoint p clear s).2.rates = s.rates := by
  unfold startLookPoint
  dsimp only
  repeat' split
  all_goals simp

@[simp] theorem rates_seeMain (g : Grant) (t i : Nat) (s : State) : (seeMain g t i s).2.rates = s.rates := by
  obtain ⟨found, u, hj, hu⟩ := judge_keeps false g.period (mainSlot t) s
  cases found <;> simp [seeMain, hj, hu]

@[simp] theorem rates_seeLeaf (g : Grant) (t i : Nat) (s : State) : (seeLeaf g t i s).2.rates = s.rates := by
  obtain ⟨found, u, hj, hu⟩ := judge_keeps false g.period (pointSlot t) s
  cases found <;> simp [seeLeaf, hj, hu]

@[simp] theorem rates_lookPointAccess (g : Grant) (p : Nat) (clear : Bool) (w : LookWork) (s : State) :
    (lookPointAccess g p clear w s).2.rates = s.rates := by
  unfold lookPointAccess
  dsimp only
  repeat' split
  all_goals simp

/-! ### Accounts and the balance -/

@[simp] theorem rates_startOnSlot (slot : Nat) (fieldsOk : Bool) (next : HeadWork) (s : State) :
    (startOnSlot slot fieldsOk next s).2.rates = s.rates := by
  unfold startOnSlot
  repeat' split
  all_goals rfl

@[simp] theorem rates_startOpen (slot : Nat) (kind : AccountKind) (cv : Option Nat) (s : State) :
    (startOpen slot kind cv s).2.rates = s.rates := rates_startOnSlot _ _ _ s

@[simp] theorem rates_startReopen (slot : Nat) (s : State) : (startReopen slot s).2.rates = s.rates := by
  unfold startReopen
  repeat' split
  all_goals rfl

@[simp] theorem rates_startAdjust (source target cuft therms : Nat) (s : State) :
    (startAdjust source target cuft therms s).2.rates = s.rates := by
  unfold startAdjust
  split <;> rfl

@[simp] theorem rates_startLookAccount (slot : Nat) (s : State) : (startLookAccount slot s).2.rates = s.rates := by
  unfold startLookAccount
  split <;> rfl

@[simp] theorem rates_writeSlot (slot : Nat) (a : Account) (s : State) : (writeSlot slot a s).2.rates = s.rates := rfl

theorem rates_onContents (g : Grant) (slot : Nat) (damaged : Result) {f : Account → State → Progress × State} (s : State)
    (hf : ∀ a t, (f a t).2.rates = t.rates) : (onContents g slot damaged f s).2.rates = s.rates := by
  obtain ⟨found, t, hj, ht⟩ := judge_keeps false g.period slot s
  cases found <;> simp [onContents, hj, ht, hf]

@[simp] theorem rates_retireNext (left : List Nat) (s : State) : (retireNext left s).2.rates = s.rates := by
  unfold retireNext
  split <;> rfl

@[simp] theorem rates_retireCheck (g : Grant) (slot : Nat) (s : State) : (retireCheck g slot s).2.rates = s.rates := by
  refine rates_onContents g slot _ s fun a t => ?_
  repeat' split
  all_goals simp

@[simp] theorem rates_retireScan (g : Grant) (slot : Nat) (left : List Nat) (s : State) :
    (retireScan g slot left s).2.rates = s.rates := by
  cases left with
  | nil => rfl
  | cons t left =>
    obtain ⟨found, u, hj, hu⟩ := judge_keeps false g.period (pointSlot t) s
    cases found with
    | contents =>
      simp only [retireScan, hj]
      split <;> simp [hu]
    | damaged => simp [retireScan, hj, hu]
    | uncorrectable => simp [retireScan, hj, hu]

@[simp] theorem rates_retireFinal (g : Grant) (slot : Nat) (s : State) : (retireFinal g slot s).2.rates = s.rates := by
  refine rates_onContents g slot _ s fun a t => ?_
  split <;> rfl

@[simp] theorem rates_restoreAccess (g : Grant) (slot : Nat) (c : AccountContents) (s : State) :
    (restoreAccess g slot c s).2.rates = s.rates := by
  obtain ⟨found, u, hj, hu⟩ := judge_keeps false g.period slot s
  cases found with
  | contents =>
    simp only [restoreAccess, hj]
    split <;> simp [hu]
  | damaged => simp [restoreAccess, hj, hu]
  | uncorrectable => simp [restoreAccess, hj, hu]

@[simp] theorem rates_adjustAccess (g : Grant) (source target cuft therms : Nat) (s : State) :
    (adjustAccess g source target cuft therms s).2.rates = s.rates := by
  obtain ⟨fa, t, ha, ht⟩ := judge_keeps false g.period source s
  obtain ⟨fb, u, hb, hu⟩ := judge_keeps false g.period target t
  simp only [adjustAccess, ha, hb]
  repeat' split
  all_goals simp [ht, hu]

@[simp] theorem rates_accountAccess (g : Grant) (q : Request) (s : State) : (accountAccess g q s).2.rates = s.rates := by
  unfold accountAccess
  split
  · exact rates_onContents g _ _ s fun a t => by split <;> rfl
  · exact rates_onContents g _ _ s fun a t => by split <;> rfl
  · exact rates_onContents g _ _ s fun a t => by split <;> rfl
  · simp
  · simp
  · exact rates_onContents g _ _ s fun a t => rfl
  · rfl

@[simp] theorem rates_startClose (s : State) : (startClose s).2.rates = s.rates := by
  unfold startClose
  dsimp only
  split <;> rfl

@[simp] theorem rates_passNext (tables : List Nat) (leaves : List PassLeaf) (m : Sums) (s : State) :
    (passNext tables leaves m s).2.rates = s.rates := by
  unfold passNext
  split <;> rfl

@[simp] theorem rates_closeScanAccess (g : Grant) (slot : Nat) (m : Sums) (s : State) :
    (closeScanAccess g slot m s).2.rates = s.rates := by
  obtain ⟨found, u, hj, hu⟩ := judge_keeps false g.period slot s
  cases found with
  | contents =>
    simp only [closeScanAccess, hj]
    split <;> simp [hu]
  | damaged => simp [closeScanAccess, hj, hu]
  | uncorrectable => simp [closeScanAccess, hj, hu]

@[simp] theorem rates_closeScan (g : Grant) (slot : Nat) (m : Sums) (s : State) :
    (closeScan g slot m s).2.rates = s.rates := by
  unfold closeScan
  dsimp only
  split <;> simp

@[simp] theorem rates_passAccess (g : Grant) (tables : List Nat) (leaves : List PassLeaf) (s : State) :
    (passAccess g tables leaves s).2.rates = s.rates := by
  match leaves, tables with
  | p :: leaves, tables => exact rates_flagAccess ..
  | [], t :: tables =>
    obtain ⟨found, u, hj, hu⟩ := judge_keeps false g.period (pointSlot t) s
    cases found <;> simp [passAccess, hj, hu]
  | [], [] => rfl

@[simp] theorem rates_bookedPass (g : Grant) (tables : List Nat) (leaves : List PassLeaf) (m : Sums) (s : State) :
    (bookedPass g tables leaves m s).2.rates = s.rates := by
  simp [bookedPass]

@[simp] theorem rates_balanceRead (g : Grant) (slot : Nat) (m : Sums) (s : State) :
    (balanceRead g slot m s).2.rates = s.rates := by
  obtain ⟨found, u, hj, hu⟩ := judge_keeps false g.period slot s
  simp only [balanceRead, hj]
  repeat' split
  all_goals simp_all

/-! ### Districts -/

/-- A district's state changes, in service or out of it alike (04 R78). -/
theorem rates_enterState {d : DistrictId} {st : DistrictState} {s : State} (h : st.inService = (s.district d).state.inService) :
    (enterState d st s).rates = s.rates := by
  refine Eq.trans (b := (s.modDistrict d (entering st)).rates) rfl (rates_modDistrict ?_)
  simp [District.rate, entering, h]

@[simp] theorem rates_evaluate (d : DistrictId) (s : State) : (evaluate d s).rates = s.rates := by
  rw [evaluate_eq]
  refine rates_enterState ?_
  unfold evaluated
  split
  · rename_i h
    rw [stateOfFeeds_inService, h]
  · rfl

@[simp] theorem rates_occasion (d : DistrictId) (s : State) : (occasion d s).rates = s.rates := rfl

/-- The occasions latch AUTO-JOIN-FAILED at most (04 R79, R80). -/
@[simp] theorem rates_runOccasions (s : State) : (runOccasions s).rates = s.rates := by
  have h := tried_runOccasions s
  refine Prod.ext (funext fun e => ?_) (congrArg Yard.minute h.beside.kept.1)
  obtain ⟨b, hb⟩ := h.districts e
  show District.rate _ = District.rate _
  rw [hb]
  rfl

@[simp] theorem rates_takeLists (m : Instr) (n : HolderNotice) (ends : DistrictId → Bool) (s : State) (d : DistrictId) :
    (takeLists m n ends s d).rates = s.rates := by
  unfold takeLists
  dsimp only
  split
  · exact (rates_modDistrict rfl).trans (rates_modDistrict rfl)
  · exact rates_modDistrict rfl

@[simp] theorem rates_evaluateAfter (before : State) (n : HolderNotice) (s : State) (d : DistrictId) :
    (evaluateAfter before n s d).rates = s.rates := by
  unfold evaluateAfter
  dsimp only
  repeat' split
  all_goals simp

@[simp] theorem rates_takeNotice (m : Instr) (n : HolderNotice) (ends : DistrictId → Bool) (standing : Bool) (s : State) :
    (takeNotice m n ends standing s).rates = s.rates := by
  obtain ⟨os, hos⟩ := Notices.standingOccasions_if (standing || n.standing) n.holder
    (districtIds.foldl (evaluateAfter s n) (districtIds.foldl (takeLists m n ends) (takeView n s)))
  rw [takeNotice, rates_runOccasions, hos]
  exact (rates_foldl (rates_evaluateAfter s n) _ _).trans (rates_foldl (rates_takeLists m n ends) _ _)

@[simp] theorem rates_takesNotice (m : Instr) (n : HolderNotice) (ends : DistrictId → Bool) (standing : Bool) (s : State) :
    (takesNotice m n ends standing s).rates = s.rates := by
  simp [takesNotice]

@[simp] theorem rates_autoJoinAnswer (h : HolderId) (d : DistrictId) (result : Result) (s : State) :
    (autoJoinAnswer h d result s).rates = s.rates := by
  have hfirst : (takePendingFirst h d s).rates = s.rates := by
    unfold takePendingFirst
    split <;> simp
  unfold autoJoinAnswer joinFailed
  dsimp only
  rw [rates_runOccasions]
  split <;> exact (rates_modDistrict rfl).trans hfirst

theorem rates_onDistrict (n : Nat) (s : State) {f : DistrictId → Result × State} (hf : ∀ d, (f d).2.rates = s.rates) :
    (onDistrict n s f).2.rates = s.rates := by
  unfold onDistrict
  split
  · rfl
  · exact hf _

@[simp] theorem rates_relinkStation (d : DistrictId) (kind : EntryKind) (address : Option Nat) (s : State) :
    (relinkStation d kind address s).rates = s.rates := by
  cases address <;> rfl

@[simp] theorem rates_relinkGovernor (d : DistrictId) (address : Option Nat) (s : State) :
    (relinkGovernor d address s).rates = s.rates := by
  unfold relinkGovernor
  dsimp only
  repeat' split
  all_goals simp

@[simp] theorem rates_setStations (n : Nat) (governor telltale : Option Nat) (s : State) :
    (setStations n governor telltale s).2.rates = s.rates := by
  refine rates_onDistrict n s fun d => ?_
  repeat' split
  all_goals simp

/-! ### The yard -/

theorem rates_setting {α : Type} (v : Option α) {f : α → State → State} (hf : ∀ a s, (f a s).rates = s.rates) (s : State) :
    (setting v f s).rates = s.rates := by
  cases v with
  | none => rfl
  | some a => exact hf a s

@[simp] theorem rates_setYard (f : YardSettings) (s : State) : (Machine.setYard f s).2.rates = s.rates := by
  unfold Machine.setYard
  split
  · rfl
  · dsimp only
    rw [rates_setting, rates_setting, rates_setting, rates_setting, rates_setting, rates_setting, rates_setting]
    all_goals intro v t
    all_goals simp [setFallback, setFastShare]

@[simp] theorem rates_setOutstation (address : Nat) (action : OutstationAction) (kind : Option EntryKind) (retry : Option Nat)
    (s : State) : (Machine.setOutstation address action kind retry s).2.rates = s.rates := by
  unfold Machine.setOutstation
  dsimp only
  repeat' split
  all_goals simp [removeChannels]

@[simp] theorem rates_setup (s : State) : (Machine.setup s).2.rates = s.rates := by
  unfold Machine.setup
  repeat' split
  all_goals rfl

@[simp] theorem rates_yardHold (s : State) : (Machine.yardHold s).2.rates = s.rates := by
  unfold Machine.yardHold
  split <;> rfl

@[simp] theorem rates_lineDies (s : State) : (lineDies s).rates = s.rates := by
  unfold lineDies
  split <;> rfl

/-! ### Holders -/

theorem rates_of_holderSide {s t : State} (h : HocWork.HolderSide s t) : t.rates = s.rates := by
  unfold HocWork.HolderSide at h
  rw [h]
  rfl

section
open Sys2Proof.HocWork
variable (s : State) (n : Nat) (h : HolderId)

@[simp] theorem rates_crownReply (c : CrownReading) : (crownReply h c s).rates = s.rates :=
  rates_of_holderSide (holderSide_crownReply s h c)

@[simp] theorem rates_crownSilent : (crownSilent h s).rates = s.rates := rates_of_holderSide (holderSide_crownSilent s h)

@[simp] theorem rates_moveTimerExpires : (moveTimerExpires h s).rates = s.rates :=
  rates_of_holderSide (holderSide_moveTimerExpires s h)

@[simp] theorem rates_moveTaken (m : Move) : (moveTaken h m s).rates = s.rates := rates_of_holderSide (holderSide_moveTaken s h m)

@[simp] theorem rates_order (kind : OrderKind) (district quantity : Option Nat) (e : Option EndAction) :
    (order n kind district quantity e s).2.rates = s.rates := rates_of_holderSide (holderSide_order s n kind district quantity e)

@[simp] theorem rates_repeatLast : (repeatLast n s).2.rates = s.rates := rates_of_holderSide (holderSide_repeatLast s n)

@[simp] theorem rates_automaticDraw (d : DistrictId) : (automaticDraw h d s).rates = s.rates :=
  rates_of_holderSide (holderSide_automaticDraw s h d)

@[simp] theorem rates_stopHolder : (stopHolder n s).2.rates = s.rates := rates_of_holderSide (holderSide_stopHolder s n)

@[simp] theorem rates_isolateHolder : (isolateHolder n s).2.rates = s.rates := rates_of_holderSide (holderSide_isolateHolder s n)

@[simp] theorem rates_returnToService : (returnToService n s).2.rates = s.rates :=
  rates_of_holderSide (holderSide_returnToService s n)

@[simp] theorem rates_setHolderRequest (f : HolderSettings) : (Machine.setHolder n f s).2.rates = s.rates :=
  rates_of_holderSide (holderSide_setHolder n f s)

@[simp] theorem rates_enterWorking : (enterWorking s).rates = s.rates := by
  unfold enterWorking
  dsimp only
  rw [rates_runOccasions, rates_foldl fun s d => rates_occasion d s]
  exact (rates_of_holderSide (holderSide_startAllWaiting (s.modYard fun y => { y with mode := .working }))).trans (rates_modYard rfl)

end

/-! ### Requests -/

section
variable (s : State)

@[simp] theorem rates_clearSource (x : Source) : (s.clearSource x).rates = s.rates := by
  cases x with
  | district d => exact rates_modDistrict (s := s) (d := d) (f := fun r => { r with latches := DistrictLatches.clear }) rfl
  | _ => rfl

@[simp] theorem rates_acknowledge (n : Nat) : (acknowledge n s).2.rates = s.rates := by
  unfold acknowledge
  split <;> simp

@[simp] theorem rates_work : (work s).2.rates = s.rates := by
  unfold work
  split <;> simp

@[simp] theorem rates_resume : (resume s).2.rates = s.rates := by
  unfold resume
  split <;> simp

@[simp] theorem rates_lookHolder (n : Nat) : (lookHolder n s).2.rates = s.rates := by
  unfold lookHolder
  split <;> rfl

@[simp] theorem rates_lookDistrict (n : Nat) : (lookDistrict n s).2.rates = s.rates := by
  unfold lookDistrict
  split <;> rfl

@[simp] theorem rates_lookLine (address : Option Nat) : (lookLine address s).2.rates = s.rates := by
  unfold lookLine
  repeat' split
  all_goals rfl

@[simp] theorem rates_respond (tag code : Byte) (result : Result) (fields : List Field) :
    (respond tag code result fields s).rates = s.rates := rfl

@[simp] theorem rates_answerHead (h : Stacked) (result : Result) (fields : List Field) :
    (answerHead h result fields s).rates = s.rates := rfl

@[simp] theorem rates_awaitHead (w : HeadWork) : (awaitHead w s).rates = s.rates := by
  simp [awaitHead]

@[simp] theorem rates_abandonedAccess (g : Grant) (q : Request) (w : HeadWork) : (abandonedAccess g q w s).rates = s.rates := by
  unfold abandonedAccess
  split <;> simp

@[simp] theorem rates_completeServed : (completeServed s).rates = s.rates := by
  unfold completeServed
  dsimp only
  repeat' split
  all_goals simp

@[simp] theorem rates_abortStack : (abortStack s).rates = s.rates := by
  unfold abortStack
  exact rates_foldl (fun s (q : Stacked) => rates_respond s q.tag q.request.code .aborted []) _ _

@[simp] theorem rates_workAccess (g : Grant) (q : Request) (w : HeadWork) : (workAccess g q w s).2.rates = s.rates := by
  cases w <;> simp [workAccess]

@[simp] theorem rates_bookingAccessEnds {kind : Phase → Bool} {work : Grant → InHand → State → State}
    (hw : ∀ g h s, (work g h s).rates = s.rates) : (bookingAccessEnds kind work s).rates = s.rates := by
  unfold bookingAccessEnds
  repeat' split
  · simp [hw]
  · rfl
  · rfl

@[simp] theorem rates_walkWork (g : Grant) (h : InHand) : (walkWork g h s).rates = s.rates := by
  unfold walkWork
  split <;> simp

@[simp] theorem rates_commitWork (g : Grant) (h : InHand) : (commitWork g h s).rates = s.rates := by
  unfold commitWork
  split <;> simp

@[simp] theorem rates_markWork (g : Grant) (h : InHand) : (markWork g h s).rates = s.rates := by
  unfold markWork
  split <;> simp [standMark]

end

end Sys2Proof.RatesKept

/-! PROOFS. Every step keeps each loading within its limits, what is in flight the loading in force, and the minute of the day (04 R67,
R71, R72; O9): each piece of DIC's work that moves a loading, and the rest by the rates it leaves alone. -/

namespace Sys2Proof.Loadings

open Sys2Proof.Machine Sys2Proof.Safety Sys2Proof.DistrictWork Sys2Proof.DistrictRequests Sys2Proof.DistrictFields Sys2Proof.RatesKept
open Sys2Proof.StationReplies

/-! ### Sound rates -/

/-- A loading within its limits, with the drop above it, and in flight only in service (04 R71, R72). -/
structure RateSound (x : Rate) : Prop where
  limits : x.floor ≤ x.ceiling
  floor : x.floor ≤ x.loading
  ceiling : x.loading ≤ x.ceiling
  required : x.required = x.loading + x.drop
  inFlight : ∀ l, x.inFlight = some l → l = x.loading ∧ x.inService = true

theorem rateSound_iff (x : Rate) : RateSound x ↔ x.floor ≤ x.ceiling ∧ (x.floor ≤ x.loading ∧ x.loading ≤ x.ceiling)
    ∧ x.required = x.loading + x.drop ∧ ∀ l, x.inFlight = some l → l = x.loading ∧ x.inService = true :=
  ⟨fun ⟨hlimits, hfloor, hceiling, hrequired, hflight⟩ => ⟨hlimits, ⟨hfloor, hceiling⟩, hrequired, hflight⟩,
    fun ⟨hlimits, ⟨hfloor, hceiling⟩, hrequired, hflight⟩ => ⟨hlimits, hfloor, hceiling, hrequired, hflight⟩⟩

theorem loadingSound_iff (r : District) : loadingSound r = true ↔ RateSound r.rate := by
  rw [rateSound_iff]
  unfold loadingSound
  cases hl : r.inFlight <;> simp [District.rate, within, hl, and_assoc]

/-- Every district's rate is sound, and the minute is one of the day. -/
def RatesSound (s : State) : Prop := (∀ d, RateSound (s.rates.1 d)) ∧ s.rates.2 ≤ 1439

theorem ratesSound_iff (s : State) : loadingsSound s.districts = true ∧ clockSound s.yard = true ↔ RatesSound s := by
  have hdistricts : loadingsSound s.districts = true ↔ ∀ d, RateSound (s.rates.1 d) := by
    unfold loadingsSound
    rw [List.all_eq_true]
    exact ⟨fun h d => (loadingSound_iff _).1 (h d (Fitting.mem_districtIds d)), fun h d _ => (loadingSound_iff _).2 (h d)⟩
  rw [hdistricts, clockSound, decide_eq_true_iff]
  rfl

theorem RatesSound.of_rates {s t : State} (hs : RatesSound s) (h : t.rates = s.rates) : RatesSound t := by
  unfold RatesSound
  rw [h]
  exact hs

theorem RatesSound.district {s : State} (hs : RatesSound s) (d : DistrictId) : RateSound (s.district d).rate := hs.1 d

theorem RatesSound.modDistrict {s : State} {d : DistrictId} {f : District → District} (hs : RatesSound s)
    (h : RateSound (f (s.district d)).rate) : RatesSound (s.modDistrict d f) := by
  refine ⟨fun e => ?_, hs.2⟩
  by_cases he : e = d
  · subst he
    show RateSound ((s.modDistrict e f).district e).rate
    rwa [State.district_modDistrict_self]
  · show RateSound ((s.modDistrict d f).district e).rate
    rw [State.district_modDistrict_ne _ _ he]
    exact hs.1 e

theorem RatesSound.modYard {s : State} {f : Yard → Yard} (hs : RatesSound s) (h : (f s.yard).minute ≤ 1439) :
    RatesSound (s.modYard f) := ⟨hs.1, h⟩

/-! ### Loadings delivered and withdrawn -/

theorem rateSound_withdrawn {r u : District} (hr : RateSound r.rate)
    (hu : u.rate = { r.rate with inFlight := none, inService := u.rate.inService }) :
    RateSound u.rate := by
  rw [hu]
  exact ⟨hr.limits, hr.floor, hr.ceiling, hr.required, fun l hl => by cases hl⟩

/-- The loading in force goes in flight in a district in service (04 R72). -/
theorem rateSound_placed {r : District} (hr : RateSound r.rate) (hin : r.state.inService = true) :
    RateSound ({ r with inFlight := some r.loading } : District).rate :=
  ⟨hr.limits, hr.floor, hr.ceiling, hr.required, fun _ hl => ⟨(Option.some.inj hl).symm, hin⟩⟩

/-- Values worked again lie within their limits (04 R71). -/
theorem rateSound_recompute {r : District} (hle : r.floor ≤ r.ceiling)
    (hflight : ∀ l, r.inFlight = some l → l = r.recompute.loading ∧ r.state.inService = true) : RateSound r.recompute.rate :=
  ⟨hle, (Quantities.clampTo_mem _ hle).1, (Quantities.clampTo_mem _ hle).2, rfl, hflight⟩

section
variable {s : State} {d : DistrictId} (hs : RatesSound s)

include hs

theorem RatesSound.placeLoading (hin : (s.district d).state.inService = true) : RatesSound (placeLoading d s) := by
  rw [placeLoading_eq]
  exact (hs.modDistrict (rateSound_placed (hs.district d) hin)).of_rates (rates_setLoadingCommand ..)

theorem RatesSound.withdrawLoading : RatesSound (withdrawLoading d s) := by
  rw [withdrawLoading_eq]
  exact (hs.modDistrict (rateSound_withdrawn (hs.district d) rfl)).of_rates (rates_setLoadingCommand ..)

/-- A district comes into service with a state its feeds give it (04 R72, R84, R86). -/
theorem RatesSound.enterService : RatesSound (enterService d s) := by
  have hin : (judgedState s (s.district d)).inService = true := by
    rw [judgedState_eq]
    exact stateOfFeeds_inService ..
  have hrate := hs.district d
  have hjudged : RatesSound (takeJudged d s) := by
    rw [takeJudged_eq]
    refine RatesSound.of_rates (s := s.modDistrict d (entering (judgedState s (s.district d)))) (hs.modDistrict ?_) rfl
    exact ⟨hrate.limits, hrate.floor, hrate.ceiling, hrate.required, fun l hl => ⟨(hrate.inFlight l hl).1, hin⟩⟩
  refine hjudged.placeLoading ?_
  rw [takeJudged_eq]
  show ((s.modDistrict d (entering (judgedState s (s.district d)))).district d).state.inService = true
  rw [State.district_modDistrict_self]
  exact hin

/-! ### Values that change -/

/-- A change of a district's values that leaves its state and what is in flight (04 R71, R72). -/
theorem RatesSound.adjustDistrict {f : District → District} (hle : (f (s.district d)).floor ≤ (f (s.district d)).ceiling)
    (hstate : (f (s.district d)).state = (s.district d).state) (hflight : (f (s.district d)).inFlight = (s.district d).inFlight) :
    RatesSound (adjustDistrict d f s) := by
  have hrate := hs.district d
  have hadjusted : RateSound (DistrictWork.adjusted f (s.district d)).rate := by
    refine rateSound_recompute (r := { f (s.district d) with
      inFlight := (DistrictWork.adjusted f (s.district d)).inFlight }) hle fun l hl => ?_
    by_cases hmoved : (f (s.district d)).state.inService = true ∧ (f (s.district d)).recompute.loading ≠ (s.district d).loading
    · simp only [DistrictWork.adjusted, if_pos hmoved] at hl
      exact ⟨(Option.some.inj hl).symm, hmoved.1⟩
    · simp only [DistrictWork.adjusted, if_neg hmoved, hflight] at hl
      obtain ⟨hsame, hin⟩ := hrate.inFlight l hl
      have hin' : (f (s.district d)).state.inService = true := by rw [hstate]; exact hin
      have hloading : (f (s.district d)).recompute.loading = (s.district d).loading := by
        by_contra hne
        exact hmoved ⟨hin', hne⟩
      exact ⟨hsame.trans hloading.symm, hin'⟩
  have hdelivered : RatesSound (delivered d f s) := by
    unfold delivered
    split
    · exact (hs.modDistrict hadjusted).of_rates (rates_setLoadingCommand ..)
    · exact hs.modDistrict hadjusted
  rw [adjustDistrict_eq]
  split
  · exact hdelivered.of_rates (rates_evaluate ..)
  · exact hdelivered

theorem RatesSound.judgeDistrictSchedule : RatesSound (judgeDistrictSchedule s d) := by
  unfold Machine.judgeDistrictSchedule
  dsimp only
  split
  · exact hs
  · exact hs.adjustDistrict (hs.district d).limits rfl rfl

end

theorem RatesSound.foldl {α : Type} {f : State → α → State} (hf : ∀ s a, RatesSound s → RatesSound (f s a)) (l : List α)
    {s : State} (hs : RatesSound s) : RatesSound (l.foldl f s) := by
  induction l generalizing s with
  | nil => exact hs
  | cons a l ih => exact ih (hf s a hs)

theorem RatesSound.takeMinute {s : State} (hs : RatesSound s) : RatesSound (takeMinute s) := by
  have hjudged : RatesSound (districtIds.foldl Machine.judgeDistrictSchedule s) :=
    RatesSound.foldl (fun _ _ hs => hs.judgeDistrictSchedule) districtIds hs
  unfold Machine.takeMinute
  exact hjudged.of_rates (rates_runOccasions _)

theorem RatesSound.setClock {s : State} (hs : RatesSound s) (day minute : Nat) : RatesSound (setClock day minute s).2 := by
  unfold Machine.setClock
  split
  · rename_i hle
    have hset : RatesSound (s.modYard fun y => { y with day := day, minute := minute }) := hs.modYard hle
    dsimp only
    exact hset.takeMinute
  · exact hs

theorem tickMinute_le (y : Yard) : y.tickMinute.minute ≤ 1439 := by
  unfold Yard.tickMinute
  split
  · show y.minute + 1 ≤ 1439
    omega
  · exact Nat.zero_le _

/-! ### Station replies -/

section
variable {s : State} (hs : RatesSound s) (d : DistrictId)

include hs

theorem RatesSound.telltaleReply (p : Nat) : RatesSound (telltaleReply d p s) := by
  have hcompensate (r : District) : (compensate p r).rate = r.rate := by
    unfold compensate
    repeat' split
    all_goals rfl
  have hvalues (r : District) : (compensate p r).floor = r.floor ∧ (compensate p r).ceiling = r.ceiling
      ∧ (compensate p r).state = r.state ∧ (compensate p r).inFlight = r.inFlight := by
    unfold compensate
    repeat' split
    all_goals exact ⟨rfl, rfl, rfl, rfl⟩
  unfold Machine.telltaleReply
  split
  · split
    · exact hs.of_rates (rates_modDistrict (hcompensate _))
    · obtain ⟨hfloor, hceiling, hstate, hflight⟩ := hvalues (s.district d)
      refine (hs.adjustDistrict ?_ hstate hflight).of_rates (rates_runOccasions _)
      rw [hfloor, hceiling]
      exact (hs.district d).limits
  · exact hs

theorem RatesSound.takeEcho (echo : Option Nat) : RatesSound (takeEcho d echo s) := by
  unfold Machine.takeEcho
  dsimp only
  split
  · split
    · exact (hs.of_rates (rates_modDistrict rfl)).withdrawLoading
    · exact hs
  · split
    · rename_i h
      exact hs.placeLoading h.1
    · exact hs

/-- A trip takes the district from service, and its loading is withdrawn (04 R83). -/
theorem RatesSound.takeTrip (trip : Bool) : RatesSound (takeTrip d trip s) := by
  unfold Machine.takeTrip
  split
  · rw [withdrawLoading_eq, State.modDistrict_modDistrict]
    exact (hs.modDistrict (rateSound_withdrawn (hs.district d) rfl)).of_rates (rates_setLoadingCommand ..)
  · exact hs

theorem RatesSound.governorReply (g : GovernorReading) : RatesSound (governorReply d g s) := (hs.takeEcho d g.echo).takeTrip d g.trip

end

/-! ### Requests on a district -/

section
variable {s : State} (hs : RatesSound s) (n : Nat)

include hs

theorem RatesSound.onDistrict {f : DistrictId → Result × State} (hf : ∀ d, RatesSound (f d).2) : RatesSound (onDistrict n s f).2 := by
  unfold Machine.onDistrict
  split
  · exact hs
  · exact hf _

omit n in
theorem RatesSound.ite {p : Prop} [Decidable p] {refused : Result} {taken : Result × State} (ht : RatesSound taken.2) :
    RatesSound (if p then (refused, s) else taken).2 := by
  split
  · exact hs
  · exact ht

theorem RatesSound.districtIn : RatesSound (districtIn n s).2 := by
  refine hs.onDistrict n fun d => ?_
  split
  · exact hs
  · exact hs.ite (hs.enterService.of_rates (rates_runOccasions _))
  · exact hs

theorem RatesSound.districtRestore : RatesSound (districtRestore n s).2 := by
  refine hs.onDistrict n fun d => ?_
  split
  · exact hs.enterService.of_rates (rates_runOccasions _)
  · exact hs

theorem RatesSound.districtOut : RatesSound (districtOut n s).2 := by
  refine hs.onDistrict n fun d => ?_
  repeat' split
  · exact hs
  · exact hs
  · rw [withdrawLoading_eq, modDistrict_setLoadingCommand, State.modDistrict_modDistrict]
    refine RatesSound.of_rates (hs.modDistrict ?_) (rates_setLoadingCommand ..)
    exact rateSound_recompute (r := { s.district d with state := .out, acked := none, ttLow := false, comp := 0, inFlight := none })
      (hs.district d).limits fun l hl => by cases hl

omit hs n in
/-- The fields a request stores have their floor at or below their ceiling (04 R64). -/
theorem districtSettings_limits {r new : District} {f : DistrictSettings} {acted : Bool}
    (h : districtSettings s r f = .inr (new, acted)) : new.floor ≤ new.ceiling ∧ new.state = r.state ∧ new.inFlight = r.inFlight := by
  unfold districtSettings at h
  dsimp only at h
  repeat' split at h
  all_goals cases h
  rename_i hle
  exact ⟨Nat.not_lt.1 hle, rfl, rfl⟩

theorem RatesSound.setDistrict (f : DistrictSettings) : RatesSound (setDistrict n f s).2 := by
  refine hs.onDistrict n fun d => ?_
  dsimp only
  split
  · exact hs
  · rename_i _ new acted h
    obtain ⟨hle, hstate, hflight⟩ := districtSettings_limits h
    refine RatesSound.of_rates ?_ (rates_runOccasions _)
    have hadjusted : RatesSound (evaluate d (Machine.adjustDistrict d
        (fun _ => { new with comp := min new.comp new.compMax }.judgeSchedule s.yard.minute) s)) :=
      (hs.adjustDistrict hle hstate hflight).of_rates (rates_evaluate ..)
    split
    · exact hadjusted.of_rates (rates_occasion ..)
    · exact hadjusted

end

/-! ### Resets -/

/-- A district as a reset leaves it: its values worked again, and nothing in flight (04 R62, R65). -/
theorem rateSound_afterReset {r : District} (minute : Nat) (hle : r.floor ≤ r.ceiling) : RateSound (r.afterReset minute).rate :=
  rateSound_recompute (r := { r.judgeSchedule minute with
    inFlight := none, state := if r.state.inService then .starved else r.state }) hle fun l hl => by cases hl

theorem district_mapEight (f : District → District) (v : Vector District 8) (d : DistrictId) : (mapEight f v)[d] = f v[d] := by
  fin_cases d <;> rfl

theorem RatesSound.replaceLoading {s : State} (hs : RatesSound s) (d : DistrictId) : RatesSound (replaceLoading s d) := by
  unfold Machine.replaceLoading
  split
  · rename_i hin
    exact hs.placeLoading hin
  · exact hs

/-- A reset leaves each district as it does, and the clock as it was (04 R62, R65, R67). -/
theorem RatesSound.afterReset {s t : State} (hs : RatesSound s)
    (hd : ∀ d, t.district d = (s.district d).afterReset s.yard.minute) (hm : t.yard.minute = s.yard.minute) : RatesSound t := by
  refine ⟨fun d => ?_, hm.trans_le hs.2⟩
  show RateSound (t.district d).rate
  rw [hd]
  exact rateSound_afterReset _ (hs.district d).limits

theorem RatesSound.resetPart {s : State} (hs : RatesSound s) (cause : RestartCause) : RatesSound (resetPart cause s) := by
  unfold Machine.resetPart
  dsimp only
  refine RatesSound.of_rates ?_ (rates_nextTurn ..)
  refine RatesSound.foldl (fun _ d hs => hs.replaceLoading d) districtIds ?_
  exact hs.afterReset (fun d => district_mapEight _ s.districts d) rfl

theorem RatesSound.yardReset {s : State} (hs : RatesSound s) (tag : Byte) : RatesSound (yardReset tag s) := by
  unfold Machine.yardReset
  refine RatesSound.of_rates (RatesSound.resetPart ?_ _) (rates_respond ..)
  exact hs.of_rates ((rates_completeServed _).trans (rates_abortStack s))

theorem ratesSound_reset : RatesSound State.reset := (ratesSound_iff _).1 (by decide)

theorem RatesSound.powerOn {s : State} (hs : RatesSound s) (batteryLow : Bool) (found : StateFlaw) :
    RatesSound (powerOn batteryLow found s) := by
  unfold Machine.powerOn
  split
  · dsimp only
    split <;> exact ratesSound_reset.of_rates rfl
  · refine RatesSound.resetPart (hs.of_rates ?_) _
    show (if s.running then completeServed s else s.modLine fun l => { l with exchange := none, tx := [] }).rates = s.rates
    split
    · exact rates_completeServed s
    · rfl

/-! ### Requests and commands -/

theorem RatesSound.startRequest {s : State} (hs : RatesSound s) (q : Request) : RatesSound (startRequest q s).2 := by
  cases q with
  | setDistrict n f => exact hs.setDistrict n f
  | districtIn n => exact hs.districtIn n
  | districtOut n => exact hs.districtOut n
  | districtRestore n => exact hs.districtRestore n
  | setClock day minute => exact hs.setClock day minute
  | _ =>
    refine hs.of_rates ?_
    simp [Machine.startRequest, atOnce, lookBooking, lookStore, lookYard, lookLink, readAttention]

theorem RatesSound.startHead {s : State} (hs : RatesSound s) (h : Stacked) : RatesSound (startHead h s).2 := by
  unfold Machine.startHead
  split
  · exact RatesSound.startRequest (s := markStarted s) hs _
  · exact hs

/-- Requests start as they become the head: induction on the starts within one event (11 R194). -/
theorem RatesSound.runStack {s : State} (hs : RatesSound s) (n : Nat) : RatesSound (runStack n s) := by
  induction n generalizing s with
  | zero => exact hs
  | succ n ih =>
    unfold Machine.runStack
    split
    · exact hs
    · rename_i h _ _
      split
      · exact hs
      · have hstart := hs.startHead h
        split
        · rename_i result fields t ht
          rw [ht] at hstart
          exact ih (hstart.of_rates (rates_answerHead t h result fields))
        · rename_i w t ht
          rw [ht] at hstart
          exact hstart.of_rates (rates_awaitHead t w)

theorem RatesSound.immediate {s t : State} (hs : RatesSound s) {tag : Byte} {q : Request} (h : immediate tag q s = some t) :
    RatesSound t := by
  cases q <;> simp only [Machine.immediate, Option.some.injEq, reduceCtorEq] at h <;> subst h
  case yardReset => exact hs.yardReset tag
  all_goals exact hs.of_rates (by simp)

theorem RatesSound.requestArrives {s : State} (hs : RatesSound s) (tag : Byte) (q : Request) : RatesSound (requestArrives tag q s) := by
  unfold Machine.requestArrives
  split
  · exact hs
  · split
    · rename_i t ht
      exact hs.immediate ht
    · unfold stackRequest
      split
      · exact hs
      · exact RatesSound.runStack (s := s.modRex _) hs _

theorem RatesSound.headAccessEnds {s : State} (hs : RatesSound s) (kind : HeadWork → Bool) : RatesSound (headAccessEnds kind s) := by
  unfold Machine.headAccessEnds
  split
  · rename_i g h w _ _
    split
    · refine RatesSound.of_rates ?_ (rates_release _)
      have hw : RatesSound (workAccess g h.request w s).2 := hs.of_rates (rates_workAccess s g h.request w)
      unfold headGoesOn
      split
      · rename_i result fields t ht
        rw [ht] at hw
        exact RatesSound.runStack (hw.of_rates (rates_answerHead t h result fields)) _
      · rename_i w' t ht
        rw [ht] at hw
        exact hw.of_rates (rates_awaitHead t w')
    · exact hs
  · exact hs

theorem RatesSound.linkByte {s : State} (hs : RatesSound s) (b : Byte) : RatesSound (linkByte s b) := by
  have hrx : RatesSound (s.modRex fun x => { x with rx := (linkForm.step s.rex.rx b).1 }) := hs
  unfold Machine.linkByte
  dsimp only
  split
  · unfold judgeLink
    dsimp only
    repeat' split
    all_goals first | exact hrx | exact hrx.requestArrives _ _
  · exact hrx

theorem RatesSound.whenRunning {s t : State} {f : State → State} (hs : RatesSound s) (hf : RatesSound (f s))
    (h : whenRunning s f = .next t) : RatesSound t := by
  rw [whenRunning_next] at h
  cases h
  split
  · exact hf
  · exact hs

theorem RatesSound.kept {s t : State} {f : State → State} (hs : RatesSound s) (hf : (f s).rates = s.rates)
    (h : Machine.whenRunning s f = .next t) : RatesSound t := hs.whenRunning (hs.of_rates hf) h

theorem RatesSound.storeCommand {s t : State} {flaws : List Flaw} {f : State → State} (hs : RatesSound s)
    (hf : ∀ u, RatesSound u → RatesSound (f u)) (h : storeCommand flaws s f = .next t) : RatesSound t := by
  have hflaws : RatesSound (s.modRst fun r => r.addFlaws flaws) := hs
  exact hflaws.whenRunning (hf _ hflaws) h

theorem RatesSound.bookingCommand {s t : State} {flaws : List Flaw} {kind : Phase → Bool} {work : Grant → InHand → State → State}
    (hs : RatesSound s) (hw : ∀ g h s, (work g h s).rates = s.rates)
    (h : Machine.storeCommand flaws s (bookingAccessEnds kind work) = .next t) : RatesSound t :=
  hs.storeCommand (fun u hu => hu.of_rates (rates_bookingAccessEnds u hw)) h

/-- Every command keeps every loading within its limits (04 R71, R72). -/
theorem RatesSound.exec {i : Instr} {s t : State} (hs : RatesSound s) (h : exec i s = .next t) : RatesSound t := by
  cases hq : i.request with
  | some p =>
    rw [exec_of_request hq] at h
    exact hs.whenRunning (hs.requestArrives _ _) h
  | none =>
    cases i <;> simp only [Instr.request, reduceCtorEq] at hq <;>
      simp only [Machine.exec, execPowerOn, execSupplyFail, execLinkFrame, execResponseSent, execPollSent, execLineFrameEnd,
      execReplyWaitExpiry, execLineDeadNotice, execLineAliveNotice, execCrownReply, execMoveTimerExpiry,
      execCrownSilentNotice, execAutomaticDraw, execAutoJoinAnswer, execHolderValuesNotice, execJoinPendingNotice,
      execJoinNotice, execLeaveNotice, execWithdrawPendingNotice, execRemoveNotice, execStandingNotice,
      execMinuteEvent, execGovernorReply, execTelltaleReply, execGovernorSilentNotice, execTelltaleSilentNotice,
      execBarometerReply, execMeterReply, execWalkTableRead, execWalkFlagAccess, execCommitAccess,
      execBookedFlagAccess, execDirectoryAccessEnd, execAccountRequestAccess, execRetireScanRead,
      execRetireFinalAccess, execCloseScanAccess, execBookedPassAccess, execBalanceRead, execLookPointRead,
      execScrubTimerExpiry, execScrubCheck, execRetireCheckAccess] at h
    case powerOn a b =>
      cases h
      exact hs.powerOn a b
    case supplyFail => exact hs.kept (f := supplyFails) (rates_completeServed s) h
    case linkFrame bytes => exact hs.whenRunning (RatesSound.foldl (fun _ b hs => hs.linkByte b) bytes hs) h
    case responseSent => exact hs.kept rfl h
    case pollSent => exact hs.kept rfl h
    case lineFrameEnd bytes => exact hs.kept (rates_foldl rates_lineByte _ _) h
    case replyWaitExpiry => exact hs.kept (by simp) h
    case lineDeadNotice => exact hs.kept (by simp) h
    case lineAliveNotice => exact hs.kept rfl h
    case crownReply k c => exact hs.kept (by simp) h
    case moveTimerExpiry k => exact hs.kept (by simp) h
    case crownSilentNotice k => exact hs.kept (by simp) h
    case automaticDraw k d => exact hs.kept (by simp) h
    case autoJoinAnswer k d r => exact hs.kept (by simp) h
    case holderValuesNotice n => exact hs.kept (by simp) h
    case joinPendingNotice n d => exact hs.kept (by simp) h
    case joinNotice n d => exact hs.kept (by simp) h
    case leaveNotice n => exact hs.kept (by simp) h
    case withdrawPendingNotice n d => exact hs.kept (by simp) h
    case removeNotice n => exact hs.kept (by simp) h
    case standingNotice n => exact hs.kept (by simp) h
    case minuteEvent =>
      have htick : RatesSound (s.modYard Yard.tickMinute) := hs.modYard (tickMinute_le s.yard)
      exact htick.whenRunning htick.takeMinute h
    case governorReply d r => exact hs.whenRunning (RatesSound.governorReply (s := s.taken _) hs d r) h
    case telltaleReply d p => exact hs.whenRunning (RatesSound.telltaleReply (s := s.taken _) hs d p) h
    case governorSilentNotice d => exact hs.kept (rates_modDistrict rfl) h
    case telltaleSilentNotice d => exact hs.kept rfl h
    case barometerReply v => exact hs.kept rfl h
    case meterReply a r => exact hs.kept (by simp) h
    case walkTableRead flaws => exact hs.bookingCommand (fun g h s => rates_walkWork s g h) h
    case walkFlagAccess flaws => exact hs.bookingCommand (fun g h s => rates_walkWork s g h) h
    case commitAccess flaws => exact hs.bookingCommand (fun g h s => rates_commitWork s g h) h
    case bookedFlagAccess flaws => exact hs.bookingCommand (fun g h s => rates_markWork s g h) h
    case scrubTimerExpiry => exact hs.kept (by simp) h
    case scrubCheck flaws =>
      refine hs.storeCommand (fun u hu => hu.of_rates ?_) h
      split <;> simp
    all_goals exact hs.storeCommand (fun u hu => hu.headAccessEnds _) h

/-- Settles O9: the queue's front command keeps every loading sound, and the minute one of the day. -/
theorem loadingsStayWithinTheirLimits : Obligations.LoadingsStayWithinTheirLimits := by
  unfold Obligations.LoadingsStayWithinTheirLimits
  intro s t hloadings hclock h
  have hs := (ratesSound_iff s).1 ⟨hloadings, hclock⟩
  rw [ratesSound_iff]
  unfold Machine.step at h
  split at h
  · cases h
    exact hs
  · rename_i rest _
    have hrest : RatesSound { s with pending := rest } := hs
    exact hrest.exec h

end Sys2Proof.Loadings

/-! PROOFS. The walk of the meter directory (05 R93 to R98, 06 R119, R120, R127; O58): what each access of a walk finds, how the walk
goes on from a descriptor or a leaf, how it ends, and the mark that ends a booking's cycle. -/

namespace Sys2Proof.Walks

open Sys2Proof.Machine Sys2Proof.Safety

/-! ### How BKE goes on behind an access -/

/-- BKE's access is being served, and neither its own next one nor REX's waits (08 R163). -/
structure Granted (x : State) : Prop where
  serving : x.rst.arbiter.serving.isSome = true
  bkeWaits : x.rst.arbiter.bkeWaits = false
  rexWaits : x.rst.arbiter.rexWaits = false

/-- Only the arbiter says whether BKE's access is being served (08 R163). -/
theorem Granted.of_arbiter {s x : State} (hs : Granted s) (ha : x.rst.arbiter = s.rst.arbiter) : Granted x :=
  ⟨by rw [ha]; exact hs.serving, by rw [ha]; exact hs.bkeWaits, by rw [ha]; exact hs.rexWaits⟩

/-- A booking cache with an entry as its most recent (06 R120). -/
def cacheWith (e : CacheEntry) (cache : List CacheEntry) : List CacheEntry :=
  e :: (cache.filter fun c => decide (c.point ≠ e.point)).take 15

section

variable {x : State} (hx : Granted x) (h : InHand) {w : Walk}

include hx

theorem release_awaitLevel (w : Walk) (level : WalkLevel) :
    release (awaitLevel h w level x) = bookingContinues x h (.resolving { w with level := level }) :=
  release_setPhase hx.serving hx.bkeWaits hx.rexWaits fun _ _ he => by cases he

theorem release_conclude (r : Resolution) : release (conclude h (some r) x) = bookingContinues x h (.committing (some r) false) :=
  release_setPhase hx.serving hx.bkeWaits hx.rexWaits fun _ _ he => by cases he; rfl

/-- A walk that has become stale is worked again, whatever its outcome (06 R122). -/
theorem release_walkEnds_of_stale (hw : w.stale = true) (r : Resolution) : release (walkEnds h w r x) = resolvedTo x h := by
  simp only [walkEnds, hw, if_true, release_resolve hx.serving hx.bkeWaits hx.rexWaits]

/-- A fresh walk ends NO-ROUTE (05 R98). -/
theorem release_walkEnds_noRoute (hw : w.stale = false) (why : NoRoute) :
    release (walkEnds h w (.noRoute why) x) = bookingContinues x h (.committing (some (.noRoute why)) false) := by
  simp only [walkEnds, hw, Bool.false_eq_true, if_false, release_conclude hx]

/-- A fresh walk ends at an account, which is cached (05 R98, 06 R120). -/
theorem release_walkEnds_account (hw : w.stale = false) (slot : Nat) (barred global : Bool) (origin : Origin) :
    release (walkEnds h w (.account slot barred global origin) x)
      = bookingContinues { x with bke := { x.bke with cache := cacheWith ⟨w.point, slot, barred, global⟩ x.bke.cache } } h
          (.committing (some (.account slot barred global origin)) false) := by
  simp only [walkEnds, hw, Bool.false_eq_true, if_false]
  exact release_conclude (x := x.modBke (·.remember ⟨w.point, slot, barred, global⟩)) (hx.of_arbiter rfl) h _

/-- An INDIRECT leaf passes the walk to the root of its target's path (05 R95, R96). -/
theorem release_followIndirect {p u : Nat} (hroot : (x.district (pointDistrict p)).root.table = some u) (own : LeafRef) :
    release (followIndirect h w own p x)
      = bookingContinues (x.modDistrict (pointDistrict p) fun r => { r with root := { r.root with used := true } }) h
          (.resolving { w with
            level := .mainRead u, target := some p, own := some own
            barred := w.barred || (x.district (pointDistrict p)).root.barred }) := by
  simp only [followIndirect, hroot]
  exact release_awaitLevel (x := useRoot (pointDistrict p) x) (hx.of_arbiter rfl) h _ _

/-- A target without a path ends the walk BAD-INDIRECT (05 R95). -/
theorem release_followIndirect_of_none {p : Nat} (hw : w.stale = false)
    (hroot : (x.district (pointDistrict p)).root.table = none) (own : LeafRef) :
    release (followIndirect h w own p x) = bookingContinues x h (.committing (some (.noRoute .badIndirect)) false) := by
  simp only [followIndirect, hroot]
  exact release_walkEnds_noRoute hx _ (w := { w with target := some p, own := some own }) hw _

end

/-! ### How a walk goes on from what its access found -/

section

variable (h : InHand) {w : Walk} {t next : Nat} {found : Found} {s : State}

theorem walkGoesOn_mainRead_of_table (hl : w.level = .mainRead t) (hd : (s.rst.desc t (mainIndex w.here)).table = some next) :
    walkGoesOn h w .contents s = awaitLevel h { w with barred := w.barred || (s.rst.desc t (mainIndex w.here)).barred }
      (if (s.rst.desc t (mainIndex w.here)).used = true then .pointRead next else .mainFlag t next) s := by
  simp [walkGoesOn, hl, hd]

theorem walkGoesOn_mainRead_of_none (hl : w.level = .mainRead t) (hd : (s.rst.desc t (mainIndex w.here)).table = none) :
    walkGoesOn h w .contents s
      = walkEnds h { w with barred := w.barred || (s.rst.desc t (mainIndex w.here)).barred } (w.fails .invalidMain) s := by
  simp [walkGoesOn, hl, hd, Walk.fails]

/-- A read that finds its table damaged ends the walk (05 R97). -/
theorem walkGoesOn_read_of_damaged (hl : w.level = .mainRead t ∨ w.level = .pointRead t) (hf : found ≠ .contents) :
    walkGoesOn h w found s = walkEnds h w (.noRoute .damaged) s := by
  rcases hl with hl | hl <;> simp [walkGoesOn, hl, hf]

/-- The leaf read is passed by the walk: an ACCOUNT leaf, and on the point's own path an INDIRECT one (05 R94, R95; log entry 41). -/
def Passes (w : Walk) (l : Leaf) : Prop := (∃ slot, l.kind = .account slot) ∨ (w.target = none ∧ ∃ p, l.kind = .indirect p)

/-- A leaf passed, whose USED is set, is where the walk turns or ends (05 R94, R96). -/
theorem walkGoesOn_pointRead_of_used {l : Leaf} (hl : w.level = .pointRead t) (he : l = s.rst.leaf t (pointIndex w.here))
    (hp : Passes w l) (hu : l.used = true) :
    walkGoesOn h w .contents s = passLeaf h { w with barred := w.barred || l.barred } t l s := by
  subst he
  rcases hp with ⟨slot, hk⟩ | ⟨ht, p, hk⟩
  · simp [walkGoesOn, hl, hk, hu]
  · simp [walkGoesOn, hl, hk, hu, ht]

/-- A leaf passed, whose USED is clear, has it set first (05 R96). -/
theorem walkGoesOn_pointRead_of_unused {l : Leaf} (hl : w.level = .pointRead t) (he : l = s.rst.leaf t (pointIndex w.here))
    (hp : Passes w l) (hu : l.used = false) :
    walkGoesOn h w .contents s = awaitLevel h { w with barred := w.barred || l.barred } (.leafFlag t l) s := by
  subst he
  rcases hp with ⟨slot, hk⟩ | ⟨ht, p, hk⟩
  · simp [walkGoesOn, hl, hk, hu]
  · simp [walkGoesOn, hl, hk, hu, ht]

/-- A leaf that is not passed ends the walk (05 R94, R95). -/
theorem walkGoesOn_pointRead_of_unpassed (hl : w.level = .pointRead t)
    (hp : ¬ Passes w (s.rst.leaf t (pointIndex w.here))) :
    walkGoesOn h w .contents s = walkEnds h w (w.fails .invalidLeaf) s := by
  cases hk : (s.rst.leaf t (pointIndex w.here)).kind with
  | account slot => exact absurd (.inl ⟨slot, hk⟩) hp
  | invalid => simp [walkGoesOn, hl, hk]
  | indirect p =>
    have ht : w.target.isNone = false := by
      cases ht : w.target with
      | none => exact absurd (.inr ⟨ht, p, hk⟩) hp
      | some q => rfl
    simp [walkGoesOn, hl, hk, ht]

theorem walkGoesOn_mainFlag (hl : w.level = .mainFlag t next) (hf : found ≠ .uncorrectable) :
    walkGoesOn h w found s = awaitLevel h w (.pointRead next) s := by
  simp [walkGoesOn, hl, hf]

theorem walkGoesOn_leafFlag {l : Leaf} (hl : w.level = .leafFlag t l) (hf : found ≠ .uncorrectable) :
    walkGoesOn h w found s = passLeaf h w t l s := by
  simp [walkGoesOn, hl, hf]

end

/-! ### Flag accesses -/

/-- A read that finds contents leaves what `ReadsAs` says (08 R155). -/
theorem judge_of_readsAs {s y : State} {n : Nat} (own : Bool) (period : Nat) (h : ReadsAs s n y) :
    judge own period n s = (.contents, y) := by
  obtain ⟨hd, ⟨hf, rfl⟩ | ⟨hf, rfl⟩⟩ := h
  · exact judge_of_clean hd hf
  · exact judge_of_correctable hd hf

/-- A read that finds contents leaves the tables and everything outside the store (08 R155). -/
theorem readsAs_kept {s y : State} {n : Nat} (h : ReadsAs s n y) :
    y = { s with rst := { y.rst with mains := s.rst.mains, points := s.rst.points, arbiter := s.rst.arbiter } } := by
  obtain ⟨-, ⟨-, rfl⟩ | ⟨-, rfl⟩⟩ := h <;> rfl

/-- What a flag access leaves: the change made behind a read that finds contents and a descriptor still as it was, the read alone where
the descriptor is another, and nothing where the table is marked damaged (05 R92, 08 R158). -/
def FlagLeft (s : State) (n : Nat) (same : Prop) (f : Rst → Rst) (x : State) : Prop :=
  (∃ y, ReadsAs s n y ∧ same ∧ x = { y with rst := f y.rst }) ∨ (ReadsAs s n x ∧ ¬ same) ∨ (s.rst.isDamaged n = true ∧ x = s)

/-- A flag access outside an uncorrectable read (05 R92). -/
theorem flagAccess_of_flagLeft {s x : State} {n : Nat} {same : Prop} {f f' : Rst → Rst} (own : Bool) (period : Nat)
    (hx : FlagLeft s n same f x) (hsame : same → ∀ y, ReadsAs s n y → f' y.rst = f y.rst)
    (hother : ¬ same → ∀ y, ReadsAs s n y → f' y.rst = y.rst) :
    ∃ found, found ≠ .uncorrectable ∧ flagAccess own period n f' s = (found, x) := by
  rcases hx with ⟨y, hy, hs, rfl⟩ | ⟨hx, hs⟩ | ⟨hd, rfl⟩
  · exact ⟨.contents, by simp, by simp only [flagAccess, judge_of_readsAs own period hy, State.modRst, hsame hs y hy]⟩
  · exact ⟨.contents, by simp, by simp only [flagAccess, judge_of_readsAs own period hx, State.modRst, hother hs x hx]⟩
  · exact ⟨.damaged, by simp, by simp only [flagAccess, judge_of_damaged hd]⟩

/-- A flag access on a main descriptor (05 R92, R96). -/
theorem flagAccess_flagMain {s x : State} {t i next : Nat} (own : Bool) (period : Nat)
    (hx : FlagLeft s (mainSlot t) ((s.rst.desc t i).table = some next)
      (fun r => r.putDesc t i { s.rst.desc t i with used := true }) x) :
    ∃ found, found ≠ .uncorrectable ∧ flagAccess own period (mainSlot t) (flagMain t i next) s = (found, x) := by
  have hdesc (y : State) (hy : ReadsAs s (mainSlot t) y) : y.rst.desc t i = s.rst.desc t i := by
    rw [readsAs_kept hy]; rfl
  refine flagAccess_of_flagLeft own period hx (fun hs y hy => ?_) fun hs y hy => ?_
  · simp only [flagMain, hdesc y hy, if_pos hs]
  · simp only [flagMain, hdesc y hy, if_neg hs]

/-- A flag access on a leaf (05 R92). -/
theorem flagAccess_flagLeaf {s x : State} {ref : LeafRef} {f : Leaf → Leaf} (own : Bool) (period : Nat)
    (hx : FlagLeft s (pointSlot ref.table) ((s.rst.leaf ref.table ref.index).kind = ref.kind)
      (fun r => r.putLeaf ref.table ref.index (f (s.rst.leaf ref.table ref.index))) x) :
    ∃ found, found ≠ .uncorrectable ∧ flagAccess own period (pointSlot ref.table) (flagLeaf ref f) s = (found, x) := by
  have hleaf (y : State) (hy : ReadsAs s (pointSlot ref.table) y) :
      y.rst.leaf ref.table ref.index = s.rst.leaf ref.table ref.index := by
    rw [readsAs_kept hy]; rfl
  refine flagAccess_of_flagLeft own period hx (fun hs y hy => ?_) fun hs y hy => ?_
  · simp only [flagLeaf, hleaf y hy, if_pos hs]
  · simp only [flagLeaf, hleaf y hy, if_neg hs]

/-- A flag access leaves everything outside the store, and the arbiter (05 R92). -/
theorem flagLeft_kept {s x : State} {n : Nat} {same : Prop} {f : Rst → Rst} (hf : ∀ r, (f r).arbiter = r.arbiter)
    (hx : FlagLeft s n same f x) : x = { s with rst := x.rst } ∧ x.rst.arbiter = s.rst.arbiter := by
  rcases hx with ⟨y, hy, -, rfl⟩ | ⟨hx, -⟩ | ⟨-, rfl⟩
  · rw [readsAs_kept hy]
    exact ⟨rfl, hf _⟩
  · rw [readsAs_kept hx]
    exact ⟨rfl, rfl⟩
  · exact ⟨rfl, rfl⟩

/-- A walk's own access that finds damage flushes the cache and does not make the walk stale (05 R97, 08 R158). -/
theorem takeDamage_own {period n : Nat} {s : State} (hn : 256 ≤ n) :
    takeDamage true period n s = { slotDamaged s n with bke := { s.bke with cache := [] } } := by
  simp [takeDamage, slotDamaged, show n ≠ 0 by omega, show ¬ n < Config.accounts by simp only [Config.accounts]; omega,
    Rst.noteDamaged, Rst.setDamaged, State.modRst, State.modBke, flushCache, Config.maxCount]

/-! ### The accesses of a walk -/

/-- BKE's access of a walk in flight, which stands on the path of point `p`, is being served (05 R94, R95). -/
structure Walking (s : State) (g : Grant) (h : InHand) (w : Walk) (p : Nat) : Prop where
  serves : Serves s g .bke
  inHand : s.bke.inHand = some h
  phase : h.phase = .resolving w
  here : w.here = p

/-- The command by which the access of a level ends (05 R94, R96). -/
def levelCommand : WalkLevel → Instr
  | .mainRead _ | .pointRead _ => .walkTableRead []
  | .mainFlag _ _ | .leafFlag _ _ => .walkFlagAccess []

/-- The store slot of the table that the access of a level is made to (05 R91). -/
def levelSlot : WalkLevel → Nat
  | .mainRead t | .mainFlag t _ => mainSlot t
  | .pointRead t | .leafFlag t _ => pointSlot t

section

variable {s x : State} {g : Grant} {h : InHand} {w : Walk} {p t next : Nat}

theorem Walking.granted (hw : Walking s g h w p) : Granted s := by
  obtain ⟨-, hserving, -, hb, hr, -⟩ := hw.serves
  exact ⟨by rw [hserving]; rfl, hb, hr⟩

/-- The access of a level ends and the walk goes on from what it found (05 R94 to R97). -/
theorem Walking.ends (hw : Walking s g h w p) {level : WalkLevel} (hl : w.level = level) {found : Found}
    (ha : walkAccess g w s = (found, x)) : exec (levelCommand level) s = .next (release (walkGoesOn h w found x)) := by
  obtain ⟨hr, hserving, hq, -⟩ := hw.serves
  have hwork : walkWork g h s = walkGoesOn h w found x := by simp only [walkWork, hw.phase, walkAccessEnds, ha]
  have command_ends (kind : Phase → Bool) (hk : kind (.resolving w) = true) :
      storeCommand [] s (bookingAccessEnds kind walkWork) = .next (release (walkGoesOn h w found x)) := by
    rw [storeCommand_nil _ hr, bookingAccessEnds_of_serves hserving hq hw.inHand (by rw [hw.phase, hk]), hwork]
  cases level with
  | mainRead t => exact command_ends readsTable (by simp [readsTable, hl])
  | pointRead t => exact command_ends readsTable (by simp [readsTable, hl])
  | mainFlag t next => exact command_ends flagsUsed (by simp [flagsUsed, hl])
  | leafFlag t l => exact command_ends flagsUsed (by simp [flagsUsed, hl])

theorem walkAccess_mainRead (g : Grant) (s : State) (hl : w.level = .mainRead t) :
    walkAccess g w s = judge true g.period (mainSlot t) s := by
  simp only [walkAccess, hl]

theorem walkAccess_pointRead (g : Grant) (s : State) (hl : w.level = .pointRead t) :
    walkAccess g w s = judge true g.period (pointSlot t) s := by
  simp only [walkAccess, hl]

theorem walkAccess_mainFlag (g : Grant) (s : State) (hl : w.level = .mainFlag t next) :
    walkAccess g w s = flagAccess true g.period (mainSlot t) (flagMain t (mainIndex w.here) next) s := by
  simp only [walkAccess, hl]

theorem walkAccess_leafFlag (g : Grant) (s : State) {l : Leaf} (hl : w.level = .leafFlag t l) :
    walkAccess g w s = flagAccess true g.period (pointSlot t)
      (flagLeaf ⟨t, pointIndex w.here, l.kind⟩ fun l => { l with used := true }) s := by
  simp only [walkAccess, hl]

/-- An access of any level that meets a flaw it cannot correct (08 R155). -/
theorem walkAccess_of_uncorrectable (g : Grant) {level : WalkLevel} (hl : w.level = level) (hu : Uncorrectable s (levelSlot level)) :
    walkAccess g w s = (.uncorrectable, takeDamage true g.period (levelSlot level) s) := by
  have hj := judge_of_uncorrectable (own := true) (period := g.period) hu.1 hu.2
  cases level with
  | mainRead t => exact (walkAccess_mainRead g s hl).trans hj
  | pointRead t => exact (walkAccess_pointRead g s hl).trans hj
  | mainFlag t next =>
    rw [walkAccess_mainFlag g s hl, flagAccess, show mainSlot t = levelSlot (.mainFlag t next) from rfl, hj]
  | leafFlag t l =>
    rw [walkAccess_leafFlag g s hl, flagAccess, show pointSlot t = levelSlot (.leafFlag t l) from rfl, hj]

/-- A main descriptor that names a table passes the walk on, by way of its USED where that is clear (05 R94, R96). -/
theorem Walking.mainRead_of_table (hw : Walking s g h w p) (hl : w.level = .mainRead t) (hc : Clean s (mainSlot t))
    (hd : (s.rst.desc t (mainIndex p)).table = some next) :
    exec (.walkTableRead []) s = .next (bookingContinues s h (.resolving { w with
      level := if (s.rst.desc t (mainIndex p)).used = true then .pointRead next else .mainFlag t next
      barred := w.barred || (s.rst.desc t (mainIndex p)).barred })) := by
  obtain rfl := hw.here
  refine (hw.ends hl ((walkAccess_mainRead g s hl).trans (judge_of_clean hc.1 hc.2))).trans ?_
  rw [walkGoesOn_mainRead_of_table h hl hd, release_awaitLevel hw.granted]

/-- An INVALID main descriptor ends the walk (05 R94, R95). -/
theorem Walking.mainRead_of_none (hw : Walking s g h w p) (hl : w.level = .mainRead t) (hc : Clean s (mainSlot t))
    (hd : (s.rst.desc t (mainIndex p)).table = none) :
    exec (.walkTableRead []) s = .next (release
      (walkEnds h { w with barred := w.barred || (s.rst.desc t (mainIndex p)).barred } (w.fails .invalidMain) s)) := by
  obtain rfl := hw.here
  refine (hw.ends hl ((walkAccess_mainRead g s hl).trans (judge_of_clean hc.1 hc.2))).trans ?_
  rw [walkGoesOn_mainRead_of_none h hl hd]

/-- A read of a table marked damaged ends the walk (05 R97). -/
theorem Walking.read_of_damaged (hw : Walking s g h w p) (hl : w.level = .mainRead t ∨ w.level = .pointRead t)
    (hd : s.rst.isDamaged (levelSlot w.level) = true) :
    exec (.walkTableRead []) s = .next (release (walkEnds h w (.noRoute .damaged) s)) := by
  rw [← walkGoesOn_read_of_damaged h hl (by simp : Found.damaged ≠ .contents)]
  rcases hl with hl | hl <;> rw [hl] at hd
  · exact hw.ends hl ((walkAccess_mainRead g s hl).trans (judge_of_damaged hd))
  · exact hw.ends hl ((walkAccess_pointRead g s hl).trans (judge_of_damaged hd))

/-- A leaf whose USED is set is passed (05 R94). -/
theorem Walking.pointRead_of_used (hw : Walking s g h w p) (hl : w.level = .pointRead t) (hc : Clean s (pointSlot t)) {l : Leaf}
    (he : l = s.rst.leaf t (pointIndex p)) (hp : Passes w l) (hu : l.used = true) :
    exec (.walkTableRead []) s
      = .next (release (passLeaf h { w with barred := w.barred || l.barred } t l s)) := by
  obtain rfl := hw.here
  refine (hw.ends hl ((walkAccess_pointRead g s hl).trans (judge_of_clean hc.1 hc.2))).trans ?_
  rw [walkGoesOn_pointRead_of_used h hl he hp hu]

/-- A leaf whose USED is clear has it set before it is passed (05 R96). -/
theorem Walking.pointRead_of_unused (hw : Walking s g h w p) (hl : w.level = .pointRead t) (hc : Clean s (pointSlot t)) {l : Leaf}
    (he : l = s.rst.leaf t (pointIndex p)) (hp : Passes w l) (hu : l.used = false) :
    exec (.walkTableRead []) s
      = .next (bookingContinues s h (.resolving { w with level := .leafFlag t l, barred := w.barred || l.barred })) := by
  obtain rfl := hw.here
  refine (hw.ends hl ((walkAccess_pointRead g s hl).trans (judge_of_clean hc.1 hc.2))).trans ?_
  rw [walkGoesOn_pointRead_of_unused h hl he hp hu, release_awaitLevel hw.granted]

/-- A leaf that is not passed ends the walk (05 R94, R95). -/
theorem Walking.pointRead_of_unpassed (hw : Walking s g h w p) (hl : w.level = .pointRead t) (hc : Clean s (pointSlot t))
    (hp : ¬ Passes w (s.rst.leaf t (pointIndex p))) :
    exec (.walkTableRead []) s = .next (release (walkEnds h w (w.fails .invalidLeaf) s)) := by
  obtain rfl := hw.here
  refine (hw.ends hl ((walkAccess_pointRead g s hl).trans (judge_of_clean hc.1 hc.2))).trans ?_
  rw [walkGoesOn_pointRead_of_unpassed h hl hp]

/-- What the USED access of a main descriptor leaves (05 R92). -/
abbrev MainFlagged (s : State) (t i next : Nat) (x : State) : Prop :=
  FlagLeft s (mainSlot t) ((s.rst.desc t i).table = some next)
    (fun r => r.putDesc t i { s.rst.desc t i with used := true }) x

/-- What the USED access of a leaf leaves (05 R92). -/
abbrev LeafFlagged (s : State) (t i : Nat) (kind : LeafKind) (x : State) : Prop :=
  FlagLeft s (pointSlot t) ((s.rst.leaf t i).kind = kind)
    (fun r => r.putLeaf t i { s.rst.leaf t i with used := true }) x

theorem MainFlagged.kept {i : Nat} (hx : MainFlagged s t i next x) : x = { s with rst := x.rst } ∧ x.rst.arbiter = s.rst.arbiter :=
  flagLeft_kept (f := fun r => r.putDesc t i { s.rst.desc t i with used := true }) (fun _ => rfl) hx

theorem LeafFlagged.kept {i : Nat} {kind : LeafKind} (hx : LeafFlagged s t i kind x) :
    x = { s with rst := x.rst } ∧ x.rst.arbiter = s.rst.arbiter :=
  flagLeft_kept (f := fun r => r.putLeaf t i { s.rst.leaf t i with used := true }) (fun _ => rfl) hx

/-- Behind the USED access of a main descriptor the walk goes on as it was read (05 R96). -/
theorem Walking.mainFlag (hw : Walking s g h w p) (hl : w.level = .mainFlag t next)
    (hx : MainFlagged s t (mainIndex p) next x) :
    exec (.walkFlagAccess []) s = .next (bookingContinues x h (.resolving { w with level := .pointRead next })) := by
  obtain rfl := hw.here
  obtain ⟨found, hf, ha⟩ := flagAccess_flagMain true g.period hx
  refine (hw.ends hl ((walkAccess_mainFlag g s hl).trans ha)).trans ?_
  rw [walkGoesOn_mainFlag h hl hf, release_awaitLevel (hw.granted.of_arbiter (MainFlagged.kept hx).2)]

/-- Behind its USED access a leaf is passed as it was read (05 R96). -/
theorem Walking.leafFlag (hw : Walking s g h w p) {l : Leaf} (hl : w.level = .leafFlag t l)
    (hx : LeafFlagged s t (pointIndex p) l.kind x) :
    exec (.walkFlagAccess []) s = .next (release (passLeaf h w t l x)) := by
  obtain rfl := hw.here
  obtain ⟨found, hf, ha⟩ := flagAccess_flagLeaf (ref := ⟨t, pointIndex w.here, l.kind⟩) (f := fun l => { l with used := true })
    true g.period hx
  refine (hw.ends hl ((walkAccess_leafFlag g s hl).trans ha)).trans ?_
  rw [walkGoesOn_leafFlag h hl hf]

/-- An access that finds its table damaged itself ends the walk NO-ROUTE, and not stale by it (05 R97, 08 R158). -/
theorem Walking.ends_of_uncorrectable (hw : Walking s g h w p) (hf : w.stale = false) {level : WalkLevel} (hl : w.level = level)
    (hu : Uncorrectable s (levelSlot level)) : exec (levelCommand level) s
      = .next (bookingContinues (slotDamaged s (levelSlot level)) h (.committing (some (.noRoute .damaged)) false)) := by
  have hn : 256 ≤ levelSlot level := by cases level <;> simp only [levelSlot, mainSlot, pointSlot] <;> omega
  have hgo (y : State) : walkGoesOn h w .uncorrectable y = walkEnds h w (.noRoute .damaged) y := by
    cases level <;> simp [walkGoesOn, hl]
  have hg : Granted { slotDamaged s (levelSlot level) with bke := { s.bke with cache := [] } } := hw.granted.of_arbiter rfl
  rw [hw.ends hl (walkAccess_of_uncorrectable g hl hu), hgo, takeDamage_own hn, release_walkEnds_noRoute hg h hf]
  simp [bookingContinues, slotDamaged, show ¬ levelSlot level ≤ 255 by omega]

/-! ### Leaves passed -/

/-- An ACCOUNT leaf ends a fresh walk, which is cached for the walked point (05 R95, R98). -/
theorem release_passLeaf_account (hx : Granted x) (hf : w.stale = false) (hw : w.here = p) {l : Leaf} {slot : Nat}
    (hk : l.kind = .account slot) : release (passLeaf h w t l x)
      = bookingContinues { x with bke := { x.bke with cache := cacheWith ⟨w.point, slot, w.barred, l.global⟩ x.bke.cache } } h
          (.committing (some (.account slot w.barred l.global (.walk (w.own.getD ⟨t, pointIndex p, .account slot⟩)))) false) := by
  simp only [passLeaf, hk, release_walkEnds_account hx h hf, hw]

/-- An INDIRECT leaf passes the walk on to its target's path (05 R95). -/
theorem passLeaf_indirect {l : Leaf} {q : Nat} (hk : l.kind = .indirect q) :
    passLeaf h w t l x = followIndirect h w ⟨t, pointIndex w.here, .indirect q⟩ q x := by
  simp only [passLeaf, hk]

end

/-! ### The mark that ends a cycle -/

/-- The state once a booking's cycle has ended behind its mark, of which a BOOKED pass has been told (06 R118, R127, 07 R148). -/
def markEnded (own : LeafRef) (y : State) : State :=
  { storeFree y with
    bke := { y.bke with inHand := none }, rex := { y.rex with work := y.rex.work.map (·.mark own) } }

/-- Only a BOOKED pass takes note of a mark (07 R148). -/
theorem map_mark_eq (own : LeafRef) (work : Option HeadWork) : work.map (·.mark own) = match work with
    | some (.closePass tables leaves m) => some (.closePass tables
        (leaves.map fun p => if p.own = own then { p with stands := true } else p) m)
    | w => w := by
  match work with
  | some (.closePass tables leaves m) =>
    have : PassLeaf.mark own = fun p => if p.own = own then { p with stands := true } else p := funext (PassLeaf.mark_eq own)
    rw [Option.map_some, HeadWork.mark_closePass, this]
  | none | some .account | some .retireCheck | some (.retireScan _) | some .retireFinal | some (.closeScan ..)
  | some (.balance ..) | some (.lookPoint _) | some (.directory _) => rfl

/-- The flag access that sets BOOKED (05 R92, 06 R127). -/
theorem markBooked_of_flagLeft {s y : State} (g : Grant) {own : LeafRef}
    (hy : FlagLeft s (pointSlot own.table) ((s.rst.leaf own.table own.index).kind = own.kind)
      (fun r => r.putLeaf own.table own.index { s.rst.leaf own.table own.index with booked := true }) y) :
    markBooked g own s = y := by
  obtain ⟨found, -, ha⟩ := flagAccess_flagLeaf (f := fun l => { l with booked := true }) false g.period hy
  rw [markBooked, ha]

/-- The flag access that sets BOOKED ends the cycle, with no booking waiting (06 R118, R127). -/
theorem exec_bookedFlagAccess {s y : State} {g : Grant} {h : InHand} {slot : Nat} {barred : Bool} {own : LeafRef}
    (hs : Serves s g .bke) (hh : s.bke.inHand = some h) (hp : h.phase = .marking slot barred own) (hq : s.bke.queue = [])
    (hm : markBooked g own s = y) (hbke : y.bke = s.bke) (harb : y.rst.arbiter = s.rst.arbiter) :
    exec (.bookedFlagAccess []) s = .next (markEnded own y) := by
  obtain ⟨hr, hserving, hreq, hb, hx, hk⟩ := hs
  change execBookedFlagAccess [] s = _
  rw [execBookedFlagAccess, storeCommand_nil _ hr, bookingAccessEnds_of_serves hserving hreq hh (by rw [hp]; rfl)]
  have hwork : markWork g h s = endCycle (standMark own y) := by simp only [markWork, hp, hm]
  rw [hwork, standMark_eq, release_endCycle (by rw [hbke, hq]) (by rw [harb, hb]) (by rw [harb, hx]) (by rw [harb, hk])]
  rfl

/-- Settles O58: the accesses of the point's own path, those of its target's, the flag accesses, the stale walk, and the mark. -/
theorem walksGoDownTheDirectory : Obligations.WalksGoDownTheDirectory := by
  unfold Obligations.WalksGoDownTheDirectory
  refine ⟨fun s g h w t next hs hh hp hf ht ho hpt => ?_, fun s g h w t p own hs hh hp hf ht ho hpt => ?_,
    fun s x g h w t here hs hh hp hf hhere => ?_, fun s g h w t hs hh hp hst => ?_,
    fun s g h slot barred own told hs hh hp hq htold => ?_⟩
  · have hw : Walking s g h w w.point := ⟨hs, hh, hp, by simp [Walk.here, ht]⟩
    have hfails (why : NoRoute) : w.fails why = .noRoute why := by simp [Walk.fails, ht]
    refine ⟨fun hl hc => ⟨fun hd hu => ?_, fun hd hu => ?_, fun hd => ?_⟩, fun hl hd => ?_, fun hl hc hd => ?_, fun hl hc => ?_,
      fun slot l hl hc hd hk => ?_⟩
    · rw [hw.mainRead_of_table hl hc hd, if_pos hu]
    · rw [hw.mainRead_of_table hl hc hd, if_neg (by simp [hu])]
    · rw [hw.mainRead_of_none hl hc hd, hfails, release_walkEnds_noRoute hw.granted h (by exact hf)]
    · rw [hw.read_of_damaged (.inl hl) (by rw [hl]; exact hd), release_walkEnds_noRoute hw.granted h hf]
    · exact hw.mainFlag hl (.inl ⟨s, ⟨hc.1, .inl ⟨hc.2, rfl⟩⟩, hd, rfl⟩)
    · rintro l he
      refine ⟨fun slot hk hu => ?_, fun slot hk hu => ?_, fun p u hk hu _ hroot => ?_, fun p hk hu _ hroot => ?_,
        fun p hk hu => ?_, fun hk => ?_⟩
      · rw [hw.pointRead_of_used hl hc he (.inl ⟨slot, hk⟩) hu,
          release_passLeaf_account hw.granted (by exact hf) (by exact hw.here) hk, ho]
        rfl
      · exact hw.pointRead_of_unused hl hc he (.inl ⟨slot, hk⟩) hu
      · rw [hw.pointRead_of_used hl hc he (.inr ⟨ht, p, hk⟩) hu, passLeaf_indirect hk, release_followIndirect hw.granted h hroot]
        simp only [Walk.here, ht, Option.getD_none]
      · rw [hw.pointRead_of_used hl hc he (.inr ⟨ht, p, hk⟩) hu, passLeaf_indirect hk,
          release_followIndirect_of_none hw.granted h (by exact hf) hroot]
      · exact hw.pointRead_of_unused hl hc he (.inr ⟨ht, p, hk⟩) hu
      · have hn : ¬ Passes w (s.rst.leaf t (pointIndex w.point)) := by simp [Passes, ← he, hk]
        rw [hw.pointRead_of_unpassed hl hc hn, hfails, release_walkEnds_noRoute hw.granted h hf]
    · have hx : LeafFlagged s t (pointIndex w.point) l.kind { s with
          rst := s.rst.putLeaf t (pointIndex w.point) { s.rst.leaf t (pointIndex w.point) with used := true } } :=
        .inl ⟨s, ⟨hc.1, .inl ⟨hc.2, rfl⟩⟩, hd.trans hk.symm, rfl⟩
      rw [hw.leafFlag hl hx, release_passLeaf_account (hw.granted.of_arbiter hx.kept.2) hf hw.here hk, ho]
      rfl
  · have hw : Walking s g h w p := ⟨hs, hh, hp, by simp [Walk.here, ht]⟩
    have hfails (why : NoRoute) : w.fails why = .noRoute .badIndirect := by simp [Walk.fails, ht]
    refine ⟨fun hl hc hd => ?_, fun u hl hc hd => hw.mainRead_of_table hl hc hd, fun hl hd => ?_, fun hl hd => ?_,
      fun hl hc hk => ?_, fun slot l hl hc he hk => ⟨fun hu => ?_, hw.pointRead_of_unused hl hc he (.inl ⟨slot, hk⟩)⟩⟩
    · rw [hw.mainRead_of_none hl hc hd, hfails, release_walkEnds_noRoute hw.granted h (by exact hf)]
    · rw [hw.read_of_damaged (.inl hl) (by rw [hl]; exact hd), release_walkEnds_noRoute hw.granted h hf]
    · rw [hw.read_of_damaged (.inr hl) (by rw [hl]; exact hd), release_walkEnds_noRoute hw.granted h hf]
    · have hn : ¬ Passes w (s.rst.leaf t (pointIndex p)) := by simp [Passes, hk, ht]
      rw [hw.pointRead_of_unpassed hl hc hn, hfails, release_walkEnds_noRoute hw.granted h hf]
    · rw [hw.pointRead_of_used hl hc he (.inl ⟨slot, hk⟩) hu,
        release_passLeaf_account hw.granted (by exact hf) (by exact hw.here) hk, ho]
      rfl
  · have hw : Walking s g h w here := ⟨hs, hh, hp, hhere.symm⟩
    refine ⟨fun next hl hx => hw.mainFlag hl hx, fun l hl hx => ?_, fun hx hu => ⟨fun hl => ?_, fun next hl => ?_⟩,
      fun hx hu => ⟨fun hl => ?_, fun l hl => ?_⟩⟩
    · obtain ⟨hkept, harb⟩ := LeafFlagged.kept hx
      have hg : Granted x := hw.granted.of_arbiter harb
      have hbke : x.bke = s.bke := by rw [hkept]
      have hdistrict (d : DistrictId) : x.district d = s.district d := by rw [hkept]; rfl
      refine ⟨fun slot hk => ?_, fun p u ht hk hroot => ?_, fun p ht hk hroot => ?_⟩
      · rw [hw.leafFlag hl hx, release_passLeaf_account hg hf hw.here hk, hbke]
        rfl
      · rw [hw.leafFlag hl hx, passLeaf_indirect hk, 
          release_followIndirect hg h (by rw [hdistrict]; exact hroot)]
        simp only [Walk.here, ht, Option.getD_none, hdistrict]
      · rw [hw.leafFlag hl hx, passLeaf_indirect hk, release_followIndirect_of_none hg h hf (by rw [hdistrict, hroot])]
    all_goals
      subst hx
      exact hw.ends_of_uncorrectable hf hl hu
  · have hw : Walking s g h w (w.target.getD w.point) := ⟨hs, hh, hp, rfl⟩
    refine ⟨fun hl hcase => ?_, fun hl hcase => ?_⟩
    · rcases hcase with hd | ⟨hc, hd⟩
      · rw [hw.read_of_damaged (.inl hl) (by rw [hl]; exact hd), release_walkEnds_of_stale hw.granted h hst]
      · rw [hw.mainRead_of_none hl hc hd, release_walkEnds_of_stale hw.granted h (by exact hst)]
    · rcases hcase with hd | ⟨hc, hk⟩ | ⟨hc, hu, slot, hk⟩
      · rw [hw.read_of_damaged (.inr hl) (by rw [hl]; exact hd), release_walkEnds_of_stale hw.granted h hst]
      · rw [hw.pointRead_of_unpassed hl hc (by simp [Passes, hk]), release_walkEnds_of_stale hw.granted h hst]
      · rw [hw.pointRead_of_used hl hc rfl (.inl ⟨slot, hk⟩) hu]
        simp only [passLeaf, hk]
        rw [release_walkEnds_of_stale hw.granted h (by exact hst)]
  · have told_eq : told = { s.rex with work := s.rex.work.map (·.mark own) } :=
      htold.trans (congrArg (fun v => { s.rex with work := v }) (map_mark_eq own s.rex.work).symm)
    rw [told_eq]
    refine ⟨fun hc hk => exec_bookedFlagAccess hs hh hp hq ?_ rfl rfl, fun hcase => exec_bookedFlagAccess hs hh hp hq ?_ rfl rfl⟩
    · exact markBooked_of_flagLeft g (.inl ⟨s, ⟨hc.1, .inl ⟨hc.2, rfl⟩⟩, hk, rfl⟩)
    · refine markBooked_of_flagLeft g (.inr (hcase.symm.imp ?_ fun hd => ⟨hd, rfl⟩))
      exact fun ⟨hc, hk⟩ => ⟨⟨hc.1, .inl ⟨hc.2, rfl⟩⟩, hk⟩

end Sys2Proof.Walks

/-! PROOFS. The tables of the directory in the store (05 R91, R92): canonical tables, slots that writes leave clean, and what the writes of
one request come to together. -/

namespace Sys2Proof.Tables

open Sys2Proof.Machine Sys2Proof.Safety

/-! ### Sparse stores -/

section

variable {α : Type} {blank : α} {m : Sparse α}

/-- A number that does not read as blank is listed. -/
theorem mem_of_readAt_ne {n : Nat} (h : readAt blank m n ≠ blank) : (n, readAt blank m n) ∈ m := by
  induction m with
  | nil => exact absurd rfl h
  | cons p m ih =>
    obtain ⟨k, v⟩ := p
    by_cases hn : n = k
    · subst hn
      simp [readAt]
    · simp only [readAt, if_neg hn] at h ⊢
      exact List.mem_cons_of_mem _ (ih h)

/-- Every number listed lies above the bound. -/
theorem lt_of_allAbove {n : Nat} (h : allAbove n m = true) {q : Nat × α} (hq : q ∈ m) : n < q.1 := by
  induction m with
  | nil => cases hq
  | cons p m ih =>
    simp only [allAbove, Bool.and_eq_true, decide_eq_true_eq] at h
    rcases List.mem_cons.1 hq with rfl | hq
    · exact h.1
    · exact ih h.2 hq

variable [DecidableEq α]

/-- What is listed after a write is what was written or stood at another number. -/
theorem mem_writeAt (hc : canonical blank m = true) {n : Nat} {v : α} {q : Nat × α} (hq : q ∈ writeAt blank m n v) :
    q = (n, v) ∨ (q ∈ m ∧ q.1 ≠ n) := by
  induction m with
  | nil =>
    simp only [writeAt] at hq
    split at hq
    · cases hq
    · exact .inl (List.mem_singleton.1 hq)
  | cons p m ih =>
    obtain ⟨k, w⟩ := p
    simp only [canonical, Bool.and_eq_true, decide_eq_true_eq] at hc
    obtain ⟨⟨-, habove⟩, hm⟩ := hc
    have later {x : Nat × α} (hx : x ∈ m) : k < x.1 := lt_of_allAbove habove hx
    have other (hne : k ≠ n) (hq : q = (k, w) ∨ q ∈ m) (hlt : n ≤ k) : q ∈ (k, w) :: m ∧ q.1 ≠ n := by
      refine ⟨List.mem_cons.2 hq, ?_⟩
      rcases hq with rfl | hq
      · exact hne
      · have := later hq
        omega
    simp only [writeAt] at hq
    split at hq
    · split at hq
      · exact .inr (other (by omega) (List.mem_cons.1 hq) (by omega))
      · exact (List.mem_cons.1 hq).imp id fun hq => other (by omega) (List.mem_cons.1 hq) (by omega)
    · split at hq
      · rename_i hn
        subst hn
        have tail (hq : q ∈ m) : q ∈ (n, w) :: m ∧ q.1 ≠ n := ⟨List.mem_cons_of_mem _ hq, (later hq).ne'⟩
        split at hq
        · exact .inr (tail hq)
        · exact (List.mem_cons.1 hq).imp id tail
      · rename_i hne
        rcases List.mem_cons.1 hq with rfl | hq
        · exact .inr ⟨List.mem_cons_self, fun h => hne h.symm⟩
        · exact (ih hm hq).imp id fun ⟨hq, h⟩ => ⟨List.mem_cons_of_mem _ hq, h⟩

/-- A write leaves what is listed at every other number. -/
theorem mem_writeAt_of_ne {n : Nat} (v : α) {q : Nat × α} (hq : q ∈ m) (hn : q.1 ≠ n) : q ∈ writeAt blank m n v := by
  induction m with
  | nil => cases hq
  | cons p m ih =>
    obtain ⟨k, w⟩ := p
    simp only [writeAt]
    split
    · split
      · exact hq
      · exact List.mem_cons_of_mem _ hq
    · split
      · rename_i hk
        have hm : q ∈ m := (List.mem_cons.1 hq).resolve_left fun h => hn (by rw [h, hk])
        split
        · exact hm
        · exact List.mem_cons_of_mem _ hm
      · exact List.mem_cons.2 ((List.mem_cons.1 hq).imp id ih)

/-- A write of the blank keeps blank what was blank. -/
theorem readAt_writeAt_blank (hc : canonical blank m = true) {k : Nat} (n : Nat) (h : readAt blank m k = blank ∨ k = n) :
    readAt blank (writeAt blank m n blank) k = blank := by
  by_cases hk : k = n
  · subst hk
    exact readAt_writeAt_self k blank hc
  · rw [readAt_writeAt_ne blank hk]
    exact h.resolve_right hk

end

/-! ### Canonical tables -/

/-- The stores that the directory writes to are in canonical form (log entry 22). -/
structure Canon (r : Rst) : Prop where
  mains : canonical [] r.mains = true
  points : canonical [] r.points = true
  flaws : canonical 0 r.flaws = true
  damaged : canonical false r.damaged = true
  mainAlloc : canonical none r.mainAlloc = true
  pointAlloc : canonical none r.pointAlloc = true
  descs : ∀ t, canonical Desc.invalid (r.mainTable t) = true
  leaves : ∀ t, canonical Leaf.invalid (r.pointTable t) = true

/-- Tables all in canonical form, one read. -/
theorem canonical_readAt {α : Type} [DecidableEq α] {blank : α} {ts : Sparse (Sparse α)}
    (h : ts.all (fun p => canonical blank p.2) = true) (t : Nat) : canonical blank (readAt [] ts t) = true := by
  by_cases hb : readAt [] ts t = []
  · rw [hb]
    rfl
  · exact List.all_eq_true.1 h _ (mem_of_readAt_ne hb)

theorem canon_of_storesSound {r : Rst} (h : storesSound r = true) : Canon r := by
  simp only [storesSound, Bool.and_eq_true] at h
  obtain ⟨⟨⟨⟨⟨⟨⟨⟨-, hmains⟩, hdescs⟩, hpoints⟩, hleaves⟩, hflaws⟩, hdamaged⟩, hmain⟩, hpoint⟩ := h
  exact ⟨hmains, hpoints, hflaws, hdamaged, hmain, hpoint, canonical_readAt hdescs, canonical_readAt hleaves⟩

/-! ### Slots left clean -/

/-- A slot of the store that a read finds clean (08 R155). -/
def CleanSlot (r : Rst) (n : Nat) : Prop := r.isDamaged n = false ∧ r.flawsOf n = 0

section

variable {r : Rst} {n t : Nat} (hf : canonical 0 r.flaws = true)

include hf

/-- A write to a main table leaves every clean slot clean (08 R154). -/
theorem cleanSlot_putDesc (i : Nat) (d : Desc) (h : CleanSlot r n) : CleanSlot (r.putDesc t i d) n :=
  ⟨h.1, readAt_writeAt_blank hf _ (.inl h.2)⟩

theorem cleanSlot_putLeaf (i : Nat) (l : Leaf) (h : CleanSlot r n) : CleanSlot (r.putLeaf t i l) n :=
  ⟨h.1, readAt_writeAt_blank hf _ (.inl h.2)⟩

variable (hd : canonical false r.damaged = true)

include hd

/-- A table written whole has a clean slot, and leaves every clean slot (08 R155, R159). -/
theorem cleanSlot_initPoint (h : CleanSlot r n ∨ n = pointSlot t) : CleanSlot (r.initPoint t) n :=
  ⟨readAt_writeAt_blank hd _ (h.imp_left And.left), readAt_writeAt_blank hf _ (h.imp_left And.right)⟩

theorem cleanSlot_allocPoint (main index : Nat) (h : CleanSlot r n ∨ n = pointSlot t) : CleanSlot (r.allocPoint t main index) n :=
  cleanSlot_initPoint hf hd h

theorem cleanSlot_initMain (h : CleanSlot r n ∨ n = mainSlot t) : CleanSlot (r.initMain t) n :=
  ⟨readAt_writeAt_blank hd _ (h.imp_left And.left), readAt_writeAt_blank hf _ (h.imp_left And.right)⟩

theorem cleanSlot_allocMain (d : DistrictId) (h : CleanSlot r n ∨ n = mainSlot t) : CleanSlot (r.allocMain t d) n :=
  cleanSlot_initMain hf hd h

end

/-! ### What the writes of one request come to -/

/-- The head of a free list leaves it (05 R91). -/
theorem without_head {l ls : List Nat} {x : Nat} (hl : l = x :: ls) (hx : x ∉ ls) : without l x = ls := by
  rw [hl, without, List.filter_cons_of_neg (by simp)]
  exact List.filter_eq_self.2 fun y hy => by simpa using fun h : y = x => hx (h ▸ hy)

section

variable {r : Rst} {t : Nat} (hc : Canon r)

include hc

/-- The first leaf of a point table written whole is all it holds (05 R103, R109). -/
theorem putLeaf_initPoint (i : Nat) {l : Leaf} (hl : l ≠ Leaf.invalid) : (r.initPoint t).putLeaf t i l = { r with
    points := writeAt [] r.points t [(i, l)]
    flaws := writeAt 0 r.flaws (pointSlot t) 0
    damaged := writeAt false r.damaged (pointSlot t) false } := by
  simp [Rst.putLeaf, Rst.initPoint, Rst.setFlaws, Rst.setDamaged, Rst.pointTable, readAt_writeAt_self _ _ hc.points,
    writeAt_writeAt _ _ _ hc.points, writeAt_writeAt _ _ _ hc.flaws, writeAt, hl]

/-- A point table allocated, with its first leaf, once its parent is written (05 R91, R103). -/
theorem settlePoint_allocPoint {ps : List Nat} (hfree : r.freePoints = t :: ps) (hnew : t ∉ ps) (main index i : Nat) {l : Leaf}
    (hl : l ≠ Leaf.invalid) :
    ((r.allocPoint t main index).putLeaf t i l).settlePoint t = withPointTable r t main index [(i, l)] ps := by
  simp [Rst.putLeaf, Rst.allocPoint, Rst.initPoint, Rst.settlePoint, Rst.setFlaws, Rst.setDamaged, Rst.pointTable, Rst.pointAllocOf,
    withPointTable, without_head hfree hnew, readAt_writeAt_self _ _ hc.points, writeAt_writeAt _ _ _ hc.points,
    writeAt_writeAt _ _ _ hc.flaws, readAt_writeAt_self _ _ hc.pointAlloc, writeAt_writeAt _ _ _ hc.pointAlloc, writeAt, hl]

/-- A main table allocated, with its first descriptor, once the root that names it is written (05 R91, R103). -/
theorem settleMain_allocMain {ms : List Nat} (hfree : r.freeMains = t :: ms) (hnew : t ∉ ms) (d : DistrictId) (i : Nat) {v : Desc}
    (hv : v ≠ Desc.invalid) : (((r.allocMain t d).putDesc t i v)).settleMain t = withMainTable r t d [(i, v)] ms := by
  simp [Rst.putDesc, Rst.allocMain, Rst.initMain, Rst.settleMain, Rst.setFlaws, Rst.setDamaged, Rst.mainTable, Rst.mainAllocOf,
    withMainTable, without_head hfree hnew, readAt_writeAt_self _ _ hc.mains, writeAt_writeAt _ _ _ hc.mains, writeAt_writeAt _ _ _ hc.flaws,
    readAt_writeAt_self _ _ hc.mainAlloc, writeAt_writeAt _ _ _ hc.mainAlloc, writeAt, hv]

theorem Canon.withPointTable (main index : Nat) {ls : Sparse Leaf} (hls : canonical Leaf.invalid ls = true) (ps : List Nat) :
    Canon (withPointTable r t main index ls ps) where
  mains := hc.mains
  points := canonical_writeAt _ _ hc.points
  flaws := canonical_writeAt _ _ hc.flaws
  damaged := canonical_writeAt _ _ hc.damaged
  mainAlloc := hc.mainAlloc
  pointAlloc := canonical_writeAt _ _ hc.pointAlloc
  descs := hc.descs
  leaves k := by
    by_cases hk : k = t
    · subst hk
      simp only [Rst.pointTable, Safety.withPointTable, readAt_writeAt_self _ _ hc.points, hls]
    · simp only [Rst.pointTable, Safety.withPointTable, readAt_writeAt_ne _ hk]
      exact hc.leaves k

end

end Sys2Proof.Tables

/-! PROOFS. The requests on the directory (05 R100 to R107): one access after another, from the start of a request at an idle store to
its answer (O34 to O38). -/

namespace Sys2Proof.DirectoryRequests

open Sys2Proof.Machine Sys2Proof.Safety

/-! ### A run of accesses -/

/-- A run goes on from the state its first command gives. -/
theorem after_cons {c : Instr} {cs : List Instr} {s t : State} {r : Host.Outcome State Fault Refusal} (h : exec c s = .next t)
    (hr : after cs t = r) : after (c :: cs) s = r := by
  rw [after, h]
  exact hr

/-- What the work of a directory request leaves alone: REX, the yard, the booking in hand and the arbiter (05 R102). -/
structure Beside (x y : State) : Prop where
  running : y.running = x.running
  rex : y.rex = x.rex
  yard : y.yard = x.yard
  inHand : y.bke.inHand = x.bke.inHand
  arbiter : y.rst.arbiter = x.rst.arbiter

section

variable {x y : State} (h : Beside x y) (tag : Byte) (q : Request) (w : HeadWork)

include h

theorem Beside.ready (hr : Ready x) : Ready y := by
  rw [Ready, Takes, h.running, h.rex]
  exact hr

theorem Beside.idle (hi : StoreIdle x) : StoreIdle y := by
  rw [StoreIdle, h.arbiter]
  exact hi

/-- REX's grant reads nothing that the work of a directory request changes (08 R163). -/
theorem Beside.started_arbiter : (startedHead y tag q w).rst.arbiter = (startedHead x tag q w).rst.arbiter := by
  simp only [startedHead, h.arbiter, h.yard, Bke.staleCommit, h.inHand]

theorem Beside.started_rex : (startedHead y tag q w).rex = (startedHead x tag q w).rex := by
  simp only [startedHead, h.rex]

end

/-- A started head changes no slot (11 R194). -/
theorem clean_started {x : State} {tag : Byte} {q : Request} {w : HeadWork} {n : Nat} (h : Clean x n) :
    Clean (startedHead x tag q w) n := h

/-- With no booking in hand a change flushes the cache, and that is all (05 R102, 06 R122). -/
theorem completeChange_of_idle {z : State} (h : z.bke.inHand = none) :
    completeChange z = { z with bke := { z.bke with cache := [] } } := by
  simp only [completeChange, State.modBke, markStale, flushCache, h, Option.map_none]

/-- The head is answered as a change (05 R102, 11 R194). -/
theorem headAnswered_completeChange {z : State} {tag : Byte} {q : Request} {w : HeadWork} {fields : List Field} (hr : Ready z)
    (hi : StoreIdle z) (hb : z.bke.inHand = none) : headAnswered (completeChange (startedHead z tag q w)) tag q .done fields
      = withResponse (changeDone z z.rst) tag q.code .done fields := by
  rw [completeChange_of_idle (z := startedHead z tag q w) hb]
  obtain ⟨-, hk, hw⟩ := hr
  obtain ⟨-, -, hx, -⟩ := hi
  simp only [headAnswered, startedHead, withResponse, changeDone, accessesDone, hk, hw, hx]

/-- A command ends the accesses of some kind of the head's work (11 R194, 08 R163). -/
def Ends (c : Instr) (w : HeadWork) : Prop :=
  ∃ kind : HeadWork → Bool, (∀ z : State, z.running = true → exec c z = .next (headAccessEnds kind z)) ∧ kind w = true

theorem directoryAccessEnd_ends (w : DirWork) : Ends (.directoryAccessEnd []) (.directory w) :=
  ⟨_, fun _ hz => storeCommand_nil _ hz, rfl⟩

theorem lookPointRead_ends (w : LookWork) : Ends (.lookPointRead []) (.lookPoint w) :=
  ⟨_, fun _ hz => storeCommand_nil _ hz, rfl⟩

section

variable {x y : State} {tag : Byte} {q : Request} {w : HeadWork} {c : Instr} (hr : Ready x) (hi : StoreIdle x) (hc : Ends c w)

include hr hi hc

/-- An access behind which its request awaits another. -/
theorem exec_access_awaits {w' : HeadWork}
    (ha : workAccess (rexGrant x) q w (startedHead x tag q w) = await w' (startedHead y tag q w)) (hy : Beside x y) :
    exec c (startedHead x tag q w) = .next (startedHead y tag q w') := by
  obtain ⟨kind, hexec, hkind⟩ := hc
  have hrun : (startedHead x tag q w).running = true := hr.1.1
  rw [hexec _ hrun, headAccessEnds_awaits (headAwaits_startedHead tag q w hr hi) hkind ha (hy.started_arbiter tag q w),
    headContinues_startedHead]

/-- An access by which its request is answered with nothing changed. -/
theorem exec_access_answered {r : Result} {fields : List Field}
    (ha : workAccess (rexGrant x) q w (startedHead x tag q w) = (.answered r fields, startedHead x tag q w)) :
    exec c (startedHead x tag q w) = .next (withResponse (accessesDone x x.rst) tag q.code r fields) := by
  obtain ⟨kind, hexec, hkind⟩ := hc
  have hrun : (startedHead x tag q w).running = true := hr.1.1
  rw [hexec _ hrun, headAccessEnds_answered (headAwaits_startedHead tag q w hr hi) hkind ha rfl rfl,
    Looks.headAnswered_startedHead hr hi]

/-- An access with which its request completes as a change (05 R102). -/
theorem exec_access_done {fields : List Field} (hb : x.bke.inHand = none)
    (ha : workAccess (rexGrant x) q w (startedHead x tag q w) = (.answered .done fields, completeChange (startedHead y tag q w)))
    (hy : Beside x y) : exec c (startedHead x tag q w) = .next (withResponse (changeDone y y.rst) tag q.code .done fields) := by
  obtain ⟨kind, hexec, hkind⟩ := hc
  have hrun : (startedHead x tag q w).running = true := hr.1.1
  rw [hexec _ hrun, headAccessEnds_answered (headAwaits_startedHead tag q w hr hi) hkind ha (hy.started_rex tag q w)
    (hy.started_arbiter tag q w), headAnswered_completeChange (hy.ready hr) (hy.idle hi) (hy.inHand.trans hb)]

end

/-! ### The reads of a request -/

theorem routeOf_val (n : Fin 2) : routeOf n = some n := by
  simp only [routeOf, n.isLt, dif_pos]

section

variable {z : State} (g : Grant) {q : Request} {p t pt : Nat}

/-- A read of a FREE slot refuses the request (05 R101, R103). -/
theorem accountRead_of_free {slot : Nat} (hs : checkedSlot q = slot) (hc : Clean z slot) (hf : (z.rst.account slot).state = .free) :
    accountRead g q z = refuse .noRecord z := by
  simp only [accountRead, hs, judge_of_clean hc.1 hc.2, hf, if_true]

/-- A read of a DAMAGED slot refuses the request (05 R101, R103; log entry 24). -/
theorem accountRead_of_damaged {slot : Nat} (hs : checkedSlot q = slot) (hd : z.rst.isDamaged slot = true) :
    accountRead g q z = refuse .wrongState z := by
  simp only [accountRead, hs, judge_of_damaged hd]

/-- MAP-POINT's account stands: it turns to its own path (05 R103). -/
theorem accountRead_of_map {slot : Nat} {barred global : Bool} (hc : Clean z slot) (hf : (z.rst.account slot).state ≠ .free) :
    accountRead g (.mapPoint p slot barred global) z = enterBinding (.mapPoint p slot barred global) z := by
  simp only [accountRead, checkedSlot, judge_of_clean hc.1 hc.2, hf, if_false]

/-- SET-ROUTE's account stands: the route is written (05 R101). -/
theorem accountRead_of_route {n : Fin 2} {f : RouteSettings} {slot : Nat} (hs : f.slot = some slot) (hc : Clean z slot)
    (hf : (z.rst.account slot).state ≠ .free) : accountRead g (.setRoute n f) z = runPlan [.setRoute n f] z := by
  simp [accountRead, checkedSlot, hs, judge_of_clean hc.1 hc.2, hf, routeOf_val]

/-- LINK-POINT's target has a point table (05 R104). -/
theorem targetMainRead_of_table (hc : Clean z (mainSlot t)) (hd : (z.rst.desc t (mainIndex p)).table = some pt) :
    targetMainRead g p t z = await (.directory (.targetPoint pt)) z := by
  simp only [targetMainRead, judge_of_clean hc.1 hc.2, hd]

/-- LINK-POINT's target has an ACCOUNT leaf: the request turns to its own path (05 R104). -/
theorem targetPointRead_of_account {slot : Nat} (hc : Clean z (pointSlot t))
    (hk : (z.rst.leaf t (pointIndex p)).kind = .account slot) : targetPointRead g q p t z = enterBinding q z := by
  simp only [targetPointRead, judge_of_clean hc.1 hc.2, hk]

theorem enterPath_of_table (noTable : State → Progress × State) (h : (z.district (pointDistrict p)).root.table = some t) :
    enterPath p noTable z = await (.directory (.ownMain t)) z := by
  simp only [enterPath, h]

theorem enterPath_of_none (noTable : State → Progress × State) (h : (z.district (pointDistrict p)).root.table = none) :
    enterPath p noTable z = noTable z := by
  simp only [enterPath, h]

theorem ownMainRead_of_clean (hc : Clean z (mainSlot t)) : ownMainRead g q t z = ownMainSound q t z := by
  simp only [ownMainRead, judge_of_clean hc.1 hc.2]

theorem ownPointRead_of_clean {m : Nat} {d : Desc} (hc : Clean z (pointSlot t)) :
    ownPointRead g q m d t z = ownPointSound q m d t z := by
  simp only [ownPointRead, judge_of_clean hc.1 hc.2]

theorem ownPointRead_of_damaged {m : Nat} {d : Desc} (hd : z.rst.isDamaged (pointSlot t) = true) :
    ownPointRead g q m d t z = ownPointDamaged q m d t z := by
  simp only [ownPointRead, judge_of_damaged hd]

/-- A request that acts on the leaf of its point, not on a flag above it (05 R103 to R106). -/
def ActsOnLeaf (q : Request) : Prop := ∀ p, q ≠ .bar .main p ∧ q ≠ .unbar .main p

/-- A request that acts on a leaf goes down a path whose main descriptor names a point table (05 R103 to R106). -/
theorem ownMainSound_of_table (hq : ActsOnLeaf q) (hd : (z.rst.desc t (mainIndex (requestPoint q))).table = some pt) :
    ownMainSound q t z = await (.directory (.ownPoint t (z.rst.desc t (mainIndex (requestPoint q))) pt)) z := by
  unfold ownMainSound
  simp only [hd]
  split
  case h_2 p => exact absurd rfl (hq p).1
  case h_3 p => exact absurd rfl (hq p).2
  all_goals rfl

/-- MAP-POINT and LINK-POINT bind a leaf (05 R103, R104). -/
def Binds (q : Request) : Prop :=
  (∃ p slot barred global, q = .mapPoint p slot barred global) ∨ ∃ p target, q = .linkPoint p target

theorem Binds.actsOnLeaf (h : Binds q) : ActsOnLeaf q := by
  rcases h with ⟨_, _, _, _, rfl⟩ | ⟨_, _, rfl⟩ <;> exact fun p => ⟨by simp, by simp⟩

/-- A binding request that finds a sound path writes its leaf (05 R103, R104). -/
theorem ownPointSound_of_binds {m : Nat} {d : Desc} (h : Binds q) :
    ownPointSound q m d t z
      = await (.directory (.actions [.writeLeaf t (pointIndex (requestPoint q)) (boundLeaf q)])) z := by
  rcases h with ⟨_, _, _, _, rfl⟩ | ⟨_, _, rfl⟩ <;> rfl

/-- A binding request initialises a damaged point table first (05 R109). -/
theorem ownPointDamaged_of_binds {m : Nat} {d : Desc} (h : Binds q) :
    ownPointDamaged q m d t z
      = await (.directory (.actions [.reinitPoint t, .writeLeaf t (pointIndex (requestPoint q)) (boundLeaf q)])) z := by
  rcases h with ⟨_, _, _, _, rfl⟩ | ⟨_, _, rfl⟩ <;> rfl

/-- A binding request whose main descriptor is INVALID allocates a point table (05 R103). -/
theorem ownMainSound_of_binds (h : Binds q) (hd : (z.rst.desc t (mainIndex (requestPoint q))).table = none) :
    ownMainSound q t z = planPointTable (requestPoint q) (boundLeaf q) t (z.rst.desc t (mainIndex (requestPoint q))).barred z := by
  rcases h with ⟨_, _, _, _, rfl⟩ | ⟨_, _, rfl⟩ <;> simp only [ownMainSound, hd]

/-! ### The actions of a plan -/

/-- A write of a descriptor whose table reads clean (05 R92). -/
theorem writeAccess_of_clean {n : Nat} (f : Rst → Rst) (hc : Clean z n) : writeAccess g n f z = (some [], z.modRst f) := by
  simp only [writeAccess, judge_of_clean hc.1 hc.2]

/-- The access of a plan's first action, behind which the plan goes on (05 R102). -/
theorem planAccess_of_action {a : DirAction} {more rest : List DirAction} {y : State} (ha : actAccess g p a z = (some more, y)) :
    planAccess g p (a :: rest) z = runPlan (more ++ rest) y := by
  simp only [planAccess, ha]

end

/-- The write of a leaf whose table reads clean (05 R92). -/
theorem actAccess_writeLeaf {x : State} {tag : Byte} {q : Request} {w : HeadWork} {t : Nat} (g : Grant) (p i : Nat) (l : Leaf)
    (hc : Clean x (pointSlot t)) : actAccess g p (.writeLeaf t i l) (startedHead x tag q w)
      = (some [], startedHead (x.modRst fun r => r.putLeaf t i l) tag q w) :=
  writeAccess_of_clean g _ (clean_started hc)

section

variable {x y z : State} {tag : Byte} {q : Request} {a : DirAction} {more rest : List DirAction} (hr : Ready x) (hi : StoreIdle x)
  (ha : actAccess (rexGrant x) (requestPoint q) a (startedHead x tag q (.directory (.actions (a :: rest))))
    = (some more, startedHead y tag q (.directory (.actions (a :: rest)))))

include hr hi ha

/-- An action of a plan, behind which the plan awaits another access. -/
theorem exec_action_awaits {w : HeadWork} (hp : runPlan (more ++ rest) (startedHead y tag q (.directory (.actions (a :: rest))))
      = await w (startedHead z tag q (.directory (.actions (a :: rest))))) (hz : Beside x z) :
    exec (.directoryAccessEnd []) (startedHead x tag q (.directory (.actions (a :: rest)))) = .next (startedHead z tag q w) :=
  exec_access_awaits hr hi (directoryAccessEnd_ends _) ((planAccess_of_action _ ha).trans hp) hz

/-- The last action of a plan (05 R102). -/
theorem exec_action_done (hb : x.bke.inHand = none)
    (hp : runPlan (more ++ rest) (startedHead y tag q (.directory (.actions (a :: rest))))
      = (.answered .done [], completeChange (startedHead z tag q (.directory (.actions (a :: rest)))))) (hz : Beside x z) :
    exec (.directoryAccessEnd []) (startedHead x tag q (.directory (.actions (a :: rest))))
      = .next (withResponse (changeDone z z.rst) tag q.code .done []) :=
  exec_access_done hr hi (directoryAccessEnd_ends _) hb ((planAccess_of_action _ ha).trans hp) hz

end

section

variable {x : State} {tag : Byte} {q : Request} {m pt : Nat} (hr : Ready x) (hi : StoreIdle x)

include hr hi

/-- The read of a main table on a sound path (05 R103 to R106). -/
theorem exec_ownMain (hq : ActsOnLeaf q) (hm : Clean x (mainSlot m)) {d : Desc} (hd : d = x.rst.desc m (mainIndex (requestPoint q)))
    (ht : d.table = some pt) :
    exec (.directoryAccessEnd []) (startedHead x tag q (.directory (.ownMain m)))
      = .next (startedHead x tag q (.directory (.ownPoint m d pt))) := by
  subst hd
  exact exec_access_awaits hr hi (directoryAccessEnd_ends _)
    ((ownMainRead_of_clean _ (clean_started hm)).trans (ownMainSound_of_table hq ht)) ⟨rfl, rfl, rfl, rfl, rfl⟩

/-- The read of a point table on the sound path of a binding request (05 R103, R104). -/
theorem exec_ownPoint_of_binds (hq : Binds q) {d : Desc} (hp : Clean x (pointSlot pt)) :
    exec (.directoryAccessEnd []) (startedHead x tag q (.directory (.ownPoint m d pt)))
      = .next (startedHead x tag q (.directory (.actions [.writeLeaf pt (pointIndex (requestPoint q)) (boundLeaf q)]))) :=
  exec_access_awaits hr hi (directoryAccessEnd_ends _)
    ((ownPointRead_of_clean _ (clean_started hp)).trans (ownPointSound_of_binds hq)) ⟨rfl, rfl, rfl, rfl, rfl⟩

/-- The write of the leaf that a binding request ends with (05 R103, R104). -/
theorem exec_writeLeaf_done (hb : x.bke.inHand = none) {i : Nat} {l : Leaf} (hp : Clean x (pointSlot pt)) :
    exec (.directoryAccessEnd []) (startedHead x tag q (.directory (.actions [.writeLeaf pt i l])))
      = .next (withResponse (changeDone x (x.rst.putLeaf pt i l)) tag q.code .done []) :=
  exec_action_done (z := x.modRst fun r => r.putLeaf pt i l) hr hi (actAccess_writeLeaf _ _ i l hp) hb rfl
    ⟨rfl, rfl, rfl, rfl, rfl⟩

/-- The three accesses of a binding request on its own sound path (05 R103, R104). -/
theorem after_binding (hq : Binds q) (hb : x.bke.inHand = none) (hpath : SoundPath x (requestPoint q) m pt) :
    after [.directoryAccessEnd [], .directoryAccessEnd [], .directoryAccessEnd []] (startedHead x tag q (.directory (.ownMain m)))
      = .next (withResponse (changeDone x (x.rst.putLeaf pt (pointIndex (requestPoint q)) (boundLeaf q))) tag q.code .done []) := by
  obtain ⟨-, hm, ht, hp⟩ := hpath
  exact after_cons (exec_ownMain hr hi hq.actsOnLeaf hm rfl ht) (after_cons (exec_ownPoint_of_binds hr hi hq hp)
    (after_cons (exec_writeLeaf_done hr hi hb hp) rfl))

end

/-! ### The starts of the requests -/

section

variable {i : Instr} {s : State} {tag : Byte} (q : Request) (hi : i.request = some (tag, q)) (hr : Ready s)
  (him : immediate tag q s = none) (hg : groupOf q.code = .shared)

include hi hr him hg

/-- A shared request that is refused at its start (11 R195). -/
theorem exec_start_refused {r : Result} (hs : startRequest q (headState s tag q) = refuse r (headState s tag q)) :
    exec i s = .next (withResponse s tag q.code r []) :=
  exec_of_answered hi hr him (by rw [admits, hg]) hs rfl

/-- A shared request that awaits an access at its start (11 R195). -/
theorem exec_start_awaits (hidle : StoreIdle s) {w : HeadWork}
    (hs : startRequest q (headState s tag q) = await w (headState s tag q)) : exec i s = .next (startedHead s tag q w) :=
  exec_of_awaits hi hr hidle him (by rw [admits, hg]) hs

end

/-- A shared request that completes as a change at its start (05 R102). -/
theorem exec_start_done {i : Instr} {s y : State} {tag : Byte} (q : Request) (hi : i.request = some (tag, q)) (hr : Ready s)
    (him : immediate tag q s = none) (hg : groupOf q.code = .shared) (hb : y.bke.inHand = none)
    (hs : startRequest q (headState s tag q) = (.answered .done [], completeChange (headState y tag q))) (hy : y.rex = s.rex) :
    exec i s = .next (withResponse { y with bke := { y.bke with cache := [] } } tag q.code .done []) := by
  rw [completeChange_of_idle (z := headState y tag q) hb] at hs
  exact exec_of_answered (t := { y with bke := { y.bke with cache := [] } }) hi hr him (by rw [admits, hg]) hs hy

/-! ### LINK-POINT -/

theorem startLink_of_table {z : State} {p target t : Nat} (hin : p ≤ 4095 ∧ target ≤ 4095 ∧ target ≠ p)
    (hroot : (z.district (pointDistrict target)).root.table = some t) :
    startLink p target z = await (.directory (.targetMain t)) z := by
  rw [startLink, if_neg (by simp only [Config.maxPoint]; omega), hroot]

theorem startLink_of_none {z : State} {p target : Nat} (hin : p ≤ 4095 ∧ target ≤ 4095 ∧ target ≠ p)
    (hroot : (z.district (pointDistrict target)).root.table = none) : startLink p target z = refuse .noRecord z := by
  rw [startLink, if_neg (by simp only [Config.maxPoint]; omega), hroot]

/-- Settles O35: the refusals at the start, and the five accesses over two sound paths. -/
theorem linkPointWritesAnIndirectLeaf : Obligations.LinkPointWritesAnIndirectLeaf := by
  unfold Obligations.LinkPointWritesAnIndirectLeaf
  intro s tag p target hr hi
  refine ⟨fun hrange => exec_start_refused (.linkPoint p target) rfl hr rfl rfl (if_pos hrange),
    fun hp ht hne hroot => exec_start_refused (.linkPoint p target) rfl hr rfl rfl (startLink_of_none ⟨hp, ht, hne⟩ hroot),
    fun m pt tm tpt slot hp ht hne hb hpath htpath hk => ?_⟩
  obtain ⟨hroot, htm, htd, htp⟩ := htpath
  have hstart : exec (.linkPoint tag p target) s = .next (startedHead s tag (.linkPoint p target) (.directory (.targetMain tm))) :=
    exec_start_awaits (.linkPoint p target) rfl hr rfl rfl hi (startLink_of_table ⟨hp, ht, hne⟩ hroot)
  have hmain : exec (.directoryAccessEnd []) (startedHead s tag (.linkPoint p target) (.directory (.targetMain tm)))
      = .next (startedHead s tag (.linkPoint p target) (.directory (.targetPoint tpt))) :=
    exec_access_awaits hr hi (directoryAccessEnd_ends _) (targetMainRead_of_table _ (clean_started htm) htd)
      ⟨rfl, rfl, rfl, rfl, rfl⟩
  have hpoint : exec (.directoryAccessEnd []) (startedHead s tag (.linkPoint p target) (.directory (.targetPoint tpt)))
      = .next (startedHead s tag (.linkPoint p target) (.directory (.ownMain m))) :=
    exec_access_awaits hr hi (directoryAccessEnd_ends _)
      ((targetPointRead_of_account _ (clean_started htp) hk).trans (enterPath_of_table _ hpath.1))
      ⟨rfl, rfl, rfl, rfl, rfl⟩
  exact ⟨hstart, after_cons hstart (after_cons hmain (after_cons hpoint
    (after_binding hr hi (.inr ⟨p, target, rfl⟩) hb hpath)))⟩

/-! ### SET-ROUTE -/

section

variable (n : Fin 2) {f : RouteSettings} (z : State)

theorem startRoute_of_number {k : Nat} (hk : 2 ≤ k) (f : RouteSettings) : startRoute k f z = refuse .range z := by
  simp only [startRoute, routeOf, show ¬ k < 2 by omega, dif_neg, not_false_eq_true]

theorem startRoute_of_range (h : 4095 < f.low ∨ 4095 < f.high ∨ f.high < f.low) : startRoute n f z = refuse .range z := by
  rw [startRoute, routeOf_val]
  exact if_pos h

variable (hlow : f.low ≤ f.high) (hhigh : f.high ≤ 4095)

include hlow hhigh

/-- Only a disabled route may name no account (05 R101). -/
theorem startRoute_of_slotless (hs : f.slot = none) :
    startRoute n f z = if f.enabled = true then refuse .range z else runPlan [.setRoute n f] z := by
  rw [startRoute, routeOf_val]
  refine (if_neg (by simp only [Config.maxPoint]; omega)).trans ?_
  rw [hs]

/-- The account a route names is read, but for the suspense account, which it may not name (05 R101). -/
theorem startRoute_of_slot {slot : Nat} (hs : f.slot = some slot) (h255 : slot ≤ 255) :
    startRoute n f z = if slot = 0 then refuse .wrongState z else await (.directory .account) z := by
  rw [startRoute, routeOf_val]
  refine (if_neg (by simp only [Config.maxPoint]; omega)).trans ?_
  rw [hs]
  exact if_neg (by omega)

end

/-- Settles O37: the refusals at the start, the route without an account, and the read of the account. -/
theorem setRouteWritesTheRoute : Obligations.SetRouteWritesTheRoute := by
  unfold Obligations.SetRouteWritesTheRoute
  intro s tag n f hr hi hb
  have refused {k : Nat} {r : Result} (h : ∀ z, startRoute k f z = refuse r z) :
      exec (.setRoute tag k f) s = .next (withResponse s tag 0x35 r []) :=
    exec_start_refused (.setRoute k f) rfl hr rfl rfl (h _)
  refine ⟨fun k hk => refused fun z => startRoute_of_number z hk f, fun h => refused fun z => startRoute_of_range n z h,
    fun hlow hhigh hs he => refused fun z => ?_, fun hlow hhigh hs => refused fun z => ?_, fun hlow hhigh hs he => ?_,
    fun slot hlow hhigh hs h1 h255 => ⟨fun hc hf => ?_, fun hd => ?_⟩, fun slot hlow hhigh hs h1 h255 hc hf => ?_⟩
  · rw [startRoute_of_slotless n z hlow hhigh hs, if_pos he]
  · rw [startRoute_of_slot n z hlow hhigh hs (by omega), if_pos rfl]
  · exact exec_start_done (y := s.modBke fun b => { b with routes := b.routes.set n f }) (.setRoute n f) rfl hr rfl rfl hb
      ((startRoute_of_slotless n _ hlow hhigh hs).trans (if_neg (by simp [he]))) rfl
  all_goals
    have hstart : exec (.setRoute tag n f) s = .next (startedHead s tag (.setRoute n f) (.directory .account)) :=
      exec_start_awaits (.setRoute n f) rfl hr rfl rfl hi
        ((startRoute_of_slot n _ hlow hhigh hs h255).trans (if_neg (by omega)))
    have hslot : checkedSlot (.setRoute n f) = slot := by simp [checkedSlot, hs]
  · exact after_cons hstart (after_cons (exec_access_answered hr hi (directoryAccessEnd_ends _)
      (accountRead_of_free _ hslot (clean_started hc) hf)) rfl)
  · exact after_cons hstart (after_cons (exec_access_answered hr hi (directoryAccessEnd_ends _)
      (accountRead_of_damaged _ hslot hd)) rfl)
  · exact ⟨hstart, after_cons hstart (after_cons (exec_access_done (y := s.modBke fun b => { b with routes := b.routes.set n f })
      hr hi (directoryAccessEnd_ends _) hb (accountRead_of_route _ hs (clean_started hc) hf) ⟨rfl, rfl, rfl, rfl, rfl⟩) rfl)⟩

/-! ### LOOK-POINT -/

section

variable {z : State} (g : Grant) {p m pt slot : Nat} {root d : Desc} {l : Leaf} (clear : Bool)

theorem startLookPoint_of_table (hp : p ≤ 4095) (hroot : (z.district (pointDistrict p)).root.table = some m) :
    startLookPoint p clear z = await (.lookPoint ⟨.ownMain m, ⟨(z.district (pointDistrict p)).root, none, none⟩, none⟩) z := by
  simp [startLookPoint, Config.maxPoint, show ¬ 4095 < p by omega, hroot]

/-- The read of a main table shows its descriptor, and goes on to the point table that it names (05 R107). -/
theorem lookPointAccess_ownMain (hc : Clean z (mainSlot m)) (hd : d = z.rst.desc m (mainIndex p)) (ht : d.table = some pt) :
    lookPointAccess g p clear ⟨.ownMain m, ⟨root, none, none⟩, none⟩ z
      = await (.lookPoint ⟨.ownPoint pt, ⟨root, some ⟨m, d, false⟩, none⟩, none⟩) z := by
  subst hd
  simp only [lookPointAccess, seeMain, judge_of_clean hc.1 hc.2, ht]

/-- LOOK-POINT's work once its two reads have shown a sound path (05 R107). -/
def pathSeen (stage : LookStage) (root : Desc) (m : Nat) (d : Desc) (pt : Nat) (l : Leaf) : LookWork :=
  ⟨stage, ⟨root, some ⟨m, d, false⟩, some ⟨pt, l, false⟩⟩, none⟩

/-- The read of a point table shows its leaf; an ACCOUNT leaf is the path's end (05 R107). -/
theorem lookPointAccess_ownPoint (hc : Clean z (pointSlot pt)) (hl : l = z.rst.leaf pt (pointIndex p)) (hk : l.kind = .account slot) :
    lookPointAccess g p clear ⟨.ownPoint pt, ⟨root, some ⟨m, d, false⟩, none⟩, none⟩ z
      = lookDone p clear (pathSeen (.ownPoint pt) root m d pt l) z := by
  subst hl
  simp only [lookPointAccess, seeLeaf, judge_of_clean hc.1 hc.2, lookTarget, hk, pathSeen]

/-- With the clear option LOOK-POINT goes on to clear BOOKED on the leaf it has read (05 R107). -/
theorem lookDone_of_clear {stage : LookStage} (hk : l.kind = .account slot) :
    lookDone p true (pathSeen stage root m d pt l) z
      = await (.lookPoint (pathSeen (.clearBooked ⟨pt, pointIndex p, .account slot⟩) root m d pt l)) z := by
  simp [lookDone, clearable, pathSeen, hk]

/-- A sound path to an ACCOUNT leaf leads to its account, with the bars passed added up (05 R94, R107). -/
theorem lookOutcome_of_account (hr : root.table = some m) (ht : d.table = some pt) (hk : l.kind = .account slot) :
    lookOutcome ⟨root, some ⟨m, d, false⟩, some ⟨pt, l, false⟩⟩ none
      = .inr (slot, root.barred || d.barred || l.barred, l.global) := by
  have hreaches : PathReport.reaches ⟨root, some ⟨m, d, false⟩, some ⟨pt, l, false⟩⟩ = .inr l := by
    simp [PathReport.reaches, hr, ht, hk]
  simp only [lookOutcome, hreaches, hk, PathReport.barred, Option.map_some, Option.getD_some]

/-- The report of a sound path to an ACCOUNT leaf (05 R107; logs 12 and 38). -/
theorem lookReport_pathSeen {stage : LookStage} (hr : root.table = some m) (ht : d.table = some pt) (hk : l.kind = .account slot) :
    lookReport p (pathSeen stage root m d pt l) z
      = pathFields ⟨root, some ⟨m, d, false⟩, some ⟨pt, l, false⟩⟩ ++ ([.presence false] : List Field)
        ++ ([.choice 0, .num 1 slot, .flag (root.barred || d.barred || l.barred), .flag l.global] : List Field)
        ++ optField n1 (z.bke.firstRoute p) := by
  rw [lookReport, pathSeen, lookOutcome_of_account hr ht hk]
  rfl

/-- The access that clears BOOKED ends LOOK-POINT as a change (05 R102, R107). -/
theorem lookPointAccess_clearBooked {own : LeafRef} (hc : Clean z (pointSlot own.table))
    (hk : (z.rst.leaf own.table own.index).kind = own.kind) :
    lookPointAccess g p clear (pathSeen (.clearBooked own) root m d pt l) z
      = (.answered .done (lookReport p (pathSeen (.clearBooked own) root m d pt l) (z.modRst fun r =>
            r.putLeaf own.table own.index { r.leaf own.table own.index with booked := false })),
          completeChange (z.modRst fun r => r.putLeaf own.table own.index { r.leaf own.table own.index with booked := false })) := by
  have hflag : flagLeaf own (fun l => { l with booked := false }) z.rst
      = z.rst.putLeaf own.table own.index { z.rst.leaf own.table own.index with booked := false } := by
    simp only [flagLeaf, hk, if_true]
  simp only [lookPointAccess, pathSeen, flagAccess, judge_of_clean hc.1 hc.2, State.modRst, hflag]

end

section

variable {s : State} {tag : Byte} {p m pt slot : Nat} {root d : Desc} {l : Leaf} (hr : Ready s) (hi : StoreIdle s) (clear : Bool)

include hr hi

/-- LOOK-POINT's read of its main table (05 R107). -/
theorem exec_look_ownMain (hm : Clean s (mainSlot m)) (hd : d = s.rst.desc m (mainIndex p)) (ht : d.table = some pt) :
    exec (.lookPointRead []) (startedHead s tag (.lookPoint p clear) (.lookPoint ⟨.ownMain m, ⟨root, none, none⟩, none⟩))
      = .next (startedHead s tag (.lookPoint p clear)
          (.lookPoint ⟨.ownPoint pt, ⟨root, some ⟨m, d, false⟩, none⟩, none⟩)) :=
  exec_access_awaits hr hi (lookPointRead_ends _) (lookPointAccess_ownMain _ clear (clean_started hm) hd ht)
    ⟨rfl, rfl, rfl, rfl, rfl⟩

variable (hp : Clean s (pointSlot pt)) (hl : l = s.rst.leaf pt (pointIndex p)) (hk : l.kind = .account slot)

include hp hl hk

/-- LOOK-POINT's read of its point table, without the clear option (05 R107). -/
theorem exec_look_ownPoint :
    exec (.lookPointRead []) (startedHead s tag (.lookPoint p false)
        (.lookPoint ⟨.ownPoint pt, ⟨root, some ⟨m, d, false⟩, none⟩, none⟩))
      = .next (withResponse (accessesDone s s.rst) tag 0x36 .done (lookReport p (pathSeen (.ownPoint pt) root m d pt l) s)) :=
  exec_access_answered hr hi (lookPointRead_ends _) (lookPointAccess_ownPoint _ false (clean_started hp) hl hk)

/-- LOOK-POINT's read of its point table, with the clear option (05 R107). -/
theorem exec_look_ownPoint_of_clear :
    exec (.lookPointRead []) (startedHead s tag (.lookPoint p true)
        (.lookPoint ⟨.ownPoint pt, ⟨root, some ⟨m, d, false⟩, none⟩, none⟩))
      = .next (startedHead s tag (.lookPoint p true)
          (.lookPoint (pathSeen (.clearBooked ⟨pt, pointIndex p, .account slot⟩) root m d pt l))) :=
  exec_access_awaits hr hi (lookPointRead_ends _)
    ((lookPointAccess_ownPoint _ true (clean_started hp) hl hk).trans (lookDone_of_clear hk)) ⟨rfl, rfl, rfl, rfl, rfl⟩

/-- LOOK-POINT's clearing of BOOKED (05 R107). -/
theorem exec_look_clearBooked (hb : s.bke.inHand = none) :
    exec (.lookPointRead []) (startedHead s tag (.lookPoint p true)
        (.lookPoint (pathSeen (.clearBooked ⟨pt, pointIndex p, .account slot⟩) root m d pt l)))
      = .next (withResponse (changeDone s (s.rst.putLeaf pt (pointIndex p) { l with booked := false })) tag 0x36 .done
          (lookReport p (pathSeen (.clearBooked ⟨pt, pointIndex p, .account slot⟩) root m d pt l) s)) := by
  subst hl
  exact exec_access_done (y := s.modRst fun r => r.putLeaf pt (pointIndex p) { r.leaf pt (pointIndex p) with booked := false })
    hr hi (lookPointRead_ends _) hb (lookPointAccess_clearBooked (own := ⟨pt, pointIndex p, .account slot⟩) _ true
      (clean_started hp) hk) ⟨rfl, rfl, rfl, rfl, rfl⟩

end

/-- Settles O38: the point out of range, the two reads, and with the option the access that clears BOOKED. -/
theorem lookPointReportsThePath : Obligations.LookPointReportsThePath := by
  unfold Obligations.LookPointReportsThePath
  intro s tag p hr hi
  refine ⟨fun clear hp => exec_start_refused (.lookPoint p clear) rfl hr rfl rfl (if_pos hp),
    fun m pt slot fields hp hpath hk hfields => ?_⟩
  obtain ⟨hroot, hm, ht, hpt⟩ := hpath
  have hstart (clear : Bool) : exec (.lookPoint tag p clear) s = .next (startedHead s tag (.lookPoint p clear)
      (.lookPoint ⟨.ownMain m, ⟨(s.district (pointDistrict p)).root, none, none⟩, none⟩)) :=
    exec_start_awaits (.lookPoint p clear) rfl hr rfl rfl hi (startLookPoint_of_table clear hp hroot)
  have hreport (stage : LookStage) : fields = lookReport p (pathSeen stage (s.district (pointDistrict p)).root m
      (s.rst.desc m (mainIndex p)) pt (s.rst.leaf pt (pointIndex p))) s := hfields.trans (lookReport_pathSeen hroot ht hk).symm
  refine ⟨hstart false, ?_, fun hb => ?_⟩
  · rw [hreport (.ownPoint pt)]
    exact after_cons (hstart false) (after_cons (exec_look_ownMain hr hi false hm rfl ht)
      (after_cons (exec_look_ownPoint hr hi hpt rfl hk) rfl))
  · rw [hreport (.clearBooked ⟨pt, pointIndex p, .account slot⟩)]
    exact after_cons (hstart true) (after_cons (exec_look_ownMain hr hi true hm rfl ht)
      (after_cons (exec_look_ownPoint_of_clear hr hi hpt rfl hk) (after_cons (exec_look_clearBooked hr hi hpt rfl hk hb) rfl)))

end Sys2Proof.DirectoryRequests

/-! PROOFS. MAP-POINT (05 R103, R109; O34): the read of its account, the plans that its path calls for, and the store they leave. -/

namespace Sys2Proof.Mapping

open Sys2Proof.Machine Sys2Proof.Safety Sys2Proof.DirectoryRequests Sys2Proof.Tables

/-! ### The start and the read of the account -/

section

variable {s : State} {tag : Byte} {p slot : Nat} {barred global : Bool}

theorem exec_mapPoint (hr : Ready s) (hi : StoreIdle s) (hp : p ≤ 4095) (h1 : 1 ≤ slot) (h255 : slot ≤ 255) :
    exec (.mapPoint tag p slot barred global) s
      = .next (startedHead s tag (.mapPoint p slot barred global) (.directory .account)) := by
  refine exec_start_awaits (.mapPoint p slot barred global) rfl hr rfl rfl hi ?_
  have hin : ¬ (Config.maxPoint < p ∨ 255 < slot) := by simp only [Config.maxPoint]; omega
  exact (if_neg hin).trans (if_neg (by omega))

variable (hr : Ready s) (hi : StoreIdle s) (hc : Clean s slot) (hf : (s.rst.account slot).state ≠ .free)

include hr hi hc hf

/-- The account stands, and the root names a main table, which is read (05 R103). -/
theorem exec_account_of_table {m : Nat} (hroot : (s.district (pointDistrict p)).root.table = some m) :
    exec (.directoryAccessEnd []) (startedHead s tag (.mapPoint p slot barred global) (.directory .account))
      = .next (startedHead s tag (.mapPoint p slot barred global) (.directory (.ownMain m))) :=
  exec_access_awaits hr hi (directoryAccessEnd_ends _)
    ((accountRead_of_map _ (clean_started hc) hf).trans (enterPath_of_table _ hroot)) ⟨rfl, rfl, rfl, rfl, rfl⟩

end

/-! ### Plans -/

section

variable {z : State} (p : Nat) (l : Leaf)

theorem planPointTable_of_empty (m : Nat) (barred : Bool) (h : z.rst.freePoints = []) :
    planPointTable p l m barred z = refuse .full z := by
  simp only [planPointTable, h]

theorem planPointTable_of_free (m : Nat) (barred : Bool) {pt : Nat} {ps : List Nat} (h : z.rst.freePoints = pt :: ps) :
    planPointTable p l m barred z = await (.directory (.actions [.allocPoint pt m (mainIndex p), .writeLeaf pt (pointIndex p) l,
      .writeMain m (mainIndex p) ⟨some pt, barred, false⟩])) z := by
  simp only [planPointTable, h]
  rfl

theorem planWholePath_of_empty (h : z.rst.freeMains = [] ∨ z.rst.freePoints = []) : planWholePath p l z = refuse .full z := by
  unfold planWholePath
  rcases h with h | h
  · simp only [h]
  · cases hm : z.rst.freeMains <;> simp only [h]

theorem planWholePath_of_free {mt pt : Nat} {ms ps : List Nat} (hm : z.rst.freeMains = mt :: ms) (hp : z.rst.freePoints = pt :: ps) :
    planWholePath p l z = await (.directory (.actions [.allocPoint pt mt (mainIndex p), .writeLeaf pt (pointIndex p) l,
      .allocMain mt (pointDistrict p), .writeMain mt (mainIndex p) ⟨some pt, false, false⟩,
      .setRoot (pointDistrict p) ⟨some mt, (z.district (pointDistrict p)).root.barred, false⟩])) z := by
  simp only [planWholePath, hm, hp]
  rfl

end

/-- A plan whose first action writes without a read (05 R91). -/
theorem runPlan_of_access {a : DirAction} (plan : List DirAction) (z : State) (h : ∀ z, actAtOnce a z = none) :
    runPlan (a :: plan) z = await (.directory (.actions (a :: plan))) z := by
  rw [runPlan, h]

/-! ### The accesses of the plans -/

section

variable {x : State} {tag : Byte} {q : Request} {a : DirAction} {rest : List DirAction} (hr : Ready x) (hi : StoreIdle x)
  (ha : ∀ z, actAtOnce a z = none)

include hr hi ha

/-- A point table is allocated, and the plan goes on to an access (05 R91). -/
theorem exec_allocPoint (pt m i : Nat) :
    exec (.directoryAccessEnd []) (startedHead x tag q (.directory (.actions (.allocPoint pt m i :: a :: rest))))
      = .next (startedHead (x.modRst fun r => r.allocPoint pt m i) tag q (.directory (.actions (a :: rest)))) :=
  exec_action_awaits (y := x.modRst fun r => r.allocPoint pt m i) hr hi rfl (runPlan_of_access rest _ ha)
    ⟨rfl, rfl, rfl, rfl, rfl⟩

theorem exec_allocMain (mt : Nat) (d : DistrictId) :
    exec (.directoryAccessEnd []) (startedHead x tag q (.directory (.actions (.allocMain mt d :: a :: rest))))
      = .next (startedHead (x.modRst fun r => r.allocMain mt d) tag q (.directory (.actions (a :: rest)))) :=
  exec_action_awaits (y := x.modRst fun r => r.allocMain mt d) hr hi rfl (runPlan_of_access rest _ ha)
    ⟨rfl, rfl, rfl, rfl, rfl⟩

theorem exec_reinitPoint (pt : Nat) :
    exec (.directoryAccessEnd []) (startedHead x tag q (.directory (.actions (.reinitPoint pt :: a :: rest))))
      = .next (startedHead (x.modRst fun r => r.initPoint pt) tag q (.directory (.actions (a :: rest)))) :=
  exec_action_awaits (y := x.modRst fun r => r.initPoint pt) hr hi rfl (runPlan_of_access rest _ ha)
    ⟨rfl, rfl, rfl, rfl, rfl⟩

theorem exec_writeLeaf {pt : Nat} (i : Nat) (l : Leaf) (hp : Clean x (pointSlot pt)) :
    exec (.directoryAccessEnd []) (startedHead x tag q (.directory (.actions (.writeLeaf pt i l :: a :: rest))))
      = .next (startedHead (x.modRst fun r => r.putLeaf pt i l) tag q (.directory (.actions (a :: rest)))) :=
  exec_action_awaits (y := x.modRst fun r => r.putLeaf pt i l) hr hi (actAccess_writeLeaf _ _ i l hp)
    (runPlan_of_access rest _ ha) ⟨rfl, rfl, rfl, rfl, rfl⟩

end

/-- The write of a main descriptor that names a table, with which its request completes (05 R91, R102). -/
theorem exec_writeMain_done {x : State} {tag : Byte} {q : Request} {m : Nat} (hr : Ready x) (hi : StoreIdle x)
    (hb : x.bke.inHand = none) (hm : Clean x (mainSlot m)) (i pt : Nat) (barred : Bool) :
    exec (.directoryAccessEnd []) (startedHead x tag q (.directory (.actions [.writeMain m i ⟨some pt, barred, false⟩])))
      = .next (withResponse (changeDone x ((x.rst.putDesc m i ⟨some pt, barred, false⟩).settlePoint pt)) tag q.code .done []) :=
  exec_action_done (z := x.modRst fun r => (r.putDesc m i ⟨some pt, barred, false⟩).settlePoint pt) hr hi
    (y := x.modRst fun r => (r.putDesc m i ⟨some pt, barred, false⟩).settlePoint pt)
    (writeAccess_of_clean _ (writeDesc m i ⟨some pt, barred, false⟩) (clean_started hm)) hb rfl ⟨rfl, rfl, rfl, rfl, rfl⟩

/-- The write of a main descriptor behind which the root is set to name its table (05 R91, R103). -/
theorem exec_writeMain_setRoot {x : State} {tag : Byte} {q : Request} {mt : Nat} (hr : Ready x) (hi : StoreIdle x)
    (hb : x.bke.inHand = none) (hm : Clean x (mainSlot mt)) (i pt : Nat) (d : DistrictId) (barred : Bool) :
    exec (.directoryAccessEnd []) (startedHead x tag q (.directory (.actions [.writeMain mt i ⟨some pt, false, false⟩,
        .setRoot d ⟨some mt, barred, false⟩])))
      = .next (withResponse (changeDone (x.modDistrict d fun r => { r with root := ⟨some mt, barred, false⟩ })
          (((x.rst.putDesc mt i ⟨some pt, false, false⟩).settlePoint pt).settleMain mt)) tag q.code .done []) :=
  exec_action_done
    (z := (x.modDistrict d fun r => { r with root := ⟨some mt, barred, false⟩ }).modRst
      fun r => ((r.putDesc mt i ⟨some pt, false, false⟩).settlePoint pt).settleMain mt) hr hi
    (y := x.modRst fun r => (r.putDesc mt i ⟨some pt, false, false⟩).settlePoint pt)
    (writeAccess_of_clean _ (writeDesc mt i ⟨some pt, false, false⟩) (clean_started hm)) hb rfl ⟨rfl, rfl, rfl, rfl, rfl⟩

/-! ### Writes to the store alone -/

theorem arbiter_allocMain (r : Rst) (mt : Nat) (d : DistrictId) : (r.allocMain mt d).arbiter = r.arbiter := rfl

section

variable (x : State) {f : Rst → Rst} (h : (f x.rst).arbiter = x.rst.arbiter)

include h

theorem beside_modRst : Beside x (x.modRst f) := ⟨rfl, rfl, rfl, rfl, h⟩

/-- What a request leaves of the store is all that its answer shows of its writes there (05 R102). -/
theorem changeDone_modRst (r : Rst) : changeDone (x.modRst f) r = changeDone x r := by
  simp only [changeDone, accessesDone, State.modRst, h]

theorem changeDone_modRst_modDistrict (d : DistrictId) (u : District → District) (r : Rst) :
    changeDone ((x.modRst f).modDistrict d u) r = changeDone (x.modDistrict d u) r := by
  simp only [changeDone, accessesDone, State.modRst, State.modDistrict, h]
  rfl

end

/-- A point table is settled beside the allocation of a main table (05 R91). -/
theorem settlePoint_allocMain (r : Rst) (mt : Nat) (d : DistrictId) (i : Nat) (v : Desc) (pt : Nat) :
    (((r.allocMain mt d).putDesc mt i v).settlePoint pt).settleMain mt
      = (((r.settlePoint pt).allocMain mt d).putDesc mt i v).settleMain mt := rfl

/-- A root is written with its BARRED kept (05 R91). -/
theorem modDistrict_barred_kept (x : State) (d : DistrictId) (t : Option Nat) :
    (x.modDistrict d fun r => { r with root := ⟨t, (x.district d).root.barred, false⟩ })
      = x.modDistrict d fun r => { r with root := ⟨t, r.root.barred, false⟩ } := rfl

/-! ### A point table and its first leaf -/

/-- The state once a point table has been allocated and its first leaf written (05 R91, R103). -/
def pointBound (x : State) (pt m i j : Nat) (l : Leaf) : State := x.modRst fun r => (r.allocPoint pt m i).putLeaf pt j l

/-- As `pointBound`, once the main table above it has been allocated as well (05 R91, R103). -/
def tablesBound (x : State) (pt mt i j : Nat) (l : Leaf) (d : DistrictId) : State :=
  x.modRst fun r => ((r.allocPoint pt mt i).putLeaf pt j l).allocMain mt d

theorem tablesBound_rst (x : State) (pt mt i j : Nat) (l : Leaf) (d : DistrictId) :
    (tablesBound x pt mt i j l d).rst = ((x.rst.allocPoint pt mt i).putLeaf pt j l).allocMain mt d := rfl

theorem arbiter_pointBound (r : Rst) (pt m i j : Nat) (l : Leaf) : ((r.allocPoint pt m i).putLeaf pt j l).arbiter = r.arbiter := rfl

theorem arbiter_tablesBound (r : Rst) (pt mt i j : Nat) (l : Leaf) (d : DistrictId) :
    (((r.allocPoint pt mt i).putLeaf pt j l).allocMain mt d).arbiter = r.arbiter :=
  (arbiter_allocMain ..).trans (arbiter_pointBound r pt mt i j l)

theorem beside_pointBound (x : State) (pt m i j : Nat) (l : Leaf) : Beside x (pointBound x pt m i j l) :=
  beside_modRst x (f := fun r => (r.allocPoint pt m i).putLeaf pt j l) (arbiter_pointBound ..)

theorem beside_tablesBound (x : State) (pt mt i j : Nat) (l : Leaf) (d : DistrictId) : Beside x (tablesBound x pt mt i j l d) :=
  beside_modRst x (f := fun r => ((r.allocPoint pt mt i).putLeaf pt j l).allocMain mt d) (arbiter_tablesBound ..)

section

variable {x : State} {tag : Byte} {q : Request} {pt m i j n : Nat} {l : Leaf} (hcanon : Canon x.rst)

include hcanon

theorem clean_pointBound (h : Clean x n) : Clean (pointBound x pt m i j l) n :=
  cleanSlot_putLeaf (canonical_writeAt (pointSlot pt) 0 hcanon.flaws) j l
    (cleanSlot_allocPoint hcanon.flaws hcanon.damaged m i (.inl h))

/-- The first two accesses of a plan that allocates a point table (05 R103). -/
theorem after_allocPoint (hr : Ready x) (hi : StoreIdle x) {a : DirAction} (ha : ∀ z, actAtOnce a z = none)
    (rest : List DirAction) (cs : List Instr) :
    after (.directoryAccessEnd [] :: .directoryAccessEnd [] :: cs)
        (startedHead x tag q (.directory (.actions (.allocPoint pt m i :: .writeLeaf pt j l :: a :: rest))))
      = after cs (startedHead (pointBound x pt m i j l) tag q (.directory (.actions (a :: rest)))) := by
  have hclean : Clean (x.modRst fun r => r.allocPoint pt m i) (pointSlot pt) :=
    cleanSlot_allocPoint hcanon.flaws hcanon.damaged m i (.inr rfl)
  exact after_cons (exec_allocPoint hr hi (fun _ => rfl) pt m i)
    (after_cons (exec_writeLeaf (x := x.modRst fun r => r.allocPoint pt m i) hr hi ha j l hclean) rfl)

end

/-! ### Whole plans -/

section

variable {x : State} {tag : Byte} {q : Request} {m pt : Nat} (hr : Ready x) (hi : StoreIdle x) (hb : x.bke.inHand = none)
  (hq : Binds q) (hcanon : Canon x.rst)

include hr hi hb hcanon

/-- The plan of a binding whose main descriptor is INVALID (05 R103). -/
theorem after_newPoint {i j : Nat} {l : Leaf} {ps : List Nat} (hl : l ≠ Leaf.invalid) (hm : Clean x (mainSlot m)) (barred : Bool)
    (hfree : x.rst.freePoints = pt :: ps) (hnew : pt ∉ ps) :
    after [.directoryAccessEnd [], .directoryAccessEnd [], .directoryAccessEnd []] (startedHead x tag q (.directory (.actions
        [.allocPoint pt m i, .writeLeaf pt j l, .writeMain m i ⟨some pt, barred, false⟩])))
      = .next (withResponse (changeDone x ((withPointTable x.rst pt m i [(j, l)] ps).putDesc m i ⟨some pt, barred, false⟩))
          tag q.code .done []) := by
  have hbeside := beside_pointBound x pt m i j l
  have hwrite := exec_writeMain_done (tag := tag) (q := q) (hbeside.ready hr) (hbeside.idle hi) (hbeside.inHand.trans hb)
    (clean_pointBound hcanon hm) i pt barred
  rw [pointBound, changeDone_modRst x (arbiter_pointBound ..)] at hwrite
  rw [after_allocPoint hcanon hr hi fun _ => rfl, ← settlePoint_allocPoint hcanon hfree hnew m i j hl]
  exact after_cons hwrite rfl

/-- The plan of a binding whose path has no main table (05 R103). -/
theorem after_wholePath {mt i j : Nat} {ms ps : List Nat} {l : Leaf} (hl : l ≠ Leaf.invalid) (d : DistrictId)
    (hms : x.rst.freeMains = mt :: ms) (hps : x.rst.freePoints = pt :: ps) (hmt : mt ∉ ms) (hpt : pt ∉ ps) :
    after [.directoryAccessEnd [], .directoryAccessEnd [], .directoryAccessEnd [], .directoryAccessEnd []]
        (startedHead x tag q (.directory (.actions [.allocPoint pt mt i, .writeLeaf pt j l, .allocMain mt d,
          .writeMain mt i ⟨some pt, false, false⟩, .setRoot d ⟨some mt, (x.district d).root.barred, false⟩])))
      = .next (withResponse (changeDone (x.modDistrict d fun r => { r with root := ⟨some mt, r.root.barred, false⟩ })
          (withMainTable (withPointTable x.rst pt mt i [(j, l)] ps) mt d [(i, ⟨some pt, false, false⟩)] ms)) tag q.code .done []) := by
  have hcanon' := hcanon.withPointTable (t := pt) mt i (ls := [(j, l)]) (by simp [canonical, allAbove, hl]) ps
  have hclean : Clean (tablesBound x pt mt i j l d) (mainSlot mt) :=
    cleanSlot_allocMain (r := (x.rst.allocPoint pt mt i).putLeaf pt j l)
      (canonical_writeAt _ _ (canonical_writeAt (pointSlot pt) 0 hcanon.flaws))
      (canonical_writeAt (pointSlot pt) false hcanon.damaged) d (.inr rfl)
  have halloc : exec (.directoryAccessEnd []) (startedHead (pointBound x pt mt i j l) tag q (.directory (.actions
      [.allocMain mt d, .writeMain mt i ⟨some pt, false, false⟩, .setRoot d ⟨some mt, (x.district d).root.barred, false⟩])))
      = .next (startedHead (tablesBound x pt mt i j l d) tag q (.directory (.actions
        [.writeMain mt i ⟨some pt, false, false⟩, .setRoot d ⟨some mt, (x.district d).root.barred, false⟩]))) :=
    exec_allocMain ((beside_pointBound ..).ready hr) ((beside_pointBound ..).idle hi) (fun _ => rfl) mt d
  have hbeside := beside_tablesBound x pt mt i j l d
  have hwrite := exec_writeMain_setRoot (tag := tag) (q := q) (hbeside.ready hr) (hbeside.idle hi) (hbeside.inHand.trans hb)
    hclean i pt d (x.district d).root.barred
  rw [show ∀ u r, changeDone ((tablesBound x pt mt i j l d).modDistrict d u) r = changeDone (x.modDistrict d u) r from
    changeDone_modRst_modDistrict x (arbiter_tablesBound ..) d, modDistrict_barred_kept, tablesBound_rst, settlePoint_allocMain,
    settlePoint_allocPoint hcanon hps hpt mt i j hl, settleMain_allocMain hcanon' hms hmt d i (by simp [Desc.invalid])] at hwrite
  rw [after_allocPoint hcanon hr hi fun _ => rfl]
  exact after_cons halloc (after_cons hwrite rfl)

/-- The plan of a binding through a damaged point table, which is initialised and keeps the one leaf alone (05 R109). -/
theorem after_reinitPoint {j : Nat} {l : Leaf} (hl : l ≠ Leaf.invalid) :
    after [.directoryAccessEnd [], .directoryAccessEnd []]
        (startedHead x tag q (.directory (.actions [.reinitPoint pt, .writeLeaf pt j l])))
      = .next (withResponse (changeDone x { x.rst with
          points := writeAt [] x.rst.points pt [(j, l)]
          flaws := writeAt 0 x.rst.flaws (pointSlot pt) 0
          damaged := writeAt false x.rst.damaged (pointSlot pt) false }) tag q.code .done []) := by
  have hclean : Clean (x.modRst fun r => r.initPoint pt) (pointSlot pt) :=
    cleanSlot_initPoint hcanon.flaws hcanon.damaged (.inr rfl)
  have hwrite := exec_writeLeaf_done (x := x.modRst fun r => r.initPoint pt) (tag := tag) (q := q) (i := j) (l := l) hr hi hb hclean
  rw [changeDone_modRst x rfl] at hwrite
  rw [← putLeaf_initPoint hcanon j hl]
  exact after_cons (exec_reinitPoint hr hi (fun _ => rfl) pt) (after_cons hwrite rfl)

end

/-- Settles O34: the refusals, the leaf written over a sound path, the tables allocated, and the damaged point table. -/
theorem mapPointWritesOneLeaf : Obligations.MapPointWritesOneLeaf := by
  unfold Obligations.MapPointWritesOneLeaf
  intro s tag p slot barred global hr hi
  have hbind : Binds (.mapPoint p slot barred global) := .inl ⟨p, slot, barred, global, rfl⟩
  have hleaf : (⟨.account slot, barred, false, false, global⟩ : Leaf) ≠ Leaf.invalid := by simp [Leaf.invalid]
  refine ⟨fun hrange => exec_start_refused (.mapPoint p slot barred global) rfl hr rfl rfl (if_pos hrange), fun hp => ?_,
    fun hp h1 h255 => ⟨exec_mapPoint hr hi hp h1 h255, fun hc hf => ?_, fun hd => ?_⟩,
    fun m pt hp h1 h255 hb hc hf hpath => ?_, fun hp h1 h255 hb hsound hc hf => ⟨fun hroot => ⟨fun hempty => ?_, ?_⟩,
      fun m hroot _ hm ht => ⟨fun hempty => ?_, fun pt ps hfree hnew _ => ?_⟩, fun m pt hroot hm ht hd => ?_⟩⟩
  · exact exec_start_refused (.mapPoint p 0 barred global) rfl hr rfl rfl
      ((if_neg (by simp only [Config.maxPoint]; omega)).trans (if_pos rfl))
  · exact after_cons (exec_mapPoint hr hi hp h1 h255) (after_cons (exec_access_answered hr hi (directoryAccessEnd_ends _)
      (accountRead_of_free _ rfl (clean_started hc) hf)) rfl)
  · exact after_cons (exec_mapPoint hr hi hp h1 h255) (after_cons (exec_access_answered hr hi (directoryAccessEnd_ends _)
      (accountRead_of_damaged _ rfl hd)) rfl)
  · exact after_cons (exec_mapPoint hr hi hp h1 h255) (after_cons (exec_account_of_table hr hi hc hf hpath.1)
      (after_binding hr hi hbind hb hpath))
  · exact after_cons (exec_mapPoint hr hi hp h1 h255) (after_cons (exec_access_answered hr hi (directoryAccessEnd_ends _)
      ((accountRead_of_map _ (clean_started hc) hf).trans ((enterPath_of_none _ (by exact hroot)).trans
        (planWholePath_of_empty p _ hempty)))) rfl)
  · intro mt ms pt ps hms hps hmt hpt _ _
    have hplan : exec (.directoryAccessEnd []) (startedHead s tag (.mapPoint p slot barred global) (.directory .account))
        = .next (startedHead s tag (.mapPoint p slot barred global) (.directory (.actions [.allocPoint pt mt (mainIndex p),
          .writeLeaf pt (pointIndex p) ⟨.account slot, barred, false, false, global⟩, .allocMain mt (pointDistrict p),
          .writeMain mt (mainIndex p) ⟨some pt, false, false⟩,
          .setRoot (pointDistrict p) ⟨some mt, (s.district (pointDistrict p)).root.barred, false⟩]))) :=
      exec_access_awaits hr hi (directoryAccessEnd_ends _) ((accountRead_of_map _ (clean_started hc) hf).trans
        ((enterPath_of_none _ (by exact hroot)).trans (planWholePath_of_free p _ hms hps))) ⟨rfl, rfl, rfl, rfl, rfl⟩
    exact after_cons (exec_mapPoint hr hi hp h1 h255) (after_cons hplan
      (after_wholePath hr hi hb (canon_of_storesSound hsound) hleaf _ hms hps hmt hpt))
  · exact after_cons (exec_mapPoint hr hi hp h1 h255) (after_cons (exec_account_of_table hr hi hc hf hroot)
      (after_cons (exec_access_answered hr hi (directoryAccessEnd_ends _) ((ownMainRead_of_clean _ (clean_started hm)).trans
        ((ownMainSound_of_binds hbind (by exact ht)).trans (planPointTable_of_empty p _ m _ hempty)))) rfl))
  · have hplan : exec (.directoryAccessEnd []) (startedHead s tag (.mapPoint p slot barred global) (.directory (.ownMain m)))
        = .next (startedHead s tag (.mapPoint p slot barred global) (.directory (.actions [.allocPoint pt m (mainIndex p),
          .writeLeaf pt (pointIndex p) ⟨.account slot, barred, false, false, global⟩,
          .writeMain m (mainIndex p) ⟨some pt, (s.rst.desc m (mainIndex p)).barred, false⟩]))) :=
      exec_access_awaits hr hi (directoryAccessEnd_ends _) ((ownMainRead_of_clean _ (clean_started hm)).trans
        ((ownMainSound_of_binds hbind (by exact ht)).trans (planPointTable_of_free p _ m _ hfree))) ⟨rfl, rfl, rfl, rfl, rfl⟩
    exact after_cons (exec_mapPoint hr hi hp h1 h255) (after_cons (exec_account_of_table hr hi hc hf hroot) (after_cons hplan
      (after_newPoint hr hi hb (canon_of_storesSound hsound) hleaf hm _ hfree hnew)))
  · have hplan : exec (.directoryAccessEnd [])
        (startedHead s tag (.mapPoint p slot barred global) (.directory (.ownPoint m (s.rst.desc m (mainIndex p)) pt)))
        = .next (startedHead s tag (.mapPoint p slot barred global) (.directory (.actions [.reinitPoint pt,
          .writeLeaf pt (pointIndex p) ⟨.account slot, barred, false, false, global⟩]))) :=
      exec_access_awaits hr hi (directoryAccessEnd_ends _)
        ((ownPointRead_of_damaged _ (by exact hd)).trans (ownPointDamaged_of_binds hbind)) ⟨rfl, rfl, rfl, rfl, rfl⟩
    exact after_cons (exec_mapPoint hr hi hp h1 h255) (after_cons (exec_account_of_table hr hi hc hf hroot)
      (after_cons (exec_ownMain hr hi hbind.actsOnLeaf hm rfl ht) (after_cons hplan
        (after_reinitPoint hr hi hb (canon_of_storesSound hsound) hleaf))))

end Sys2Proof.Mapping

/-! PROOFS. UNMAP-POINT, BAR and UNBAR (05 R105, R106; O36): the leaf made INVALID, the tables that it leaves empty and that are freed,
and the one BARRED flag. -/

namespace Sys2Proof.Unmapping

open Sys2Proof.Machine Sys2Proof.Safety Sys2Proof.DirectoryRequests Sys2Proof.Tables Sys2Proof.Mapping

/-! ### Tables left empty -/

section

variable {r : Rst} (hc : Canon r) (t i : Nat)

include hc

theorem pointTable_putLeaf (l : Leaf) : (r.putLeaf t i l).pointTable t = writeAt Leaf.invalid (r.pointTable t) i l :=
  readAt_writeAt_self t _ hc.points

/-- A bound leaf beside the one made INVALID keeps a point table in use (05 R105). -/
theorem pointTable_in_use {j : Nat} (hj : j ≠ i) (hk : (r.leaf t j).kind ≠ .invalid) :
    ((r.putLeaf t i Leaf.invalid).pointTable t).all (fun q => decide (q.2.kind = .invalid)) = false := by
  have hread : readAt Leaf.invalid ((r.putLeaf t i Leaf.invalid).pointTable t) j = r.leaf t j := by
    rw [pointTable_putLeaf hc, readAt_writeAt_ne _ hj]
    rfl
  have hmem := mem_of_readAt_ne (blank := Leaf.invalid) (n := j) (m := (r.putLeaf t i Leaf.invalid).pointTable t) (by
    rw [hread]
    exact fun h => hk (congrArg Leaf.kind h))
  rw [hread] at hmem
  exact List.all_eq_false.2 ⟨_, hmem, by simpa using hk⟩

/-- A point table whose other leaves are all INVALID is left empty (05 R105). -/
theorem pointTable_empty (h : ∀ q ∈ r.pointTable t, q.1 ≠ i → q.2.kind = .invalid) :
    ((r.putLeaf t i Leaf.invalid).pointTable t).all (fun q => decide (q.2.kind = .invalid)) = true := by
  rw [pointTable_putLeaf hc]
  refine List.all_eq_true.2 fun q hq => decide_eq_true ?_
  rcases mem_writeAt (hc.leaves t) hq with rfl | ⟨hq, hne⟩
  · rfl
  · exact h q hq hne

end

section

variable {r : Rst} {t : Nat} (hmains : canonical [] r.mains = true) (i : Nat)

include hmains

theorem mainTable_putDesc (d : Desc) : (r.putDesc t i d).mainTable t = writeAt Desc.invalid (r.mainTable t) i d :=
  readAt_writeAt_self t _ hmains

/-- A TABLE descriptor beside the one made INVALID keeps a main table in use (05 R105). -/
theorem mainTable_in_use (barred : Bool) (h : ∃ q ∈ r.mainTable t, q.1 ≠ i ∧ q.2.table ≠ none) :
    allInvalid ((r.putDesc t i ⟨none, barred, false⟩).mainTable t) = false := by
  obtain ⟨q, hq, hne, ht⟩ := h
  rw [mainTable_putDesc hmains]
  exact List.all_eq_false.2 ⟨q, mem_writeAt_of_ne _ hq hne, by simpa using ht⟩

/-- A main table whose other descriptors are all INVALID is left empty (05 R105). -/
theorem mainTable_empty (hdescs : canonical Desc.invalid (r.mainTable t) = true) (barred : Bool)
    (h : ∀ q ∈ r.mainTable t, q.1 ≠ i → q.2.table = none) :
    allInvalid ((r.putDesc t i ⟨none, barred, false⟩).mainTable t) = true := by
  rw [mainTable_putDesc hmains]
  refine List.all_eq_true.2 fun q hq => ?_
  rcases mem_writeAt hdescs hq with rfl | ⟨hq, hne⟩
  · rfl
  · rw [h q hq hne]
    rfl

end

/-- A table that is not free joins the tail of its free list (05 R91). -/
theorem addNew_of_not_mem {l : List Nat} {x : Nat} (h : x ∉ l) : addNew l x = l ++ [x] := by
  rw [addNew, if_neg h]

/-! ### What UNMAP-POINT's reads find -/

section

variable {z : State} {p m i t : Nat} {d : Desc} {barred : Bool} (g : Grant)

theorem ownPointSound_unmap_of_invalid (hk : (z.rst.leaf t (pointIndex p)).kind = .invalid) :
    ownPointSound (.unmapPoint p) m d t z = refuse .noRecord z := by
  simp [ownPointSound, requestPoint, hk]

theorem ownPointSound_unmap_of_bound (hk : (z.rst.leaf t (pointIndex p)).kind ≠ .invalid) :
    ownPointSound (.unmapPoint p) m d t z = await (.directory (.actions
      [.writeLeaf t (pointIndex p) Leaf.invalid, .recheckPoint m (mainIndex p) t d.barred])) z := by
  simp only [ownPointSound, requestPoint, hk, ne_eq, not_false_eq_true, decide_true, if_true]
  rfl

/-- A point table that reads empty has its descriptor made INVALID and is freed (05 R105). -/
theorem actAccess_recheckPoint_of_empty (hc : Clean z (pointSlot t))
    (h : (z.rst.pointTable t).all (fun q => decide (q.2.kind = .invalid)) = true) :
    actAccess g p (.recheckPoint m i t barred) z
      = (some [.writeMain m i ⟨none, barred, false⟩, .freePoint t, .recheckMain m], z) := by
  simp only [actAccess, judge_of_clean hc.1 hc.2, afterRecheckPoint, h, or_true, if_true]

theorem actAccess_recheckPoint_in_use (hc : Clean z (pointSlot t))
    (h : (z.rst.pointTable t).all (fun q => decide (q.2.kind = .invalid)) = false) :
    actAccess g p (.recheckPoint m i t barred) z = (some [], z) := by
  simp [actAccess, judge_of_clean hc.1 hc.2, afterRecheckPoint, h]

/-- A main table that reads empty has its root made INVALID and is freed (05 R105). -/
theorem actAccess_recheckMain_of_empty (hc : Clean z (mainSlot m)) (h : allInvalid (z.rst.mainTable m) = true) :
    actAccess g p (.recheckMain m) z = (some [.setRoot (pointDistrict p)
      ⟨none, (z.district (pointDistrict p)).root.barred, false⟩, .freeMain m], z) := by
  simp [actAccess, judge_of_clean hc.1 hc.2, afterRecheckMain, h]

theorem actAccess_recheckMain_in_use (hc : Clean z (mainSlot m)) (h : allInvalid (z.rst.mainTable m) = false) :
    actAccess g p (.recheckMain m) z = (some [], z) := by
  simp [actAccess, judge_of_clean hc.1 hc.2, afterRecheckMain, h]

end

/-- The write that makes a main descriptor INVALID (05 R92). -/
theorem actAccess_writeMain_invalid {x : State} {tag : Byte} {q : Request} {w : HeadWork} {m : Nat} (g : Grant) (p i : Nat)
    (barred : Bool) (hc : Clean x (mainSlot m)) :
    actAccess g p (.writeMain m i ⟨none, barred, false⟩) (startedHead x tag q w)
      = (some [], startedHead (x.modRst fun r => r.putDesc m i ⟨none, barred, false⟩) tag q w) :=
  writeAccess_of_clean g (writeDesc m i ⟨none, barred, false⟩) (clean_started hc)

/-! ### UNMAP-POINT's accesses -/

theorem unmap_actsOnLeaf (p : Nat) : ActsOnLeaf (.unmapPoint p) := fun _ => ⟨by simp, by simp⟩

/-- A shared request on a path whose root names a main table starts by reading it (05 R105, R106). -/
theorem exec_enterPath {i : Instr} {s : State} {tag : Byte} {m : Nat} (q : Request) (hi : i.request = some (tag, q)) (hr : Ready s)
    (hidle : StoreIdle s) (him : immediate tag q s = none) (hg : groupOf q.code = .shared)
    (hstart : ∀ z, startRequest q z = enterPath (requestPoint q) (refuse .noRecord) z)
    (hroot : (s.district (pointDistrict (requestPoint q))).root.table = some m) :
    exec i s = .next (startedHead s tag q (.directory (.ownMain m))) :=
  exec_start_awaits q hi hr him hg hidle ((hstart _).trans (enterPath_of_table _ hroot))

section

variable {x : State} {tag : Byte} {q : Request} {m i pt : Nat} {barred : Bool} (hr : Ready x) (hi : StoreIdle x)

include hr hi

/-- The read behind UNMAP-POINT's write finds the table in use, and the request completes (05 R105). -/
theorem exec_recheckPoint_in_use (hb : x.bke.inHand = none) (hp : Clean x (pointSlot pt))
    (h : (x.rst.pointTable pt).all (fun q => decide (q.2.kind = .invalid)) = false) :
    exec (.directoryAccessEnd []) (startedHead x tag q (.directory (.actions [.recheckPoint m i pt barred])))
      = .next (withResponse (changeDone x x.rst) tag q.code .done []) :=
  exec_action_done hr hi (actAccess_recheckPoint_in_use _ (clean_started hp) h) hb rfl ⟨rfl, rfl, rfl, rfl, rfl⟩

/-- The read behind UNMAP-POINT's write finds the table empty (05 R105). -/
theorem exec_recheckPoint_of_empty (hp : Clean x (pointSlot pt))
    (h : (x.rst.pointTable pt).all (fun q => decide (q.2.kind = .invalid)) = true) :
    exec (.directoryAccessEnd []) (startedHead x tag q (.directory (.actions [.recheckPoint m i pt barred])))
      = .next (startedHead x tag q (.directory (.actions
          [.writeMain m i ⟨none, barred, false⟩, .freePoint pt, .recheckMain m]))) :=
  exec_action_awaits hr hi (actAccess_recheckPoint_of_empty _ (clean_started hp) h) rfl ⟨rfl, rfl, rfl, rfl, rfl⟩

/-- The main descriptor goes INVALID, and the table that it named is freed (05 R91, R105). -/
theorem exec_writeMain_freePoint (hm : Clean x (mainSlot m)) :
    exec (.directoryAccessEnd []) (startedHead x tag q (.directory (.actions
        [.writeMain m i ⟨none, barred, false⟩, .freePoint pt, .recheckMain m])))
      = .next (startedHead (x.modRst fun r => (r.putDesc m i ⟨none, barred, false⟩).freePoint pt) tag q
          (.directory (.actions [.recheckMain m]))) :=
  exec_action_awaits (y := x.modRst fun r => r.putDesc m i ⟨none, barred, false⟩) hr hi
    (actAccess_writeMain_invalid _ _ i barred hm) rfl ⟨rfl, rfl, rfl, rfl, rfl⟩

/-- The read of the main table finds it in use, and the request completes (05 R105). -/
theorem exec_recheckMain_in_use (hb : x.bke.inHand = none) (hm : Clean x (mainSlot m))
    (h : allInvalid (x.rst.mainTable m) = false) :
    exec (.directoryAccessEnd []) (startedHead x tag q (.directory (.actions [.recheckMain m])))
      = .next (withResponse (changeDone x x.rst) tag q.code .done []) :=
  exec_action_done hr hi (actAccess_recheckMain_in_use _ (clean_started hm) h) hb rfl ⟨rfl, rfl, rfl, rfl, rfl⟩

/-- The read of the main table finds it empty: its root goes INVALID, and it is freed (05 R91, R105). -/
theorem exec_recheckMain_of_empty (hb : x.bke.inHand = none) (hm : Clean x (mainSlot m))
    (h : allInvalid (x.rst.mainTable m) = true) :
    exec (.directoryAccessEnd []) (startedHead x tag q (.directory (.actions [.recheckMain m])))
      = .next (withResponse (changeDone (x.modDistrict (pointDistrict (requestPoint q)) fun r =>
          { r with root := ⟨none, r.root.barred, false⟩ }) (x.rst.freeMain m)) tag q.code .done []) :=
  exec_action_done (z := (x.modDistrict (pointDistrict (requestPoint q)) fun r =>
      { r with root := ⟨none, r.root.barred, false⟩ }).modRst fun r => r.freeMain m)
    hr hi (actAccess_recheckMain_of_empty _ (clean_started hm) h) hb rfl ⟨rfl, rfl, rfl, rfl, rfl⟩

end

/-! ### UNMAP-POINT as a whole -/

/-- The state once a leaf has been made INVALID (05 R105). -/
def unbound (x : State) (pt i : Nat) : State := x.modRst fun r => r.putLeaf pt i Leaf.invalid

/-- The state once the main descriptor of the table left empty has been made INVALID as well, and that table freed (05 R105). -/
def pointFreed (x : State) (pt i m k : Nat) (barred : Bool) : State :=
  (unbound x pt i).modRst fun r => (r.putDesc m k ⟨none, barred, false⟩).freePoint pt

theorem beside_unbound (x : State) (pt i : Nat) : Beside x (unbound x pt i) :=
  beside_modRst x (f := fun r => r.putLeaf pt i Leaf.invalid) rfl

theorem beside_pointFreed (x : State) (pt i m k : Nat) (barred : Bool) : Beside (unbound x pt i) (pointFreed x pt i m k barred) :=
  beside_modRst (unbound x pt i) (f := fun r => (r.putDesc m k ⟨none, barred, false⟩).freePoint pt) rfl

theorem changeDone_unbound (x : State) (pt i : Nat) (r : Rst) : changeDone (unbound x pt i) r = changeDone x r :=
  changeDone_modRst x (f := fun r => r.putLeaf pt i Leaf.invalid) rfl r

theorem changeDone_pointFreed (x : State) (pt i m k : Nat) (barred : Bool) (r : Rst) :
    changeDone (pointFreed x pt i m k barred) r = changeDone x r :=
  (changeDone_modRst (unbound x pt i) (f := fun r => (r.putDesc m k ⟨none, barred, false⟩).freePoint pt) rfl r).trans
    (changeDone_unbound x pt i r)

theorem changeDone_pointFreed_modDistrict (x : State) (pt i m k : Nat) (barred : Bool) (d : DistrictId) (u : District → District)
    (r : Rst) : changeDone ((pointFreed x pt i m k barred).modDistrict d u) r = changeDone (x.modDistrict d u) r :=
  (changeDone_modRst_modDistrict (unbound x pt i) (f := fun r => (r.putDesc m k ⟨none, barred, false⟩).freePoint pt) rfl d u r).trans
    (changeDone_modRst_modDistrict x (f := fun r => r.putLeaf pt i Leaf.invalid) rfl d u r)

theorem pointFreed_rst (x : State) {pt : Nat} (i m k : Nat) (barred : Bool) (h : pt ∉ x.rst.freePoints) :
    (pointFreed x pt i m k barred).rst = { (x.rst.putLeaf pt i Leaf.invalid).putDesc m k ⟨none, barred, false⟩ with
      freePoints := x.rst.freePoints ++ [pt], pointAlloc := writeAt none x.rst.pointAlloc pt none } := by
  rw [← addNew_of_not_mem h]
  rfl

theorem pointFreed_mainTable (x : State) (pt i m k : Nat) (barred : Bool) : (pointFreed x pt i m k barred).rst.mainTable m
    = ((x.rst.putLeaf pt i Leaf.invalid).putDesc m k ⟨none, barred, false⟩).mainTable m := rfl

/-- The main table reads clean behind the write of its descriptor (05 R92, 08 R154). -/
theorem clean_pointFreed {x : State} {m : Nat} (hcanon : Canon x.rst) (hm : Clean x (mainSlot m)) (pt i k : Nat) (barred : Bool) :
    Clean (pointFreed x pt i m k barred) (mainSlot m) :=
  cleanSlot_putDesc (r := x.rst.putLeaf pt i Leaf.invalid) (canonical_writeAt (pointSlot pt) 0 hcanon.flaws) k
    ⟨none, barred, false⟩ (cleanSlot_putLeaf hcanon.flaws _ _ hm)

section

variable {x : State} {tag : Byte} {p m pt : Nat} (hr : Ready x) (hi : StoreIdle x) (hpath : SoundPath x p m pt)
  (hk : (x.rst.leaf pt (pointIndex p)).kind ≠ .invalid)

include hr hi hpath

theorem exec_unmapPoint (hp : p ≤ 4095) :
    exec (.unmapPoint tag p) x = .next (startedHead x tag (.unmapPoint p) (.directory (.ownMain m))) :=
  exec_enterPath (.unmapPoint p) rfl hr hi rfl rfl (fun z => if_neg (by simp only [Config.maxPoint]; omega)) hpath.1

include hk

/-- UNMAP-POINT as far as its read behind the write of the leaf (05 R105). -/
theorem after_unmap_leaf (hp : p ≤ 4095) (cs : List Instr) :
    after (.unmapPoint tag p :: .directoryAccessEnd [] :: .directoryAccessEnd [] :: .directoryAccessEnd [] :: cs) x
      = after cs (startedHead (unbound x pt (pointIndex p)) tag (.unmapPoint p) (.directory (.actions
          [.recheckPoint m (mainIndex p) pt (x.rst.desc m (mainIndex p)).barred]))) := by
  obtain ⟨hroot, hm, ht, hpt⟩ := hpath
  have hplan : exec (.directoryAccessEnd [])
      (startedHead x tag (.unmapPoint p) (.directory (.ownPoint m (x.rst.desc m (mainIndex p)) pt)))
      = .next (startedHead x tag (.unmapPoint p) (.directory (.actions [.writeLeaf pt (pointIndex p) Leaf.invalid,
        .recheckPoint m (mainIndex p) pt (x.rst.desc m (mainIndex p)).barred]))) :=
    exec_access_awaits hr hi (directoryAccessEnd_ends _) ((ownPointRead_of_clean _ (clean_started hpt)).trans
      (ownPointSound_unmap_of_bound (by exact hk))) ⟨rfl, rfl, rfl, rfl, rfl⟩
  exact after_cons (exec_unmapPoint hr hi ⟨hroot, hm, ht, hpt⟩ hp) (after_cons
    (exec_ownMain hr hi (unmap_actsOnLeaf p) hm rfl ht) (after_cons hplan
      (after_cons (exec_writeLeaf hr hi (fun _ => rfl) (pointIndex p) Leaf.invalid hpt) rfl)))

variable (hcanon : Canon x.rst)

include hcanon

/-- UNMAP-POINT as far as its read of the main table, where the point table is left empty (05 R105). -/
theorem after_unmap_point (hp : p ≤ 4095)
    (hempty : ∀ q ∈ x.rst.pointTable pt, q.1 ≠ pointIndex p → q.2.kind = .invalid) (cs : List Instr) :
    after (.unmapPoint tag p :: .directoryAccessEnd [] :: .directoryAccessEnd [] :: .directoryAccessEnd [] ::
        .directoryAccessEnd [] :: .directoryAccessEnd [] :: cs) x
      = after cs (startedHead (pointFreed x pt (pointIndex p) m (mainIndex p) (x.rst.desc m (mainIndex p)).barred) tag
          (.unmapPoint p) (.directory (.actions [.recheckMain m]))) := by
  have hbeside := beside_unbound x pt (pointIndex p)
  have hpoint : Clean (unbound x pt (pointIndex p)) (pointSlot pt) := cleanSlot_putLeaf hcanon.flaws _ _ hpath.2.2.2
  have hmain : Clean (unbound x pt (pointIndex p)) (mainSlot m) := cleanSlot_putLeaf hcanon.flaws _ _ hpath.2.1
  rw [after_unmap_leaf hr hi hpath hk hp]
  exact after_cons (exec_recheckPoint_of_empty (hbeside.ready hr) (hbeside.idle hi) hpoint (pointTable_empty hcanon pt _ hempty))
    (after_cons (exec_writeMain_freePoint (hbeside.ready hr) (hbeside.idle hi) hmain) rfl)

end

/-! ### BAR and UNBAR -/

/-- BAR sets a BARRED flag and UNBAR clears it (05 R106). -/
def SetsBarred (q : Request) (level : BarLevel) (p : Nat) (barred : Bool) : Prop :=
  (q = .bar level p ∧ barred = true) ∨ (q = .unbar level p ∧ barred = false)

section

variable {x : State} {tag : Byte} {q : Request} {p m pt : Nat} {barred : Bool} (hr : Ready x) (hi : StoreIdle x)
  (hb : x.bke.inHand = none) (hpath : SoundPath x p m pt)

include hr hi hb hpath

/-- The two accesses that change the BARRED flag of a main descriptor (05 R106; log entry 21). -/
theorem after_bar_main (hq : SetsBarred q .main p barred) :
    after [.directoryAccessEnd [], .directoryAccessEnd []] (startedHead x tag q (.directory (.ownMain m)))
      = .next (withResponse (changeDone x (x.rst.putDesc m (mainIndex p) { x.rst.desc m (mainIndex p) with barred := barred }))
          tag q.code .done []) := by
  obtain ⟨-, hm, -, -⟩ := hpath
  have hplan : exec (.directoryAccessEnd []) (startedHead x tag q (.directory (.ownMain m)))
      = .next (startedHead x tag q (.directory (.actions [.barMain m (mainIndex p) barred]))) := by
    refine exec_access_awaits hr hi (directoryAccessEnd_ends _) ((ownMainRead_of_clean _ (clean_started hm)).trans ?_)
      ⟨rfl, rfl, rfl, rfl, rfl⟩
    rcases hq with ⟨rfl, rfl⟩ | ⟨rfl, rfl⟩ <;> rfl
  have hwrite (g : Grant) : actAccess g (requestPoint q) (.barMain m (mainIndex p) barred)
      (startedHead x tag q (.directory (.actions [.barMain m (mainIndex p) barred])))
      = (some [], startedHead (x.modRst fun r => r.putDesc m (mainIndex p) { r.desc m (mainIndex p) with barred := barred }) tag q
        (.directory (.actions [.barMain m (mainIndex p) barred]))) :=
    writeAccess_of_clean g (fun r => r.putDesc m (mainIndex p) { r.desc m (mainIndex p) with barred := barred }) (clean_started hm)
  exact after_cons hplan (after_cons (exec_action_done (z := x.modRst fun r => r.putDesc m (mainIndex p)
    { r.desc m (mainIndex p) with barred := barred }) hr hi (hwrite _) hb rfl ⟨rfl, rfl, rfl, rfl, rfl⟩) rfl)

/-- The three accesses that change the BARRED flag of a bound leaf (05 R106). -/
theorem after_bar_point (hq : SetsBarred q .point p barred) (hk : (x.rst.leaf pt (pointIndex p)).kind ≠ .invalid) :
    after [.directoryAccessEnd [], .directoryAccessEnd [], .directoryAccessEnd []] (startedHead x tag q (.directory (.ownMain m)))
      = .next (withResponse (changeDone x (x.rst.putLeaf pt (pointIndex p) { x.rst.leaf pt (pointIndex p) with barred := barred }))
          tag q.code .done []) := by
  obtain ⟨-, hm, ht, hpt⟩ := hpath
  have hleaf : ActsOnLeaf q := by rcases hq with ⟨rfl, -⟩ | ⟨rfl, -⟩ <;> exact fun _ => ⟨by simp, by simp⟩
  have hpoint : requestPoint q = p := by rcases hq with ⟨rfl, -⟩ | ⟨rfl, -⟩ <;> rfl
  have hplan (d : Desc) : exec (.directoryAccessEnd []) (startedHead x tag q (.directory (.ownPoint m d pt)))
      = .next (startedHead x tag q (.directory (.actions [.barLeaf pt (pointIndex p) barred]))) := by
    refine exec_access_awaits hr hi (directoryAccessEnd_ends _) ((ownPointRead_of_clean _ (clean_started hpt)).trans ?_)
      ⟨rfl, rfl, rfl, rfl, rfl⟩
    rcases hq with ⟨rfl, rfl⟩ | ⟨rfl, rfl⟩ <;> exact if_pos (decide_eq_true hk)
  have hwrite (g : Grant) : actAccess g (requestPoint q) (.barLeaf pt (pointIndex p) barred)
      (startedHead x tag q (.directory (.actions [.barLeaf pt (pointIndex p) barred])))
      = (some [], startedHead (x.modRst fun r => r.putLeaf pt (pointIndex p) { r.leaf pt (pointIndex p) with barred := barred }) tag q
        (.directory (.actions [.barLeaf pt (pointIndex p) barred]))) :=
    writeAccess_of_clean g (fun r => r.putLeaf pt (pointIndex p) { r.leaf pt (pointIndex p) with barred := barred })
      (clean_started hpt)
  exact after_cons (exec_ownMain hr hi hleaf hm rfl (by rw [hpoint]; exact ht)) (after_cons (hplan _)
    (after_cons (exec_action_done (z := x.modRst fun r => r.putLeaf pt (pointIndex p)
      { r.leaf pt (pointIndex p) with barred := barred }) hr hi (hwrite _) hb rfl ⟨rfl, rfl, rfl, rfl, rfl⟩) rfl))

end

/-- BAR and UNBAR start by reading the main table, but for the root's flag (05 R106). -/
theorem startBar_of_table {p : Nat} (hp : p ≤ 4095) (barred : Bool) {level : BarLevel} (hl : level ≠ .root) (z : State) :
    startBar barred level p z = enterPath p (refuse .noRecord) z := by
  refine (if_neg (by simp only [Config.maxPoint]; omega)).trans ?_
  cases level
  case root => exact absurd rfl hl
  all_goals rfl

/-- The root's flag is changed at the start (05 R106). -/
theorem startBar_root {p : Nat} (hp : p ≤ 4095) (barred : Bool) (z : State) :
    startBar barred .root p z = (.answered .done [], completeChange (z.modDistrict (pointDistrict p) fun r =>
      { r with root := { r.root with barred := barred } })) :=
  if_neg (by simp only [Config.maxPoint]; omega)

/-- Settles O36: the leaf alone, the table that it leaves empty with and without its main table, and the flag of each level. -/
theorem unmapBarAndUnbarChangeOneDescriptor : Obligations.UnmapBarAndUnbarChangeOneDescriptor := by
  unfold Obligations.UnmapBarAndUnbarChangeOneDescriptor
  intro s tag p m pt hr hi hb hp hpath
  have hbar (level : BarLevel) (hl : level ≠ .root) :
      exec (.bar tag level p) s = .next (startedHead s tag (.bar level p) (.directory (.ownMain m))) :=
    exec_enterPath (.bar level p) rfl hr hi rfl rfl (startBar_of_table hp true hl) hpath.1
  have hunbar (level : BarLevel) (hl : level ≠ .root) :
      exec (.unbar tag level p) s = .next (startedHead s tag (.unbar level p) (.directory (.ownMain m))) :=
    exec_enterPath (.unbar level p) rfl hr hi rfl rfl (startBar_of_table hp false hl) hpath.1
  refine ⟨fun j hsound hk hj hkj => ?_, fun hk => ?_, fun r hsound hk _ hpt hempty hstore => ?_, fun hk => ⟨?_, ?_⟩, ?_, ?_, ?_, ?_⟩
  · have hcanon := canon_of_storesSound hsound
    have hbeside := beside_unbound s pt (pointIndex p)
    have hpoint : Clean (unbound s pt (pointIndex p)) (pointSlot pt) := cleanSlot_putLeaf hcanon.flaws _ _ hpath.2.2.2
    rw [after_unmap_leaf hr hi hpath hk hp]
    refine after_cons (exec_recheckPoint_in_use (hbeside.ready hr) (hbeside.idle hi) (hbeside.inHand.trans hb) hpoint
      (pointTable_in_use hcanon pt _ hj hkj)) ?_
    rw [changeDone_unbound]
    rfl
  · have hpoint : exec (.directoryAccessEnd [])
        (startedHead s tag (.unmapPoint p) (.directory (.ownPoint m (s.rst.desc m (mainIndex p)) pt)))
        = .next (withResponse (accessesDone s s.rst) tag 0x32 .noRecord []) :=
      exec_access_answered hr hi (directoryAccessEnd_ends _) ((ownPointRead_of_clean _ (clean_started hpath.2.2.2)).trans
        (ownPointSound_unmap_of_invalid (by exact hk)))
    exact after_cons (exec_unmapPoint hr hi hpath hp) (after_cons
      (exec_ownMain hr hi (unmap_actsOnLeaf p) hpath.2.1 rfl hpath.2.2.1) (after_cons hpoint rfl))
  · have hcanon := canon_of_storesSound hsound
    have hbeside := beside_unbound s pt (pointIndex p)
    have hfreed := beside_pointFreed s pt (pointIndex p) m (mainIndex p) (s.rst.desc m (mainIndex p)).barred
    have hidle := hfreed.inHand.trans (hbeside.inHand.trans hb)
    have hclean := clean_pointFreed hcanon hpath.2.1 pt (pointIndex p) (mainIndex p) (s.rst.desc m (mainIndex p)).barred
    have hfreed_rst : r = (pointFreed s pt (pointIndex p) m (mainIndex p) (s.rst.desc m (mainIndex p)).barred).rst :=
      hstore.trans (pointFreed_rst s (pointIndex p) m (mainIndex p) _ hpt).symm
    rw [after_unmap_point hr hi hpath hk hcanon hp hempty, hfreed_rst]
    refine ⟨fun hused => ?_, fun hunused hm => ?_⟩
    · have hin_use := mainTable_in_use (r := s.rst.putLeaf pt (pointIndex p) Leaf.invalid) hcanon.mains (mainIndex p)
        (s.rst.desc m (mainIndex p)).barred hused
      refine after_cons (exec_recheckMain_in_use (hfreed.ready (hbeside.ready hr)) (hfreed.idle (hbeside.idle hi)) hidle hclean
        ((congrArg allInvalid (pointFreed_mainTable ..)).trans hin_use)) ?_
      rw [changeDone_pointFreed]
      rfl
    · have hleft := mainTable_empty (r := s.rst.putLeaf pt (pointIndex p) Leaf.invalid) hcanon.mains (mainIndex p) (hcanon.descs m)
        (s.rst.desc m (mainIndex p)).barred hunused
      refine after_cons (exec_recheckMain_of_empty (hfreed.ready (hbeside.ready hr)) (hfreed.idle (hbeside.idle hi)) hidle hclean
        ((congrArg allInvalid (pointFreed_mainTable ..)).trans hleft)) ?_
      rw [changeDone_pointFreed_modDistrict, ← addNew_of_not_mem hm]
      rfl
  · exact after_cons (hbar .point (by simp)) (after_bar_point hr hi hb hpath (.inl ⟨rfl, rfl⟩) hk)
  · exact after_cons (hunbar .point (by simp)) (after_bar_point hr hi hb hpath (.inr ⟨rfl, rfl⟩) hk)
  · exact after_cons (hbar .main (by simp)) (after_bar_main hr hi hb hpath (.inl ⟨rfl, rfl⟩))
  · exact after_cons (hunbar .main (by simp)) (after_bar_main hr hi hb hpath (.inr ⟨rfl, rfl⟩))
  · exact exec_start_done (y := s.modDistrict (pointDistrict p) fun r => { r with root := { r.root with barred := true } })
      (.bar .root p) rfl hr rfl rfl hb (startBar_root hp true _) rfl
  · exact exec_start_done (y := s.modDistrict (pointDistrict p) fun r => { r with root := { r.root with barred := false } })
      (.unbar .root p) rfl hr rfl rfl hb (startBar_root hp false _) rfl

end Sys2Proof.Unmapping

/-! PROOFS. What leaves BKE's queue and cache as they stand (06 R114, R120, for O5): the work of the line, the arbiter, the holders, the
districts and the yard leaves the whole booking engine alone, in the order of the model. -/

namespace Sys2Proof.BkeKept

open Sys2Proof.Machine Sys2Proof.DistrictWork Sys2Proof.HocWork

/-- What each of a list's pieces of work leaves alone, all of them leave alone. -/
theorem bke_foldl {α : Type} {f : State → α → State} (hf : ∀ s a, (f s a).bke = s.bke) (l : List α) (s : State) :
    (l.foldl f s).bke = s.bke := by
  induction l generalizing s with
  | nil => rfl
  | cons a l ih => exact (ih (f s a)).trans (hf s a)

section
variable (s : State)

/-! ### The line -/

@[simp] theorem bke_setLoadingCommand (d : DistrictId) (l : Option Nat) : (s.setLoadingCommand d l).bke = s.bke := rfl

@[simp] theorem bke_startAttempt (gaveUp : Bool) (e : PollEntry) (single : Bool) : (startAttempt gaveUp e single s).bke = s.bke := rfl

@[simp] theorem bke_leaveLate (late : Bool) : (leaveLate late s).bke = s.bke := rfl

@[simp] theorem bke_nextTurn (gaveUp : Bool) : (nextTurn gaveUp s).bke = s.bke := by
  obtain ⟨_, _, _, _, _, h⟩ := nextTurn_eq gaveUp s
  rw [h]

@[simp] theorem bke_judgeDead : (judgeDead s).bke = s.bke := by
  obtain ⟨_, _, _, h⟩ := judgeDead_eq s
  rw [h]

@[simp] theorem bke_goSilent (e : PollEntry) (misses : Nat) : (goSilent e misses s).bke = s.bke := by
  unfold goSilent
  cases silentMessage e <;> simp

@[simp] theorem bke_missAttempt : (missAttempt s).bke = s.bke := by
  unfold missAttempt
  dsimp only
  repeat' split
  all_goals simp

@[simp] theorem bke_goodReply (e : PollEntry) (r : Reading) : (goodReply e r s).bke = s.bke := by
  unfold goodReply
  cases replyMessage e r <;> simp

@[simp] theorem bke_judgeGood (body : List Byte) : (judgeGood body s).bke = s.bke := by
  unfold judgeGood
  dsimp only
  repeat' split
  all_goals simp

@[simp] theorem bke_judgeFrame (f : FrameEnd) : (judgeFrame f s).bke = s.bke := by
  cases f <;> simp [judgeFrame, apply_ite State.bke]

@[simp] theorem bke_lineByte (b : Byte) : (lineByte s b).bke = s.bke := by
  unfold lineByte
  dsimp only
  repeat' split
  all_goals simp

@[simp] theorem bke_waitExpires : (waitExpires s).bke = s.bke := by
  simp [waitExpires, apply_ite State.bke]

@[simp] theorem bke_lineReset : (lineReset s).bke = s.bke := by
  simp [lineReset]

@[simp] theorem bke_afterListChange (left : Option Nat) : (afterListChange left s).bke = s.bke := by
  unfold afterListChange
  dsimp only
  repeat' split
  all_goals simp

@[simp] theorem bke_applyOutstation (address : Nat) (action : OutstationAction) (kind : EntryKind) (retry : Nat) :
    (applyOutstation address action kind retry s).bke = s.bke := by
  unfold applyOutstation
  dsimp only
  repeat' split
  all_goals simp

/-! ### The arbiter -/

@[simp] theorem bke_arbitrate : (arbitrate s).bke = s.bke := by
  simp [arbitrate, grant, apply_ite State.bke]

@[simp] theorem bke_request (q : Requester) : (request q s).bke = s.bke := by
  simp [request]

@[simp] theorem bke_release : (release s).bke = s.bke := by
  simp [release]

@[simp] theorem bke_scrubTimerExpires : (scrubTimerExpires s).bke = s.bke := by
  unfold scrubTimerExpires
  dsimp only
  repeat' split
  all_goals simp

@[simp] theorem bke_setScrubInterval (v : Nat) : (setScrubInterval v s).bke = s.bke := by
  simp [setScrubInterval, apply_ite State.bke]

/-! ### Districts -/

variable (d : DistrictId)

@[simp] theorem bke_occasion : (occasion d s).bke = s.bke := rfl

@[simp] theorem bke_placeLoading : (placeLoading d s).bke = s.bke := rfl

@[simp] theorem bke_withdrawLoading : (withdrawLoading d s).bke = s.bke := rfl

@[simp] theorem bke_evaluate : (evaluate d s).bke = s.bke := by
  rw [evaluate_eq]
  rfl

@[simp] theorem bke_enterService : (enterService d s).bke = s.bke := by
  rw [enterService, bke_placeLoading, takeJudged_eq]
  rfl

@[simp] theorem bke_adjustDistrict (f : District → District) : (adjustDistrict d f s).bke = s.bke := by
  obtain ⟨-, -, -, -, hbke, -⟩ := (beside_adjustDistrict d f s).kept
  exact hbke

@[simp] theorem bke_runOccasions : (runOccasions s).bke = s.bke := by
  rw [(tried_runOccasions s).others]

@[simp] theorem bke_takeMinute : (takeMinute s).bke = s.bke := by
  obtain ⟨-, -, -, -, hbke, -⟩ := (Schedules.takeMinute_followed (s := s) rfl).1.kept
  exact hbke

@[simp] theorem bke_setClock (day minute : Nat) : (setClock day minute s).2.bke = s.bke := by
  unfold setClock
  split <;> simp

@[simp] theorem bke_telltaleReply (p : Nat) : (telltaleReply d p s).bke = s.bke := by
  simp [telltaleReply, apply_ite State.bke]

@[simp] theorem bke_governorReply (g : GovernorReading) : (governorReply d g s).bke = s.bke := by
  have hecho : (takeEcho d g.echo s).bke = s.bke := by
    unfold takeEcho
    dsimp only
    repeat' split
    all_goals simp
  simp [governorReply, takeTrip, apply_ite State.bke, hecho]

@[simp] theorem bke_takeNotice (m : Instr) (n : HolderNotice) (ends : DistrictId → Bool) (standing : Bool) :
    (takeNotice m n ends standing s).bke = s.bke := by
  have hlists (u : State) (d : DistrictId) : (takeLists m n ends u d).bke = u.bke := by
    simp [takeLists, recomputeAvailable, apply_ite State.bke]
  have hjudged (u : State) (d : DistrictId) : (evaluateAfter s n u d).bke = u.bke := by
    simp [evaluateAfter, apply_ite State.bke]
  obtain ⟨os, hos⟩ := Notices.standingOccasions_if (standing || n.standing) n.holder
    (districtIds.foldl (evaluateAfter s n) (districtIds.foldl (takeLists m n ends) (takeView n s)))
  rw [takeNotice, bke_runOccasions, hos]
  exact (bke_foldl hjudged _ _).trans (bke_foldl hlists _ _)

@[simp] theorem bke_takesNotice (m : Instr) (n : HolderNotice) (ends : DistrictId → Bool) (standing : Bool) :
    (takesNotice m n ends standing s).bke = s.bke := by
  simp [takesNotice]

@[simp] theorem bke_autoJoinAnswer (h : HolderId) (result : Result) : (autoJoinAnswer h d result s).bke = s.bke := by
  have hfirst : (takePendingFirst h d s).bke = s.bke := by
    unfold takePendingFirst
    split <;> simp
  simp [autoJoinAnswer, joinFailed, apply_ite State.bke, hfirst]

@[simp] theorem bke_replaceLoading : (replaceLoading s d).bke = s.bke := by
  simp [replaceLoading, apply_ite State.bke]

variable (n : Nat)

theorem bke_onDistrict {f : DistrictId → Result × State} (hf : ∀ d, (f d).2.bke = s.bke) : (onDistrict n s f).2.bke = s.bke := by
  unfold onDistrict
  split
  · rfl
  · exact hf _

@[simp] theorem bke_districtIn : (districtIn n s).2.bke = s.bke := by
  refine bke_onDistrict s n fun d => ?_
  dsimp only
  repeat' split
  all_goals simp

@[simp] theorem bke_districtRestore : (districtRestore n s).2.bke = s.bke := by
  refine bke_onDistrict s n fun d => ?_
  split <;> simp

@[simp] theorem bke_districtOut : (districtOut n s).2.bke = s.bke := by
  refine bke_onDistrict s n fun d => ?_
  repeat' split
  all_goals simp

@[simp] theorem bke_setDistrict (f : DistrictSettings) : (setDistrict n f s).2.bke = s.bke := by
  refine bke_onDistrict s n fun d => ?_
  dsimp only
  split <;> simp [apply_ite State.bke]

@[simp] theorem bke_setStations (governor telltale : Option Nat) : (setStations n governor telltale s).2.bke = s.bke := by
  have hrelink (d : DistrictId) (kind : EntryKind) (address : Option Nat) (u : State) :
      (relinkStation d kind address u).bke = u.bke := by
    cases address <;> rfl
  have hgovernor (d : DistrictId) : (relinkGovernor d governor s).bke = s.bke := by
    unfold relinkGovernor
    dsimp only
    repeat' split
    all_goals simp [hrelink]
  refine bke_onDistrict s n fun d => ?_
  repeat' split
  all_goals simp [hrelink, hgovernor]

/-! ### Holders -/

theorem bke_of_holderSide {t : State} (h : HolderSide s t) : t.bke = s.bke := by
  obtain ⟨-, -, -, -, hbke, -⟩ := h.kept
  exact hbke

variable (h : HolderId)

@[simp] theorem bke_crownReply (c : CrownReading) : (crownReply h c s).bke = s.bke := bke_of_holderSide s (holderSide_crownReply s h c)

@[simp] theorem bke_crownSilent : (crownSilent h s).bke = s.bke := bke_of_holderSide s (holderSide_crownSilent s h)

@[simp] theorem bke_moveTimerExpires : (moveTimerExpires h s).bke = s.bke := bke_of_holderSide s (holderSide_moveTimerExpires s h)

@[simp] theorem bke_moveTaken (m : Move) : (moveTaken h m s).bke = s.bke := bke_of_holderSide s (holderSide_moveTaken s h m)

@[simp] theorem bke_automaticDraw : (automaticDraw h d s).bke = s.bke := bke_of_holderSide s (holderSide_automaticDraw s h d)

@[simp] theorem bke_order (kind : OrderKind) (district quantity : Option Nat) (e : Option EndAction) :
    (order n kind district quantity e s).2.bke = s.bke := bke_of_holderSide s (holderSide_order s n kind district quantity e)

@[simp] theorem bke_repeatLast : (repeatLast n s).2.bke = s.bke := bke_of_holderSide s (holderSide_repeatLast s n)

@[simp] theorem bke_stopHolder : (stopHolder n s).2.bke = s.bke := bke_of_holderSide s (holderSide_stopHolder s n)

@[simp] theorem bke_isolateHolder : (isolateHolder n s).2.bke = s.bke := bke_of_holderSide s (holderSide_isolateHolder s n)

@[simp] theorem bke_returnToService : (returnToService n s).2.bke = s.bke := bke_of_holderSide s (holderSide_returnToService s n)

@[simp] theorem bke_setHolder (f : HolderSettings) : (Machine.setHolder n f s).2.bke = s.bke :=
  bke_of_holderSide s (holderSide_setHolder n f s)

/-! ### The yard, the looks and the link -/

theorem bke_setting {α : Type} (v : Option α) {f : α → State → State} (hf : ∀ a s, (f a s).bke = s.bke) :
    (setting v f s).bke = s.bke := by
  cases v with
  | none => rfl
  | some a => exact hf a s

@[simp] theorem bke_setYard (f : YardSettings) : (Machine.setYard f s).2.bke = s.bke := by
  unfold Machine.setYard
  split
  · rfl
  · dsimp only
    rw [bke_setting, bke_setting, bke_setting, bke_setting, bke_setting, bke_setting, bke_setting]
    all_goals intro v t
    all_goals simp [setFallback, setFastShare, setBookingShare]

@[simp] theorem bke_enterWorking : (enterWorking s).bke = s.bke := by
  unfold enterWorking
  dsimp only
  rw [bke_runOccasions, bke_foldl fun s d => bke_occasion s d]
  exact (bke_of_holderSide _ (holderSide_startAllWaiting (s.modYard fun y => { y with mode := .working }))).trans rfl

@[simp] theorem bke_work : (work s).2.bke = s.bke := by
  unfold work
  split <;> simp [refuse]

@[simp] theorem bke_setup : (Machine.setup s).2.bke = s.bke := by
  unfold Machine.setup
  repeat' split
  all_goals rfl

@[simp] theorem bke_resume : (resume s).2.bke = s.bke := by
  unfold resume
  split <;> simp [refuse]

@[simp] theorem bke_yardHold : (Machine.yardHold s).2.bke = s.bke := by
  unfold Machine.yardHold
  split <;> rfl

@[simp] theorem bke_lineDies : (lineDies s).bke = s.bke := by
  unfold lineDies
  split <;> rfl

@[simp] theorem bke_lookHolder : (lookHolder n s).2.bke = s.bke := by
  unfold lookHolder
  split <;> rfl

@[simp] theorem bke_lookDistrict : (lookDistrict n s).2.bke = s.bke := by
  unfold lookDistrict
  split <;> rfl

@[simp] theorem bke_lookLine (address : Option Nat) : (lookLine address s).2.bke = s.bke := by
  unfold lookLine
  repeat' split
  all_goals rfl

@[simp] theorem bke_respond (tag code : Byte) (result : Result) (fields : List Field) :
    (respond tag code result fields s).bke = s.bke := rfl

@[simp] theorem bke_answerHead (h : Stacked) (result : Result) (fields : List Field) :
    (answerHead h result fields s).bke = s.bke := rfl

@[simp] theorem bke_awaitHead (w : HeadWork) : (awaitHead w s).bke = s.bke := by
  simp [awaitHead]

@[simp] theorem bke_abortStack : (abortStack s).bke = s.bke := by
  unfold abortStack
  exact bke_foldl (fun s (q : Stacked) => bke_respond s q.tag q.request.code .aborted []) _ _

end

end Sys2Proof.BkeKept

/-! PROOFS. What the accesses of requests on the directory, the accounts and the balance can do, said once (05 R101 to R109, 07 R133 to
R153; O5): they leave the holders, the line, REX and the messages alone, and of BKE they touch the routes and the booking in hand and
flush cache entries. -/

namespace Sys2Proof.StoreWork

open Sys2Proof.Machine

/-- From `s` to `t` only the yard, the balance, the districts, the store and BKE's routes and booking in hand have changed, and cache
entries have been flushed. -/
structure StoreSide (s t : State) : Prop where
  others : t = { s with
    yard := t.yard, balance := t.balance, districts := t.districts, rst := t.rst
    bke := { s.bke with inHand := t.bke.inHand, cache := t.bke.cache, routes := t.bke.routes } }
  cache : t.bke.cache.Sublist s.bke.cache

theorem StoreSide.refl (s : State) : StoreSide s s := ⟨rfl, .refl _⟩

theorem StoreSide.trans {s t u : State} (h : StoreSide s t) (k : StoreSide t u) : StoreSide s u where
  others := by
    rw [k.others]
    obtain ⟨h, -⟩ := h
    generalize u.yard = y, u.balance = b, u.districts = d, u.rst = r, u.bke.inHand = i, u.bke.cache = c, u.bke.routes = o
    rw [h]
  cache := k.cache.trans h.cache

section
variable {s t : State} (h : StoreSide s t)

include h

/-! ### Changes of one record -/

@[simp] theorem StoreSide.modYard (f : Yard → Yard) : StoreSide s (t.modYard f) := h.trans ⟨rfl, .refl _⟩

@[simp] theorem StoreSide.modBalance (f : Balance → Balance) : StoreSide s (t.modBalance f) := h.trans ⟨rfl, .refl _⟩

@[simp] theorem StoreSide.modDistrict (d : DistrictId) (f : District → District) : StoreSide s (t.modDistrict d f) :=
  h.trans ⟨rfl, .refl _⟩

@[simp] theorem StoreSide.modRst (f : Rst → Rst) : StoreSide s (t.modRst f) := h.trans ⟨rfl, .refl _⟩

@[simp] theorem StoreSide.flushCache : StoreSide s (t.modBke flushCache) := h.trans ⟨rfl, List.nil_sublist _⟩

@[simp] theorem StoreSide.flushWhere (p : CacheEntry → Bool) : StoreSide s (t.modBke (flushWhere p)) :=
  h.trans ⟨rfl, List.filter_sublist⟩

@[simp] theorem StoreSide.completeChange : StoreSide s (completeChange t) := h.trans ⟨rfl, List.nil_sublist _⟩

/-! ### Reads -/

@[simp] theorem StoreSide.takeDamage (own : Bool) (period n : Nat) : StoreSide s (takeDamage own period n t) := by
  unfold Machine.takeDamage
  dsimp only
  split
  · simp [h]
  · split
    · simp [h]
    · have hmarked := (h.modRst fun r => r.noteDamaged n).modRst fun r => r.setDamaged n true
      refine hmarked.trans ?_
      split <;> exact ⟨rfl, List.nil_sublist _⟩

@[simp] theorem StoreSide.judge (own : Bool) (period n : Nat) : StoreSide s (judge own period n t).2 := by
  unfold Machine.judge
  repeat' split
  all_goals simp [h]

/-- A judged read in parts: what it finds, and the state it leaves. -/
theorem StoreSide.judged (own : Bool) (period n : Nat) : ∃ found u, Machine.judge own period n t = (found, u) ∧ StoreSide s u :=
  ⟨_, _, rfl, h.judge own period n⟩

@[simp] theorem StoreSide.flagAccess (own : Bool) (period slot : Nat) (f : Rst → Rst) :
    StoreSide s (flagAccess own period slot f t).2 := by
  obtain ⟨found, u, hj, hu⟩ := h.judged own period slot
  cases found <;> simp [Machine.flagAccess, hj, hu]

@[simp] theorem StoreSide.scrubEffect (g : Grant) : StoreSide s (scrubEffect g t) := by
  simp [Machine.scrubEffect, h]

/-! ### The directory -/

theorem StoreSide.actAtOnce {a : DirAction} {u : State} (ha : actAtOnce a t = some u) : StoreSide s u := by
  refine h.trans ?_
  cases a <;> simp only [Machine.actAtOnce, Option.some.injEq, reduceCtorEq] at ha <;> subst ha
  all_goals exact ⟨rfl, .refl _⟩

omit h in
/-- A plan's actions up to its next store access: induction on the plan (05 R102). -/
@[simp] theorem StoreSide.runPlan {u : State} (plan : List DirAction) (h : StoreSide s u) : StoreSide s (runPlan plan u).2 := by
  induction plan generalizing u with
  | nil => exact h.completeChange
  | cons a plan ih =>
    unfold Machine.runPlan
    split
    · rename_i ha
      exact ih (h.actAtOnce ha)
    · exact h

@[simp] theorem StoreSide.refuse (r : Result) : StoreSide s (refuse r t).2 := h

@[simp] theorem StoreSide.await (w : HeadWork) : StoreSide s (await w t).2 := h

@[simp] theorem StoreSide.stopAtDamage : StoreSide s (stopAtDamage t).2 := (h.modRst _).completeChange

@[simp] theorem StoreSide.writeAccess (g : Grant) (slot : Nat) (f : Rst → Rst) : StoreSide s (writeAccess g slot f t).2 := by
  obtain ⟨found, u, hj, hu⟩ := h.judged false g.period slot
  cases found <;> simp [Machine.writeAccess, hj, hu]

@[simp] theorem StoreSide.actAccess (g : Grant) (p : Nat) (a : DirAction) : StoreSide s (actAccess g p a t).2 := by
  cases a <;> simp [Machine.actAccess, h]

/-- An access of a plan in parts: the actions that follow, and the state it leaves. -/
theorem StoreSide.acted (g : Grant) (p : Nat) (a : DirAction) : ∃ more u, Machine.actAccess g p a t = (more, u) ∧ StoreSide s u :=
  ⟨_, _, rfl, h.actAccess g p a⟩

@[simp] theorem StoreSide.actFrees (plan : List DirAction) : StoreSide s (actFrees plan t) := by
  unfold Machine.actFrees
  induction plan.takeWhile DirAction.frees generalizing t with
  | nil => exact h
  | cons a plan ih =>
    refine ih ?_
    dsimp only
    cases ha : Machine.actAtOnce a t with
    | none => exact h
    | some u => exact h.actAtOnce ha

@[simp] theorem StoreSide.abandonedAction (g : Grant) (p : Nat) (plan : List DirAction) :
    StoreSide s (abandonedAction g p plan t) := by
  cases plan with
  | nil => exact h
  | cons a rest =>
    obtain ⟨more, u, ha, hu⟩ := h.acted g p a
    simp only [Machine.abandonedAction, ha]
    split <;> simp_all

@[simp] theorem StoreSide.planAccess (g : Grant) (p : Nat) (plan : List DirAction) : StoreSide s (planAccess g p plan t).2 := by
  cases plan with
  | nil => exact h.completeChange
  | cons a rest =>
    obtain ⟨more, u, ha, hu⟩ := h.acted g p a
    cases more <;> simp [Machine.planAccess, ha, hu]

@[simp] theorem StoreSide.planWholePath (p : Nat) (leaf : Leaf) : StoreSide s (planWholePath p leaf t).2 := by
  unfold Machine.planWholePath
  dsimp only
  split <;> simp [h]

@[simp] theorem StoreSide.planPointTable (p : Nat) (leaf : Leaf) (main : Nat) (barred : Bool) :
    StoreSide s (planPointTable p leaf main barred t).2 := by
  unfold Machine.planPointTable
  split <;> simp [h]

@[simp] theorem StoreSide.planDamagedMain (p : Nat) (leaf : Leaf) (main : Nat) : StoreSide s (planDamagedMain p leaf main t).2 := by
  unfold Machine.planDamagedMain
  split <;> simp [h]

theorem StoreSide.enterPath (p : Nat) {noTable : State → Progress × State} (hn : StoreSide s (noTable t).2) :
    StoreSide s (enterPath p noTable t).2 := by
  unfold Machine.enterPath
  split
  · exact h
  · exact hn

@[simp] theorem StoreSide.enterBinding (q : Request) : StoreSide s (enterBinding q t).2 := h.enterPath _ (h.planWholePath _ _)

@[simp] theorem StoreSide.startMap (p slot : Nat) : StoreSide s (startMap p slot t).2 := by
  unfold Machine.startMap
  repeat' split
  all_goals exact h

@[simp] theorem StoreSide.startLink (p target : Nat) : StoreSide s (startLink p target t).2 := by
  unfold Machine.startLink
  repeat' split
  all_goals exact h

@[simp] theorem StoreSide.startUnmap (p : Nat) : StoreSide s (startUnmap p t).2 := by
  unfold Machine.startUnmap
  split
  · exact h
  · exact h.enterPath p h

@[simp] theorem StoreSide.startBar (barred : Bool) (level : BarLevel) (p : Nat) : StoreSide s (startBar barred level p t).2 := by
  unfold Machine.startBar
  split
  · exact h
  · cases level with
    | root => exact h.runPlan _
    | main => exact h.enterPath p h
    | point => exact h.enterPath p h

@[simp] theorem StoreSide.startRoute (n : Nat) (f : RouteSettings) : StoreSide s (startRoute n f t).2 := by
  unfold Machine.startRoute
  repeat' split
  all_goals simp [h]

@[simp] theorem StoreSide.accountRead (g : Grant) (q : Request) : StoreSide s (accountRead g q t).2 := by
  obtain ⟨found, u, hj, hu⟩ := h.judged false g.period (checkedSlot q)
  unfold Machine.accountRead
  rw [hj]
  repeat' split
  all_goals simp_all

@[simp] theorem StoreSide.targetMainRead (g : Grant) (target n : Nat) : StoreSide s (targetMainRead g target n t).2 := by
  obtain ⟨found, u, hj, hu⟩ := h.judged false g.period (mainSlot n)
  unfold Machine.targetMainRead
  rw [hj]
  repeat' split
  all_goals simp_all

@[simp] theorem StoreSide.targetPointRead (g : Grant) (q : Request) (target n : Nat) :
    StoreSide s (targetPointRead g q target n t).2 := by
  obtain ⟨found, u, hj, hu⟩ := h.judged false g.period (pointSlot n)
  unfold Machine.targetPointRead
  rw [hj]
  repeat' split
  all_goals simp_all

@[simp] theorem StoreSide.ownMainSound (q : Request) (n : Nat) : StoreSide s (ownMainSound q n t).2 := by
  unfold Machine.ownMainSound
  dsimp only
  repeat' split
  all_goals simp [h]

@[simp] theorem StoreSide.ownMainDamaged (q : Request) (n : Nat) : StoreSide s (ownMainDamaged q n t).2 := by
  unfold Machine.ownMainDamaged
  dsimp only
  split <;> simp [h]

@[simp] theorem StoreSide.ownMainRead (g : Grant) (q : Request) (n : Nat) : StoreSide s (ownMainRead g q n t).2 := by
  obtain ⟨found, u, hj, hu⟩ := h.judged false g.period (mainSlot n)
  cases found <;> simp [Machine.ownMainRead, hj, hu]

@[simp] theorem StoreSide.ownPointSound (q : Request) (main : Nat) (d : Desc) (n : Nat) :
    StoreSide s (ownPointSound q main d n t).2 := by
  unfold Machine.ownPointSound
  dsimp only
  repeat' split
  all_goals simp [h]

@[simp] theorem StoreSide.ownPointDamaged (q : Request) (main : Nat) (d : Desc) (n : Nat) :
    StoreSide s (ownPointDamaged q main d n t).2 := by
  unfold Machine.ownPointDamaged
  dsimp only
  split <;> simp [h]

@[simp] theorem StoreSide.ownPointRead (g : Grant) (q : Request) (main : Nat) (d : Desc) (n : Nat) :
    StoreSide s (ownPointRead g q main d n t).2 := by
  obtain ⟨found, u, hj, hu⟩ := h.judged false g.period (pointSlot n)
  cases found <;> simp [Machine.ownPointRead, hj, hu]

@[simp] theorem StoreSide.directoryAccess (g : Grant) (q : Request) (w : DirWork) : StoreSide s (directoryAccess g q w t).2 := by
  cases w <;> simp [Machine.directoryAccess, h]

@[simp] theorem StoreSide.lookDone (p : Nat) (clear : Bool) (w : LookWork) : StoreSide s (lookDone p clear w t).2 := by
  unfold Machine.lookDone
  repeat' split
  · exact h
  · exact h.completeChange
  · exact h

@[simp] theorem StoreSide.lookTarget (p : Nat) (clear : Bool) (w : LookWork) : StoreSide s (lookTarget p clear w t).2 := by
  unfold Machine.lookTarget
  dsimp only
  repeat' split
  all_goals simp [h]

@[simp] theorem StoreSide.startLookPoint (p : Nat) (clear : Bool) : StoreSide s (startLookPoint p clear t).2 := by
  unfold Machine.startLookPoint
  dsimp only
  repeat' split
  all_goals simp [h]

@[simp] theorem StoreSide.seeMain (g : Grant) (n i : Nat) : StoreSide s (seeMain g n i t).2 := by
  obtain ⟨found, u, hj, hu⟩ := h.judged false g.period (mainSlot n)
  cases found <;> simp [Machine.seeMain, hj, hu]

@[simp] theorem StoreSide.seeLeaf (g : Grant) (n i : Nat) : StoreSide s (seeLeaf g n i t).2 := by
  obtain ⟨found, u, hj, hu⟩ := h.judged false g.period (pointSlot n)
  cases found <;> simp [Machine.seeLeaf, hj, hu]

@[simp] theorem StoreSide.lookPointAccess (g : Grant) (p : Nat) (clear : Bool) (w : LookWork) :
    StoreSide s (lookPointAccess g p clear w t).2 := by
  unfold Machine.lookPointAccess
  dsimp only
  repeat' split
  all_goals simp [h]

/-! ### Accounts and the balance -/

@[simp] theorem StoreSide.startOnSlot (slot : Nat) (fieldsOk : Bool) (next : HeadWork) :
    StoreSide s (startOnSlot slot fieldsOk next t).2 := by
  unfold Machine.startOnSlot
  repeat' split
  all_goals exact h

@[simp] theorem StoreSide.startOpen (slot : Nat) (kind : AccountKind) (cv : Option Nat) : StoreSide s (startOpen slot kind cv t).2 :=
  h.startOnSlot _ _ _

@[simp] theorem StoreSide.startReopen (slot : Nat) : StoreSide s (startReopen slot t).2 := by
  unfold Machine.startReopen
  repeat' split
  all_goals exact h

@[simp] theorem StoreSide.startAdjust (source target cuft therms : Nat) : StoreSide s (startAdjust source target cuft therms t).2 := by
  unfold Machine.startAdjust
  split <;> exact h

@[simp] theorem StoreSide.startLookAccount (slot : Nat) : StoreSide s (startLookAccount slot t).2 := by
  unfold Machine.startLookAccount
  split <;> exact h

@[simp] theorem StoreSide.startClose : StoreSide s (startClose t).2 := by
  unfold Machine.startClose
  dsimp only
  refine StoreSide.await (StoreSide.flushWhere ?_ _) _
  split <;> simp [h]

@[simp] theorem StoreSide.writeSlot (slot : Nat) (a : Account) : StoreSide s (writeSlot slot a t).2 :=
  h.modRst fun r => r.putAccount slot a

omit h in
theorem StoreSide.onContents (g : Grant) (slot : Nat) (damaged : Result) {f : Account → State → Progress × State}
    (hf : ∀ a u, StoreSide s u → StoreSide s (f a u).2) (h : StoreSide s t) : StoreSide s (onContents g slot damaged f t).2 := by
  obtain ⟨found, u, hj, hu⟩ := h.judged false g.period slot
  cases found <;> simp [Machine.onContents, hj, hu, hf]

@[simp] theorem StoreSide.retireNext (left : List Nat) : StoreSide s (retireNext left t).2 := by
  unfold Machine.retireNext
  split <;> exact h

@[simp] theorem StoreSide.retireCheck (g : Grant) (slot : Nat) : StoreSide s (retireCheck g slot t).2 := by
  refine StoreSide.onContents g slot _ (fun a u hu => ?_) h
  repeat' split
  all_goals simp [hu]

@[simp] theorem StoreSide.retireScan (g : Grant) (slot : Nat) (left : List Nat) : StoreSide s (retireScan g slot left t).2 := by
  cases left with
  | nil => exact h.retireNext _
  | cons n left =>
    obtain ⟨found, u, hj, hu⟩ := h.judged false g.period (pointSlot n)
    unfold Machine.retireScan
    dsimp only
    rw [hj]
    repeat' split
    all_goals simp_all

@[simp] theorem StoreSide.retireFinal (g : Grant) (slot : Nat) : StoreSide s (retireFinal g slot t).2 := by
  refine StoreSide.onContents g slot _ (fun a u hu => ?_) h
  split <;> simp [hu]

@[simp] theorem StoreSide.accountAccess (g : Grant) (q : Request) : StoreSide s (accountAccess g q t).2 := by
  unfold Machine.accountAccess
  split
  case h_1 | h_2 | h_3 | h_6 =>
    refine StoreSide.onContents g _ _ (fun a u hu => ?_) h
    repeat' split
    all_goals simp [hu]
  case h_4 slot c =>
    obtain ⟨found, u, hj, hu⟩ := h.judged false g.period slot
    unfold restoreAccess
    rw [hj]
    repeat' split
    all_goals simp_all
  case h_5 source target cuft therms =>
    obtain ⟨fa, u, ha, hu⟩ := h.judged false g.period source
    obtain ⟨fb, v, hb, hv⟩ := hu.judged false g.period target
    simp only [adjustAccess, ha, hb]
    repeat' split
    all_goals simp [hv]
  case h_7 => exact h

@[simp] theorem StoreSide.passNext (tables : List Nat) (leaves : List PassLeaf) (m : Sums) :
    StoreSide s (passNext tables leaves m t).2 := by
  unfold Machine.passNext
  split
  · unfold endClose
    simp [h]
  · exact h

@[simp] theorem StoreSide.closeScanAccess (g : Grant) (slot : Nat) (m : Sums) : StoreSide s (closeScanAccess g slot m t).2 := by
  obtain ⟨found, u, hj, hu⟩ := h.judged false g.period slot
  unfold Machine.closeScanAccess
  rw [hj]
  dsimp only
  repeat' split
  all_goals simp_all

@[simp] theorem StoreSide.closeScan (g : Grant) (slot : Nat) (m : Sums) : StoreSide s (closeScan g slot m t).2 := by
  unfold Machine.closeScan
  dsimp only
  split <;> simp [h]

@[simp] theorem StoreSide.passAccess (g : Grant) (tables : List Nat) (leaves : List PassLeaf) :
    StoreSide s (passAccess g tables leaves t).2 := by
  match leaves, tables with
  | p :: leaves, tables => exact h.flagAccess ..
  | [], n :: tables =>
    obtain ⟨found, u, hj, hu⟩ := h.judged false g.period (pointSlot n)
    cases found <;> simp [Machine.passAccess, hj, hu]
  | [], [] => exact h

@[simp] theorem StoreSide.bookedPass (g : Grant) (tables : List Nat) (leaves : List PassLeaf) (m : Sums) :
    StoreSide s (bookedPass g tables leaves m t).2 := by
  simp [Machine.bookedPass, h]

@[simp] theorem StoreSide.balanceRead (g : Grant) (slot : Nat) (m : Sums) : StoreSide s (balanceRead g slot m t).2 := by
  obtain ⟨found, u, hj, hu⟩ := h.judged false g.period slot
  simp only [Machine.balanceRead, hj]
  repeat' split
  all_goals simp_all

/-! ### Any access of the head -/

@[simp] theorem StoreSide.workAccess (g : Grant) (q : Request) (w : HeadWork) : StoreSide s (workAccess g q w t).2 := by
  cases w <;> simp [Machine.workAccess, h]

@[simp] theorem StoreSide.abandonedAccess (g : Grant) (q : Request) (w : HeadWork) : StoreSide s (abandonedAccess g q w t) := by
  unfold Machine.abandonedAccess
  split <;> simp [h]

end

end Sys2Proof.StoreWork

/-! PROOFS. The booking queue and the booking cache stay within their 16 entries, with no two for one channel or one point (06 R114, R120;
O5): BKE's own work adds an entry only where none stands and there is room, and all other work leaves them or takes entries away. -/

namespace Sys2Proof.BookingBounds

open Sys2Proof.Machine Sys2Proof.Safety Sys2Proof.BkeKept Sys2Proof.StoreWork

/-! ### Sound queues and caches -/

/-- The booking queue and cache within their bounds, without two entries for one channel or one point (06 R114, R120). -/
structure BookingSound (b : Bke) : Prop where
  queueRoom : b.queue.length ≤ 16
  channels : (b.queue.map fun q => (q.address, q.channel)).Nodup
  cacheRoom : b.cache.length ≤ 16
  points : (b.cache.map (·.point)).Nodup

theorem queueSound_iff (b : Bke) : queueSound b = true ↔ BookingSound b := by
  simp only [queueSound, Bool.and_eq_true, decide_eq_true_eq]
  exact ⟨fun ⟨⟨⟨hqueue, hchannels⟩, hcache⟩, hpoints⟩ => ⟨hqueue, hchannels, hcache, hpoints⟩,
    fun ⟨hqueue, hchannels, hcache, hpoints⟩ => ⟨⟨⟨hqueue, hchannels⟩, hcache⟩, hpoints⟩⟩

/-- Entries that leave the queue or the cache leave it sound. -/
theorem BookingSound.of_sublist {b c : Bke} (hb : BookingSound b) (hqueue : c.queue.Sublist b.queue) (hcache : c.cache.Sublist b.cache) :
    BookingSound c :=
  ⟨hqueue.length_le.trans hb.queueRoom, hb.channels.sublist (hqueue.map _), hcache.length_le.trans hb.cacheRoom,
    hb.points.sublist (hcache.map _)⟩

theorem BookingSound.of_lists {b c : Bke} (hb : BookingSound b) (hqueue : c.queue = b.queue) (hcache : c.cache = b.cache) :
    BookingSound c :=
  hb.of_sublist (hqueue ▸ .refl _) (hcache ▸ .refl _)

theorem bookingSound_of_empty {b : Bke} (hqueue : b.queue = []) (hcache : b.cache = []) : BookingSound b := by
  constructor <;> simp [hqueue, hcache]

/-- An entry that becomes the most recent replaces the one for its point, and the least recent of a full cache goes (06 R120). -/
theorem BookingSound.remember {b : Bke} (hb : BookingSound b) (e : CacheEntry) : BookingSound (b.remember e) := by
  have hothers : ((b.cache.filter fun c => decide (c.point ≠ e.point)).take 15).Sublist b.cache :=
    (List.take_sublist ..).trans List.filter_sublist
  refine ⟨hb.queueRoom, hb.channels, ?_, ?_⟩
  · simp [Bke.remember, Config.maxCache]
  · refine List.nodup_cons.2 ⟨fun hmem => ?_, hb.points.sublist (hothers.map _)⟩
    obtain ⟨c, hc, hpoint⟩ := List.mem_map.1 hmem
    have hother := List.of_mem_filter (List.mem_of_mem_take hc)
    simp [hpoint] at hother

/-- An entry for a channel not queued joins a queue that has room (06 R114). -/
theorem BookingSound.enqueue {b : Bke} (hb : BookingSound b) {q : QueueEntry} (hroom : b.queue.length < 16)
    (hnew : b.queued q.address q.channel = false) : BookingSound { b with queue := b.queue ++ [q] } := by
  refine ⟨by simpa using hroom, ?_, hb.cacheRoom, hb.points⟩
  rw [List.map_append, List.nodup_append]
  refine ⟨hb.channels, List.nodup_singleton _, fun k hk l hl hkl => ?_⟩
  obtain ⟨x, hx, rfl⟩ := List.mem_map.1 hk
  obtain rfl := List.mem_singleton.1 hl
  obtain ⟨haddress, hchannel⟩ := Prod.mk.inj hkl
  have hnone := List.any_eq_false.1 hnew x hx
  simp [QueueEntry.isFor, haddress, hchannel] at hnone

/-- A reply merged into an entry leaves it in its place and for its channel (06 R115). -/
theorem BookingSound.mergeEntry {b : Bke} (hb : BookingSound b) (address : Nat) (ch : Fin 4) (n : Nat) (r : MeterReading) :
    BookingSound (mergeEntry address ch n r b) := by
  refine ⟨by simpa [Machine.mergeEntry] using hb.queueRoom, ?_, hb.cacheRoom, hb.points⟩
  have hkeys : ((Machine.mergeEntry address ch n r b).queue.map fun q => (q.address, q.channel))
      = b.queue.map fun q => (q.address, q.channel) := by
    simp only [Machine.mergeEntry, List.map_map]
    refine List.map_congr_left fun q _ => ?_
    simp only [Function.comp]
    split <;> rfl
  rw [hkeys]
  exact hb.channels

/-- Accesses of requests leave the queue and only flush cache entries. -/
theorem BookingSound.of_storeSide {s t : State} (hs : BookingSound s.bke) (h : StoreSide s t) : BookingSound t.bke := by
  refine hs.of_sublist ?_ h.cache
  rw [h.others]

section
variable {s : State} (hs : BookingSound s.bke)

include hs

/-! ### Resolving a booking -/

@[simp] theorem BookingSound.setPhase (h : InHand) (p : Phase) : BookingSound (setPhase h p s).bke := hs.of_lists rfl rfl

@[simp] theorem BookingSound.conclude (h : InHand) (r : Option Resolution) : BookingSound (conclude h r s).bke := by
  simp [Machine.conclude, hs]

@[simp] theorem BookingSound.awaitLevel (h : InHand) (w : Walk) (level : WalkLevel) : BookingSound (awaitLevel h w level s).bke := by
  simp [Machine.awaitLevel, hs]

theorem BookingSound.modRemember (e : CacheEntry) : BookingSound (s.modBke (·.remember e)).bke := hs.remember e

@[simp] theorem BookingSound.useRoot (d : DistrictId) : BookingSound (useRoot d s).bke := hs

@[simp] theorem BookingSound.resolve (h : InHand) : BookingSound (resolve h s).bke := by
  unfold Machine.resolve
  dsimp only
  repeat' split
  · exact hs.conclude h _
  · exact (hs.modRemember _).conclude h _
  · exact hs.conclude h _
  · exact (hs.useRoot _).awaitLevel h _ _

@[simp] theorem BookingSound.walkEnds (h : InHand) (w : Walk) (r : Resolution) : BookingSound (walkEnds h w r s).bke := by
  unfold Machine.walkEnds
  split
  · exact hs.resolve h
  · cases r with
    | account slot barred global origin => exact (hs.modRemember _).conclude h _
    | noRoute reason => exact hs.conclude h _

@[simp] theorem BookingSound.followIndirect (h : InHand) (w : Walk) (own : LeafRef) (target : Nat) :
    BookingSound (followIndirect h w own target s).bke := by
  unfold Machine.followIndirect
  dsimp only
  split <;> simp [hs]

@[simp] theorem BookingSound.passLeaf (h : InHand) (w : Walk) (t : Nat) (leaf : Leaf) : BookingSound (passLeaf h w t leaf s).bke := by
  unfold Machine.passLeaf
  dsimp only
  split <;> simp [hs]

@[simp] theorem BookingSound.walkGoesOn (h : InHand) (w : Walk) (found : Found) : BookingSound (walkGoesOn h w found s).bke := by
  unfold Machine.walkGoesOn
  dsimp only
  repeat' split
  all_goals simp [hs]

omit hs in
theorem storeSide_walkAccess (g : Grant) (w : Walk) (s : State) : StoreSide s (walkAccess g w s).2 := by
  unfold walkAccess
  split <;> simp [StoreSide.refl]

@[simp] theorem BookingSound.walkAccess (g : Grant) (w : Walk) : BookingSound (walkAccess g w s).2.bke :=
  hs.of_storeSide (storeSide_walkAccess g w s)

@[simp] theorem BookingSound.walkAccessEnds (g : Grant) (h : InHand) (w : Walk) : BookingSound (walkAccessEnds g h w s).bke := by
  simp [Machine.walkAccessEnds, hs]

/-! ### Cycles -/

omit hs in
/-- BKE takes the queue's head, passing over those with nothing to book: induction on the queue (06 R118). -/
theorem BookingSound.takeHeads {qs : List QueueEntry} (hs : BookingSound s.bke) (hqs : qs.Sublist s.bke.queue) :
    BookingSound (takeHeads qs s).bke := by
  induction qs with
  | nil => exact hs.of_sublist (List.nil_sublist _) (.refl _)
  | cons q qs ih =>
    have hrest : qs.Sublist s.bke.queue := (List.sublist_cons_self q qs).trans hqs
    unfold Machine.takeHeads
    split
    · exact ih hrest
    · have htaken : BookingSound (s.modBke fun b => { b with queue := qs }).bke := hs.of_sublist hrest (.refl _)
      dsimp only
      split
      · exact htaken.conclude _ _
      · exact htaken.resolve _

@[simp] theorem BookingSound.endCycle : BookingSound (endCycle s).bke := hs.takeHeads (.refl _)

/-! ### Commits -/

omit hs in
theorem storeSide_toSuspense (g : Grant) (q : Quantity) (reason : Divert) {s t : State} (h : StoreSide s t) :
    StoreSide s (toSuspense g q reason t).2 := by
  obtain ⟨found, u, hj, hu⟩ := h.judged false g.period 0
  cases found with
  | contents =>
    simp only [toSuspense, hj]
    split <;> simp [hu]
  | damaged => simp [toSuspense, hj, hu]
  | uncorrectable => simp [toSuspense, hj, hu]

omit hs in
theorem storeSide_toAccount (g : Grant) (q : Quantity) (slot : Nat) (s : State) : StoreSide s (toAccount g q slot s).2 := by
  obtain ⟨found, u, hj, hu⟩ := (StoreSide.refl s).judged false g.period slot
  unfold toAccount
  rw [hj]
  dsimp only
  repeat' split
  all_goals simp_all [storeSide_toSuspense]

omit hs in
theorem storeSide_commitTo (g : Grant) (q : Quantity) (r : Option Resolution) (s : State) : StoreSide s (commitTo g q r s).2 := by
  unfold commitTo
  repeat' split
  all_goals simp [storeSide_toSuspense, storeSide_toAccount, StoreSide.refl]

@[simp] theorem BookingSound.commitEffect (g : Grant) (h : InHand) (r : Option Resolution) :
    BookingSound (commitEffect g h r s).2.bke := by
  have hlatch (c : Committed) (b : Bke) (hb : BookingSound b) : BookingSound (latchBooking h c b) := by
    unfold latchBooking
    split <;> exact hb.of_lists rfl rfl
  refine hlatch _ _ ?_
  rw [Commits.settleChannel_bke]
  exact hs.of_storeSide (storeSide_commitTo g _ r s)

@[simp] theorem BookingSound.commitEnds (g : Grant) (h : InHand) (r : Option Resolution) : BookingSound (commitEnds g h r s).bke := by
  unfold Machine.commitEnds
  dsimp only
  repeat' split
  all_goals simp [hs]

@[simp] theorem BookingSound.markBooked (g : Grant) (own : LeafRef) : BookingSound (markBooked g own s).bke :=
  hs.of_storeSide ((StoreSide.refl s).flagAccess ..)

@[simp] theorem BookingSound.completeBke (g : Grant) : BookingSound (completeBke g s).bke := by
  unfold Machine.completeBke
  repeat' split
  all_goals simp [hs]

/-! ### Meter replies and removal -/

omit hs in
@[simp] theorem bke_modChannel (address : Nat) (ch : Fin 4) (f : Channel → Channel) (s : State) :
    (s.modChannel address ch f).bke = s.bke := rfl

omit hs in
theorem BookingSound.foldl {α : Type} {f : State → α → State} (hf : ∀ s a, BookingSound s.bke → BookingSound (f s a).bke) (l : List α)
    {s : State} (hs : BookingSound s.bke) : BookingSound (l.foldl f s).bke := by
  induction l generalizing s with
  | nil => exact hs
  | cons a l ih => exact ih (hf s a hs)

theorem BookingSound.takeCount (address : Nat) (r : MeterReading) (ch : Fin 4) : BookingSound (takeCount address r s ch).bke := by
  unfold Machine.takeCount
  dsimp only
  split
  · exact hs
  · split
    · exact hs
    · split
      · exact hs
      · split
        · exact hs.mergeEntry ..
        · rename_i hqueued
          split
          · exact hs
          · split
            · rename_i hroom
              have hjoined := hs.enqueue (q := ⟨address, ch, r.counts[ch], r.pressure, r.temp⟩) hroom (Bool.eq_false_of_not_eq_true hqueued)
              split
              · exact BookingSound.endCycle hjoined
              · exact hjoined
            · exact hs

theorem BookingSound.meterReply (address : Nat) (r : MeterReading) : BookingSound (meterReply address r s).bke := by
  unfold Machine.meterReply
  repeat' split
  · exact BookingSound.foldl (fun _ ch hs => hs.takeCount address r ch) channelIds hs
  · exact hs
  · exact hs

@[simp] theorem BookingSound.dropInHand : BookingSound (dropInHand s).bke :=
  BookingSound.endCycle (s := withdrawBke s) hs

@[simp] theorem BookingSound.discardInHand (h : InHand) : BookingSound (discardInHand h s).bke := by
  unfold Machine.discardInHand
  repeat' split
  all_goals simp [hs]

@[simp] theorem BookingSound.removeWhere (address : Nat) (p : Fin 4 → Bool) : BookingSound (removeWhere address p s).bke := by
  have hleft : BookingSound { s.bke with queue := s.bke.queue.filter fun q => !(decide (q.address = address) && p q.channel) } :=
    hs.of_sublist List.filter_sublist (.refl _)
  unfold Machine.removeWhere
  dsimp only
  rw [bke_foldl fun s ch => by split <;> rfl]
  repeat' split
  · exact BookingSound.discardInHand hleft _
  · exact hleft
  · exact hleft

@[simp] theorem BookingSound.setChannel (address channel : Nat) (enabled : Bool) (point constant limit : Nat) :
    BookingSound (Machine.setChannel address channel enabled point constant limit s).2.bke := by
  unfold Machine.setChannel
  dsimp only
  repeat' split
  all_goals simp [removeChannel, hs]

@[simp] theorem BookingSound.setOutstation (address : Nat) (action : OutstationAction) (kind : Option EntryKind) (retry : Option Nat) :
    BookingSound (Machine.setOutstation address action kind retry s).2.bke := by
  unfold Machine.setOutstation
  dsimp only
  repeat' split
  all_goals simp [removeChannels, hs]

/-! ### Requests -/

@[simp] theorem BookingSound.acknowledge (n : Nat) : BookingSound (acknowledge n s).2.bke := by
  unfold Machine.acknowledge
  split
  · exact hs
  · rename_i x _
    cases x <;> exact hs.of_lists rfl rfl

/-- A request starts: those of BKE and the poll list keep the bounds, those that take store accesses flush at most, the others leave
the booking engine alone (11 R194). -/
theorem BookingSound.startRequest (q : Request) : BookingSound (startRequest q s).2.bke := by
  cases q with
  | mapPoint | linkPoint | unmapPoint | bar | unbar | setRoute | lookPoint | openAccount | closeAccount | reopenAccount | retireAccount
  | restoreAccount | adjust | closePeriod | lookAccount | lookBalance =>
    refine hs.of_storeSide ?_
    simp [Machine.startRequest, StoreSide.refl]
  | _ => simp [Machine.startRequest, atOnce, refuse, lookBooking, lookStore, lookYard, lookLink, readAttention, hs]

theorem BookingSound.startHead (h : Stacked) : BookingSound (startHead h s).2.bke := by
  unfold Machine.startHead
  split
  · exact BookingSound.startRequest (s := markStarted s) hs _
  · exact hs

omit hs in
/-- Requests start as they become the head: induction on the starts within one event (11 R194). -/
theorem BookingSound.runStack {s : State} (hs : BookingSound s.bke) (n : Nat) : BookingSound (runStack n s).bke := by
  induction n generalizing s with
  | zero => exact hs
  | succ n ih =>
    unfold Machine.runStack
    split
    · exact hs
    · rename_i h _ _
      have hstart := hs.startHead h
      split
      · exact hs
      · split
        · rename_i ht
          rw [ht] at hstart
          exact ih hstart
        · rename_i ht
          rw [ht] at hstart
          simpa using hstart

/-! ### Resets -/

theorem BookingSound.completeServed : BookingSound (completeServed s).bke := by
  unfold Machine.completeServed
  split
  · exact hs
  · rename_i g _
    dsimp only [State.modRst_bke]
    split
    · exact hs.completeBke g
    · exact hs.of_storeSide ((StoreSide.refl s).scrubEffect g)
    · split
      · exact hs.of_storeSide ((StoreSide.refl s).abandonedAccess g _ _)
      · exact hs

omit hs in
/-- A reset empties the queue and the cache (06 R129). -/
theorem bookingSound_resetPart (cause : RestartCause) (s : State) : BookingSound (resetPart cause s).bke := by
  unfold resetPart
  dsimp only
  rw [bke_nextTurn, bke_foldl bke_replaceLoading]
  exact bookingSound_of_empty rfl rfl

omit hs in
theorem bookingSound_powerOn (batteryLow : Bool) (found : StateFlaw) (s : State) : BookingSound (powerOn batteryLow found s).bke := by
  unfold powerOn
  split
  · dsimp only
    split <;> exact bookingSound_of_empty rfl rfl
  · exact bookingSound_resetPart _ _

/-! ### Arrival -/

omit hs in
theorem BookingSound.immediate {s t : State} {tag : Byte} {q : Request} (hs : BookingSound s.bke) (h : immediate tag q s = some t) :
    BookingSound t.bke := by
  cases q <;> simp only [Machine.immediate, Option.some.injEq, reduceCtorEq] at h <;> subst h
  case yardReset =>
    unfold yardReset
    rw [bke_respond]
    exact bookingSound_resetPart _ _
  all_goals simpa using hs

theorem BookingSound.requestArrives (tag : Byte) (q : Request) : BookingSound (requestArrives tag q s).bke := by
  unfold Machine.requestArrives
  split
  · exact hs
  · split
    · rename_i ht
      exact hs.immediate ht
    · unfold stackRequest
      split
      · exact hs
      · exact BookingSound.runStack (s := s.modRex _) hs _

theorem BookingSound.linkByte (b : Byte) : BookingSound (linkByte s b).bke := by
  have hrx : BookingSound (s.modRex fun x => { x with rx := (linkForm.step s.rex.rx b).1 }).bke := hs
  unfold Machine.linkByte
  dsimp only
  split
  · unfold judgeLink
    dsimp only
    repeat' split
    all_goals first | exact hrx | exact hrx.requestArrives _ _
  · exact hrx

/-! ### The ends of accesses -/

theorem BookingSound.headAccessEnds (kind : HeadWork → Bool) : BookingSound (headAccessEnds kind s).bke := by
  unfold Machine.headAccessEnds
  split
  · rename_i g h w _ _
    split
    · rw [bke_release]
      have hw : BookingSound (workAccess g h.request w s).2.bke := hs.of_storeSide ((StoreSide.refl s).workAccess g h.request w)
      unfold headGoesOn
      split
      · rename_i result fields t ht
        rw [ht] at hw
        exact BookingSound.runStack (s := answerHead h result fields t) hw _
      · rename_i ht
        rw [ht] at hw
        simpa using hw
    · exact hs
  · exact hs

theorem BookingSound.walkWork (g : Grant) (h : InHand) : BookingSound (walkWork g h s).bke := by
  unfold Machine.walkWork
  split
  · exact hs.walkAccessEnds g h _
  · exact hs

theorem BookingSound.commitWork (g : Grant) (h : InHand) : BookingSound (commitWork g h s).bke := by
  unfold Machine.commitWork
  split
  · exact hs.commitEnds g h _
  · exact hs

theorem BookingSound.markWork (g : Grant) (h : InHand) : BookingSound (markWork g h s).bke := by
  unfold Machine.markWork
  split
  · exact BookingSound.endCycle (s := standMark _ _) (hs.markBooked g _)
  · exact hs

theorem BookingSound.bookingAccessEnds (kind : Phase → Bool) {work : Grant → InHand → State → State}
    (hw : ∀ g h, BookingSound (work g h s).bke) : BookingSound (bookingAccessEnds kind work s).bke := by
  unfold Machine.bookingAccessEnds
  repeat' split
  · simpa using hw _ _
  · exact hs
  · exact hs

/-! ### Commands -/

omit hs in
theorem BookingSound.whenRunning {s t : State} {f : State → State} (hs : BookingSound s.bke)
    (hf : BookingSound s.bke → BookingSound (f s).bke) (h : whenRunning s f = .next t) : BookingSound t.bke := by
  rw [whenRunning_next] at h
  cases h
  split
  · exact hf hs
  · exact hs

omit hs in
theorem BookingSound.kept {s t : State} {f : State → State} (hs : BookingSound s.bke) (hf : (f s).bke = s.bke)
    (h : Machine.whenRunning s f = .next t) : BookingSound t.bke := hs.whenRunning (fun hs => hf.symm ▸ hs) h

omit hs in
theorem BookingSound.storeCommand {s t : State} {flaws : List Flaw} {f : State → State} (hs : BookingSound s.bke)
    (hf : ∀ u : State, BookingSound u.bke → BookingSound (f u).bke) (h : storeCommand flaws s f = .next t) : BookingSound t.bke :=
  BookingSound.whenRunning (s := s.modRst fun r => r.addFlaws flaws) hs (hf _) h

end

/-- Every command keeps the booking queue and cache within their bounds (06 R114, R120). -/
theorem BookingSound.exec {i : Instr} {s t : State} (hs : BookingSound s.bke) (h : exec i s = .next t) : BookingSound t.bke := by
  cases hq : i.request with
  | some p =>
    rw [exec_of_request hq] at h
    exact hs.whenRunning (fun hs => hs.requestArrives _ _) h
  | none =>
    cases i <;> simp only [Instr.request, reduceCtorEq] at hq <;>
      simp only [Machine.exec, execSupplyFail, execLinkFrame, execResponseSent, execPollSent, execLineFrameEnd, execReplyWaitExpiry,
        execLineDeadNotice, execLineAliveNotice, execCrownReply, execMoveTimerExpiry, execCrownSilentNotice, execAutomaticDraw,
        execAutoJoinAnswer, execHolderValuesNotice, execJoinPendingNotice, execJoinNotice, execLeaveNotice,
        execWithdrawPendingNotice, execRemoveNotice, execStandingNotice, execMinuteEvent, execGovernorReply, execTelltaleReply,
        execGovernorSilentNotice, execTelltaleSilentNotice, execBarometerReply, execMeterReply, execScrubTimerExpiry,
        execScrubCheck] at h
    case powerOn low found =>
      cases h
      exact bookingSound_powerOn low found s
    case supplyFail => exact hs.whenRunning (f := supplyFails) (fun hs => hs.completeServed) h
    case linkFrame bytes => exact hs.whenRunning (BookingSound.foldl (fun _ b hs => hs.linkByte b) bytes) h
    case meterReply a r => exact hs.whenRunning (fun hs => BookingSound.meterReply (s := s.taken _) hs a r) h
    case walkTableRead | walkFlagAccess =>
      exact hs.storeCommand (fun u hu => hu.bookingAccessEnds _ fun g h => hu.walkWork g h) h
    case commitAccess => exact hs.storeCommand (fun u hu => hu.bookingAccessEnds _ fun g h => hu.commitWork g h) h
    case bookedFlagAccess => exact hs.storeCommand (fun u hu => hu.bookingAccessEnds _ fun g h => hu.markWork g h) h
    case scrubCheck =>
      refine hs.storeCommand (fun u hu => ?_) h
      split
      · simpa using hu.of_storeSide ((StoreSide.refl u).scrubEffect _)
      · exact hu
    case directoryAccessEnd | accountRequestAccess | retireScanRead | retireFinalAccess | closeScanAccess | bookedPassAccess
        | balanceRead | lookPointRead | retireCheckAccess =>
      exact hs.storeCommand (fun u hu => hu.headAccessEnds _) h
    case lineFrameEnd bytes => exact hs.kept (bke_foldl bke_lineByte _ _) h
    case minuteEvent => exact BookingSound.kept (s := s.modYard Yard.tickMinute) hs (by simp) h
    all_goals exact hs.kept (by simp [governorSilent, takeBarometer, pollGone, responseGone]) h

end Sys2Proof.BookingBounds

namespace Sys2Proof

/-- Settles O5: the queue's front command keeps the booking queue and cache within their bounds. -/
theorem bookingQueueAndCacheStayBounded : Obligations.BookingQueueAndCacheStayBounded := by
  unfold Obligations.BookingQueueAndCacheStayBounded
  intro s t hs h
  rw [BookingBounds.queueSound_iff] at hs ⊢
  unfold Machine.step at h
  split at h
  · cases h
    exact hs
  · rename_i rest _
    exact BookingBounds.BookingSound.exec (s := { s with pending := rest }) hs h

end Sys2Proof

/-! PROOFS. Meter channels, and how BKE turns to its queue with no access waiting (06 R110, R118, R119): a channel changed and read back,
and the head of the queue taken at an idle store (O27, O57). -/

namespace Sys2Proof.Channels

open Sys2Proof.Machine Sys2Proof.Safety

/-! ### Channels changed and read back -/

theorem channel_of_entry {s : State} {a : Nat} {e : PollEntry} (he : s.line.entry a = some e) (k : Fin 4) :
    s.channel a k = some e.channels[k] := by
  rw [State.channel, he]
  rfl

/-- A change of one channel leaves the others (06 R110). -/
theorem channel_modChannel_ne (s : State) {a b : Nat} {k d : Fin 4} (f : Channel → Channel) (hne : b ≠ a ∨ d ≠ k) :
    (s.modChannel a k f).channel b d = s.channel b d := by
  have hsame (e : PollEntry) (h : e.address = b) : ((if e.address = a then
      { e with channels := e.channels.set k (f e.channels[k]) } else e) : PollEntry).channels[d] = e.channels[d] := by
    split
    · rename_i ha
      have hval : (k : Nat) ≠ d := fun hkd => hne.elim (fun hb => hb (h.symm.trans ha)) fun hd => hd (Fin.ext hkd.symm)
      exact Vector.getElem_set_ne k.isLt d.isLt hval
    · rfl
  have haddress (e : PollEntry) : ((if e.address = a then
      { e with channels := e.channels.set k (f e.channels[k]) } else e) : PollEntry).address = e.address := by
    split <;> rfl
  simp only [State.channel, State.modChannel, State.modLine, Line.entry, Line.modEntry, List.find?_map, Function.comp_def, haddress,
    Option.map_map]
  refine Option.map_congr fun e he => hsame e ?_
  simpa using List.find?_some he

/-- Two changes of one channel are one. -/
theorem modChannel_modChannel (s : State) (a : Nat) (k : Fin 4) (f g : Channel → Channel) :
    (s.modChannel a k f).modChannel a k g = s.modChannel a k fun c => g (f c) := by
  simp only [State.modChannel, State.modLine, Line.modEntry, List.map_map]
  congr 2
  refine List.map_congr_left fun e _ => ?_
  simp only [Function.comp]
  split <;> simp_all

/-! ### An idle store -/

/-- An idle arbiter grants BKE its access at once, without a stale mark (06 R122, 08 R163). -/
theorem request_setPhase_of_idle {s : State} (hs : StoreIdle s) (h : InHand) {p : Phase}
    (hp : ∀ x st, p = .committing (some x) st → st = false) : request .bke (setPhase h p s) = bookingContinues s h p := by
  obtain ⟨hserving, hbke, hrex, hscrub⟩ := hs
  have hm : ({ s.bke with inHand := some { h with phase := p } } : Bke).staleCommit = false := by
    simp only [Bke.staleCommit]
    split <;> [exact hp _ _ rfl; rfl]
  simp [request, arbitrate, grant, setPhase, bookingContinues, State.modRst, State.modBke, hserving, hbke, hrex, hm]

/-- A resolution in parts: the state it asks for its access in, and the phase it gives the booking (05 R94, R100, 06 R119, R120). -/
theorem resolve_parts (h : InHand) (s : State) : ∃ y p, resolve h s = request .bke (setPhase h p y)
    ∧ resolvedTo s h = bookingContinues y h p ∧ y.rst = s.rst ∧ y.line = s.line
    ∧ ∀ x st, p = .committing (some x) st → st = false := by
  have hfresh (r : Option Resolution) : ∀ x st, Phase.committing r false = .committing (some x) st → st = false :=
    fun _ _ he => by cases he; rfl
  simp only [resolve, resolvedTo, Bke.routed, routeHit_eq, Bke.cached]
  by_cases h0 : (s.bke.routes[0].enabled && decide (s.bke.routes[0].low ≤ h.point) && decide (h.point ≤ s.bke.routes[0].high)
      && s.bke.routes[0].slot.isSome) = true
  · rw [if_pos h0, if_pos h0]
    exact ⟨s, _, rfl, rfl, rfl, rfl, hfresh _⟩
  rw [if_neg h0, if_neg h0, Option.orElse_none]
  by_cases h1 : (s.bke.routes[1].enabled && decide (s.bke.routes[1].low ≤ h.point) && decide (h.point ≤ s.bke.routes[1].high)
      && s.bke.routes[1].slot.isSome) = true
  · rw [if_pos h1, if_pos h1]
    exact ⟨s, _, rfl, rfl, rfl, rfl, hfresh _⟩
  rw [if_neg h1, if_neg h1]
  cases he : s.bke.cache.find? fun e => decide (e.point = h.point) with
  | some e =>
    have hpoint : e.point = h.point := by simpa using List.find?_some he
    refine ⟨s.modBke (·.remember e), _, rfl, ?_, rfl, rfl, hfresh _⟩
    simp only [Bke.remember, State.modBke, hpoint]
    rfl
  | none =>
    cases hroot : (s.district (pointDistrict h.point)).root.table with
    | none => exact ⟨s, _, rfl, rfl, rfl, rfl, hfresh _⟩
    | some t => exact ⟨useRoot (pointDistrict h.point) s, _, rfl, rfl, rfl, rfl, fun _ _ he => by cases he⟩

/-- BKE resolves a booking at an idle store: its first access is granted at once (06 R119, 08 R163). -/
theorem resolve_of_idle {s : State} (hs : StoreIdle s) (h : InHand) : resolve h s = resolvedTo s h := by
  obtain ⟨y, p, hresolve, hresolved, hrst, -, hp⟩ := resolve_parts h s
  rw [hresolve, hresolved]
  exact request_setPhase_of_idle (s := y) (by rw [StoreIdle, hrst]; exact hs) h hp

/-! ### The queue's head -/

@[simp] theorem line_request (q : Requester) (s : State) : (request q s).line = s.line := by
  simp [request, arbitrate, grant, apply_ite State.line]

@[simp] theorem line_resolve (h : InHand) (s : State) : (resolve h s).line = s.line := by
  obtain ⟨y, p, hresolve, -, -, hline, -⟩ := resolve_parts h s
  rw [hresolve, line_request]
  exact hline

/-- BKE takes the queue's head, or the next: the line is left alone (06 R118). -/
@[simp] theorem line_takeHeads (qs : List QueueEntry) (s : State) : (takeHeads qs s).line = s.line := by
  induction qs with
  | nil => rfl
  | cons q qs ih =>
    unfold takeHeads
    split
    · exact ih
    · simp [apply_ite State.line, conclude, setPhase]

@[simp] theorem line_endCycle (s : State) : (endCycle s).line = s.line := line_takeHeads _ _

/-- BKE goes IDLE on an empty queue (06 R118). -/
theorem endCycle_of_empty {s : State} (hq : s.bke.queue = []) : endCycle s = { s with bke := { s.bke with inHand := none } } := by
  simp only [endCycle, hq, takeHeads, State.modBke]

/-- The booking of a queue entry of a channel with so many pulses to book (06 R118). -/
def bookingOf (q : QueueEntry) (c : Channel) (n : Nat) : InHand :=
  ⟨q.address, q.channel, q.target, q.pressure, q.temp, c.point, c.constant, c.limit, n, .committing none false⟩

theorem takeEntry_eq {s : State} {q : QueueEntry} {c : Channel} {n : Nat} (hc : s.channel q.address q.channel = some c)
    (hn : n = pulsesBetween c.base q.target) : takeEntry q s = if n = 0 then none else some (bookingOf q c n) := by
  subst hn
  simp only [takeEntry, hc]
  rfl

section
variable {s : State} {q : QueueEntry} {c : Channel} {n : Nat} (hc : s.channel q.address q.channel = some c)
  (hn : n = pulsesBetween c.base q.target) (hq : s.bke.queue = [q])

include hc hn hq

/-- A lone entry with nothing to book ends its cycle at once (06 R118). -/
theorem endCycle_of_no_pulses (h0 : n = 0) : endCycle s = { s with bke := { s.bke with queue := [], inHand := none } } := by
  rw [endCycle, hq, takeHeads, takeEntry_eq hc hn, if_pos h0]
  rfl

/-- A lone entry with more pulses than its limit goes to commit as IMPLAUSIBLE (06 R118). -/
theorem endCycle_of_implausible (hs : StoreIdle s) (hlimit : c.limit < n) : endCycle s
    = bookingContinues { s with bke := { s.bke with queue := [] } } (bookingOf q c n) (.committing none false) := by
  have hpos : n ≠ 0 := by omega
  have hfresh : ∀ x st, Phase.committing none false = .committing (some x) st → st = false := fun _ _ he => by cases he
  have hgreat : (bookingOf q c n).limit < (bookingOf q c n).pulses := hlimit
  rw [endCycle, hq, takeHeads, takeEntry_eq hc hn, if_neg hpos]
  dsimp only
  rw [if_pos hgreat]
  exact request_setPhase_of_idle (s := s.modBke fun b => { b with queue := [] }) hs _ hfresh

/-- A lone entry within its limit is resolved (06 R118, R119). -/
theorem endCycle_of_plausible (hs : StoreIdle s) (hpos : n ≠ 0) (hlimit : n ≤ c.limit) : endCycle s
    = resolvedTo { s with bke := { s.bke with queue := [] } } (bookingOf q c n) := by
  have hwithin : ¬ (bookingOf q c n).limit < (bookingOf q c n).pulses := Nat.not_lt.2 hlimit
  rw [endCycle, hq, takeHeads, takeEntry_eq hc hn, if_neg hpos]
  dsimp only
  rw [if_neg hwithin]
  exact resolve_of_idle (s := s.modBke fun b => { b with queue := [] }) hs _

end

end Sys2Proof.Channels

/-! PROOFS. Meter replies (06 R112, R113, R115, R116, R118, R119; O57): what one channel makes of its count, and the four channels of a
reply in the order of their numbers. -/

namespace Sys2Proof.MeterReplies

open Sys2Proof.Machine Sys2Proof.Safety Sys2Proof.Channels

theorem exec_meterReply {s : State} (hr : s.running = true) (a : Nat) (r : MeterReading) :
    exec (.meterReply a r) s = .next (meterReply a r (s.taken (.meterReply a r))) :=
  whenRunning_of_running (fun s => meterReply a r (s.taken (.meterReply a r))) hr

theorem meterReply_of_meter {s : State} {a : Nat} {e : PollEntry} (r : MeterReading) (he : s.line.entry a = some e)
    (hk : e.kind = .meter) : meterReply a r s = channelIds.foldl (takeCount a r) s := by
  simp only [meterReply, he, hk, if_true]

/-! ### One channel -/

/-- The queue entry that a reply gives a channel (06 R114, R115). -/
def entryOf (a : Nat) (r : MeterReading) (k : Fin 4) : QueueEntry := ⟨a, k, r.counts[k], r.pressure, r.temp⟩

/-- A channel's latest count as a reply gives it, and its pulses no longer waiting (06 R115, R116). -/
def counted (r : MeterReading) (k : Fin 4) (c : Channel) : Channel := { c with latest := some r.counts[k], waiting := false }

/-- The state with a reply's entry for a channel behind the queue (06 R115). -/
def joined (a : Nat) (r : MeterReading) (k : Fin 4) (s : State) : State :=
  { s.modChannel a k (counted r k) with bke := { s.bke with queue := s.bke.queue ++ [entryOf a r k] } }

theorem queued_eq_false {b : Bke} {a : Nat} {k : Fin 4} (h : ∀ q ∈ b.queue, ¬ (q.address = a ∧ q.channel = k)) :
    b.queued a k = false := by
  refine List.any_eq_false.2 fun q hq => ?_
  simpa [QueueEntry.isFor] using h q hq

section
variable {s : State} {a : Nat} {k : Fin 4} {c : Channel} (r : MeterReading) (hc : s.channel a k = some c)

include hc

/-- A channel that is not enabled takes no count (06 R115). -/
theorem takeCount_of_disabled (hon : c.enabled = false) : takeCount a r s k = s := by
  simp [takeCount, hc, hon]

/-- The first count is the channel's base (06 R112). -/
theorem takeCount_of_first (hon : c.enabled = true) (hbase : c.baseTaken = false) : takeCount a r s k
    = s.modChannel a k fun x => { x with latest := some r.counts[k], base := r.counts[k], baseTaken := true } := by
  simp [takeCount, hc, hon, hbase]

variable (hon : c.enabled = true) (hbase : c.baseTaken = true)

include hon hbase

/-- A channel already queued has its entry brought up to date (06 R115). -/
theorem takeCount_of_queued (hq : s.bke.queued a k = true) : takeCount a r s k
    = (s.modChannel a k fun x => { x with latest := some r.counts[k] }).modBke (mergeEntry a k r.counts[k] r) := by
  have hq' : (s.modChannel a k fun x => { x with latest := some r.counts[k] }).bke.queued a k = true := hq
  rw [takeCount, hc]
  simp only [hon, hbase, hq']
  rfl

variable (hq : s.bke.queued a k = false)

include hq

/-- A count equal to the base books nothing (06 R115). -/
theorem takeCount_of_same (hsame : r.counts[k] = c.base) : takeCount a r s k
    = s.modChannel a k fun x => { x with latest := some r.counts[k] } := by
  have hq' : (s.modChannel a k fun x => { x with latest := some r.counts[k] }).bke.queued a k = false := hq
  rw [takeCount, hc]
  simp only [hon, hbase, hq', Bool.not_true, Bool.false_eq_true, if_false]
  exact if_pos hsame

variable (hcount : r.counts[k] ≠ c.base)

include hcount

/-- With the queue full the pulses wait (06 R116). -/
theorem takeCount_of_full (hfull : 16 ≤ s.bke.queue.length) : takeCount a r s k
    = s.modChannel a k fun x => { x with latest := some r.counts[k], waiting := true } := by
  have hq' : (s.modChannel a k fun x => { x with latest := some r.counts[k] }).bke.queued a k = false := hq
  have hroom : ¬ (s.modChannel a k fun x => { x with latest := some r.counts[k] }).bke.queue.length < Config.maxQueue :=
    Nat.not_lt.2 hfull
  rw [takeCount, hc]
  simp only [hon, hbase, hq', hcount, hroom, modChannel_modChannel]
  rfl

/-- With room the channel joins the queue, and an idle engine turns to it (06 R115, R118). -/
theorem takeCount_of_room (hroom : s.bke.queue.length < 16) : takeCount a r s k
    = if s.bke.inHand.isNone then endCycle (joined a r k s) else joined a r k s := by
  have hq' : (s.modChannel a k fun x => { x with latest := some r.counts[k] }).bke.queued a k = false := hq
  have hroom' : (s.modChannel a k fun x => { x with latest := some r.counts[k] }).bke.queue.length < Config.maxQueue := hroom
  rw [takeCount, hc]
  simp only [hon, hbase, hq', hcount, hroom', modChannel_modChannel]
  rfl

theorem takeCount_of_busy (hroom : s.bke.queue.length < 16) (hhand : s.bke.inHand.isSome = true) :
    takeCount a r s k = joined a r k s := by
  rw [takeCount_of_room r hc hon hbase hq hcount hroom, if_neg (by simp [Option.isSome_iff_ne_none.1 hhand])]

theorem takeCount_of_idle (hempty : s.bke.queue = []) (hhand : s.bke.inHand = none) :
    takeCount a r s k = endCycle (joined a r k s) := by
  rw [takeCount_of_room r hc hon hbase hq hcount (by simp [hempty]), if_pos (by simp [hhand])]

end

/-! ### The channels of a reply -/

/-- One channel's count leaves the other channels alone (06 R115). -/
theorem channel_takeCount_ne (s : State) {a : Nat} (r : MeterReading) {k j : Fin 4} (hne : j ≠ k) :
    (takeCount a r s k).channel a j = s.channel a j := by
  have hmod (u : State) (f : Channel → Channel) : (u.modChannel a k f).channel a j = u.channel a j :=
    channel_modChannel_ne u f (.inr hne)
  have hbke (u : State) (f : Bke → Bke) : (u.modBke f).channel a j = u.channel a j := rfl
  have hcycle (u : State) : (endCycle u).channel a j = u.channel a j := by
    rw [State.channel, line_endCycle]
    rfl
  unfold takeCount
  dsimp only
  repeat' split
  all_goals simp only [hmod, hbke, hcycle]

theorem foldl_takeCount_of_disabled {s : State} {a : Nat} (r : MeterReading) (l : List (Fin 4))
    (h : ∀ j ∈ l, ∃ c, s.channel a j = some c ∧ c.enabled = false) : l.foldl (takeCount a r) s = s := by
  induction l with
  | nil => rfl
  | cons j l ih =>
    obtain ⟨⟨c, hc, hon⟩, hrest⟩ := List.forall_mem_cons.1 h
    rw [List.foldl_cons, takeCount_of_disabled r hc hon]
    exact ih hrest

/-- With one channel enabled a reply comes to that channel's count (06 R115). -/
theorem foldl_takeCount_of_one {s : State} {a : Nat} (r : MeterReading) (k : Fin 4)
    (h : ∀ j, j ≠ k → ∃ c, s.channel a j = some c ∧ c.enabled = false) : channelIds.foldl (takeCount a r) s = takeCount a r s k := by
  have hmem : k ∈ channelIds := by
    fin_cases k <;> decide
  obtain ⟨before, rest, hsplit⟩ := List.append_of_mem hmem
  have hnodup : (before ++ k :: rest).Nodup := hsplit ▸ (by decide)
  obtain ⟨-, hrest, hdisjoint⟩ := List.nodup_append.1 hnodup
  rw [hsplit, List.foldl_append, List.foldl_cons,
    foldl_takeCount_of_disabled r before fun j hj => h j (hdisjoint j hj k (List.mem_cons_self ..))]
  refine foldl_takeCount_of_disabled r rest fun j hj => ?_
  have hne : j ≠ k := fun hjk => (List.nodup_cons.1 hrest).1 (hjk ▸ hj)
  rw [channel_takeCount_ne s r hne]
  exact h j hne

/-- Channels with pulses to book join the queue in their order, while a booking is in hand and there is room for all: induction on the
channels (06 R115). -/
theorem foldl_takeCount_of_busy {a : Nat} (r : MeterReading) (l : List (Fin 4)) (hl : l.Nodup) {s : State}
    (hhand : s.bke.inHand.isSome = true) (hroom : s.bke.queue.length + l.length ≤ 16)
    (hnew : ∀ j ∈ l, ∀ q ∈ s.bke.queue, ¬ (q.address = a ∧ q.channel = j))
    (hch : ∀ j ∈ l, ∃ c, s.channel a j = some c ∧ c.enabled = true ∧ c.baseTaken = true ∧ r.counts[j] ≠ c.base) :
    l.foldl (takeCount a r) s = { l.foldl (fun t j => t.modChannel a j (counted r j)) s with
      bke := { s.bke with queue := s.bke.queue ++ l.map (entryOf a r) } } := by
  have hbeside (l : List (Fin 4)) (b : Bke) (u : State) : l.foldl (fun t j => t.modChannel a j (counted r j)) { u with bke := b }
      = { l.foldl (fun t j => t.modChannel a j (counted r j)) u with bke := b } := by
    induction l generalizing u with
    | nil => rfl
    | cons j l ih => exact ih (u.modChannel a j (counted r j))
  induction l generalizing s with
  | nil =>
    rw [List.map_nil, List.append_nil]
    rfl
  | cons k l ih =>
    obtain ⟨hk, hl⟩ := List.nodup_cons.1 hl
    obtain ⟨⟨c, hc, hon, hbase, hcount⟩, hch⟩ := List.forall_mem_cons.1 hch
    obtain ⟨hnew_k, hnew⟩ := List.forall_mem_cons.1 hnew
    have hlength : s.bke.queue.length + (l.length + 1) ≤ 16 := hroom
    rw [List.foldl_cons, takeCount_of_busy r hc hon hbase (queued_eq_false hnew_k) hcount (by omega) hhand,
      ih hl (s := joined a r k s) hhand]
    · rw [joined, hbeside, List.map_cons, List.foldl_cons]
      simp only [List.append_assoc, List.singleton_append]
    · simp only [joined, List.length_append, List.length_singleton]
      omega
    · intro j hj q hq
      rcases List.mem_append.1 hq with hold | hlast
      · exact hnew j hj q hold
      · rw [List.mem_singleton.1 hlast]
        exact fun h => hk ((show k = j from h.2) ▸ hj)
    · intro j hj
      have hne : j ≠ k := fun hjk => hk (hjk ▸ hj)
      obtain ⟨c, hc, hrest⟩ := hch j hj
      exact ⟨c, (channel_modChannel_ne s _ (.inr hne)).trans hc, hrest⟩

/-- An entry merged in its place, where the queue holds no other for the channel (06 R115). -/
theorem mergeEntry_of_split {b : Bke} {a n : Nat} {k : Fin 4} (r : MeterReading) {before behind : List QueueEntry} {q : QueueEntry}
    (hsplit : b.queue = before ++ q :: behind) (ha : q.address = a) (hk : q.channel = k)
    (hothers : ∀ x ∈ before ++ behind, ¬ (x.address = a ∧ x.channel = k)) : mergeEntry a k n r b
      = { b with queue := before ++ { q with target := n, pressure := r.pressure, temp := r.temp } :: behind } := by
  have hkept (l : List QueueEntry) (hl : ∀ x ∈ l, ¬ (x.address = a ∧ x.channel = k)) :
      l.map (fun x => if x.isFor a k then { x with target := n, pressure := r.pressure, temp := r.temp } else x) = l := by
    refine List.map_congr_left (fun x hx => ?_) |>.trans (List.map_id l)
    have hfor : x.isFor a k = false := by simpa [QueueEntry.isFor] using hl x hx
    simp [hfor]
  have hfor : q.isFor a k = true := by simp [QueueEntry.isFor, ha, hk]
  simp only [mergeEntry, hsplit, List.map_append, List.map_cons, hfor, if_true,
    hkept before fun x hx => hothers x (List.mem_append_left _ hx), hkept behind fun x hx => hothers x (List.mem_append_right _ hx)]

/-! ### An idle engine -/

section
variable {s : State} {a : Nat} {k : Fin 4} {c : Channel} (r : MeterReading) (hc : s.channel a k = some c) (hon : c.enabled = true)
  (hbase : c.baseTaken = true) (hcount : r.counts[k] ≠ c.base) (hempty : s.bke.queue = []) (hhand : s.bke.inHand = none)
  {n : Nat} (hn : n = pulsesBetween c.base r.counts[k])

include hc hon hbase hcount hempty hhand hn

omit hn in
theorem takeCount_idle_parts : takeCount a r s k = endCycle (joined a r k s) ∧ (joined a r k s).bke.queue = [entryOf a r k]
    ∧ (joined a r k s).channel a k = some (counted r k c)
    ∧ ({ joined a r k s with bke := { (joined a r k s).bke with queue := [] } } : State) = s.modChannel a k (counted r k) := by
  have hnew : s.bke.queued a k = false := queued_eq_false (by simp [hempty])
  refine ⟨takeCount_of_idle r hc hon hbase hnew hcount hempty hhand, by simp [joined, hempty], channel_modChannel _ hc, ?_⟩
  show ({ s.modChannel a k (counted r k) with bke := { s.bke with queue := [] } } : State) = _
  rw [← hempty]
  rfl

/-- No pulses: the entry's cycle ends at once (06 R118). -/
theorem takeCount_of_no_pulses (h0 : n = 0) : takeCount a r s k = s.modChannel a k (counted r k) := by
  obtain ⟨htake, hqueue, hchannel, hstate⟩ := takeCount_idle_parts r hc hon hbase hcount hempty hhand
  rw [htake, endCycle_of_no_pulses hchannel hn hqueue h0, ← hhand]
  exact hstate

/-- More pulses than the limit: the booking goes to commit as IMPLAUSIBLE (06 R118, R119). -/
theorem takeCount_of_implausible (hs : StoreIdle s) (hlimit : c.limit < n) : takeCount a r s k
    = bookingContinues (s.modChannel a k (counted r k)) (bookingOf (entryOf a r k) c n) (.committing none false) := by
  obtain ⟨htake, hqueue, hchannel, hstate⟩ := takeCount_idle_parts r hc hon hbase hcount hempty hhand
  rw [htake, endCycle_of_implausible (c := counted r k c) hchannel hn hqueue hs hlimit, hstate]
  rfl

/-- Pulses within the limit: the booking is resolved (06 R118, R119). -/
theorem takeCount_of_plausible (hs : StoreIdle s) (hpos : n ≠ 0) (hlimit : n ≤ c.limit) : takeCount a r s k
    = resolvedTo (s.modChannel a k (counted r k)) (bookingOf (entryOf a r k) c n) := by
  obtain ⟨htake, hqueue, hchannel, hstate⟩ := takeCount_idle_parts r hc hon hbase hcount hempty hhand
  rw [htake, endCycle_of_plausible (c := counted r k c) hchannel hn hqueue hs hpos hlimit, hstate]
  rfl

end

/-- Settles O57: a reply of one enabled channel is that channel's count, one of four joins the queue four times. -/
theorem meterRepliesQueueBookings : Obligations.MeterRepliesQueueBookings := by
  unfold Obligations.MeterRepliesQueueBookings
  intro s a r e c k w hr
  rw [exec_meterReply hr]
  have hch (j : Fin 4) (he : s.line.entry a = some e) : (s.taken (.meterReply a r)).channel a j = some e.channels[j] :=
    channel_of_entry (s := s.taken _) he j
  refine ⟨fun he => ?_, fun he hk => ?_, fun he hk hc hothers hw => ?_, fun he hk hhand hroom hnew hall => ?_⟩
  · simp [meterReply, he]
  · simp [meterReply, he, hk]
  · rw [meterReply_of_meter (s := s.taken _) r he hk, foldl_takeCount_of_one r k fun j hj => ⟨_, hch j he, hothers j hj⟩]
    have hck : (s.taken (.meterReply a r)).channel a k = some c := hc ▸ hch k he
    refine ⟨fun hon => ?_, fun hon hbase => ?_, fun hon hbase hnew => ?_, fun before q behind hon hbase hsplit ha hk hothers => ?_⟩
    · rw [takeCount_of_disabled r hck hon]
    · rw [takeCount_of_first r hck hon hbase]
    · have hqueued : (s.taken (.meterReply a r)).bke.queued a k = false := queued_eq_false hnew
      refine ⟨fun hsame => ?_, fun hcount hfull => ?_, fun hcount hroom hhand => ?_, fun n hcount hempty hhand hidle hn => ?_⟩
      · rw [takeCount_of_same r hck hon hbase hqueued hsame]
      · rw [takeCount_of_full r hck hon hbase hqueued hcount hfull]
      · rw [takeCount_of_busy r hck hon hbase hqueued hcount hroom hhand, hw]
        rfl
      · refine ⟨fun h0 => ?_, fun hlimit => ?_, fun hpos hlimit => ?_⟩
        · rw [takeCount_of_no_pulses r hck hon hbase hcount hempty hhand hn h0, hw]
          rfl
        · rw [takeCount_of_implausible r hck hon hbase hcount hempty hhand hn hidle hlimit, hw]
          rfl
        · rw [takeCount_of_plausible r hck hon hbase hcount hempty hhand hn hidle (Nat.ne_of_gt hpos) hlimit, hw]
          rfl
    · have hqueued : (s.taken (.meterReply a r)).bke.queued a k = true :=
        List.any_eq_true.2 ⟨q, by simp [hsplit], by simp [QueueEntry.isFor, ha, hk]⟩
      rw [takeCount_of_queued r hck hon hbase hqueued, ← mergeEntry_of_split r hsplit ha hk hothers]
      rfl
  · rw [meterReply_of_meter (s := s.taken _) r he hk,
      foldl_takeCount_of_busy (s := s.taken (.meterReply a r)) r channelIds (by decide) hhand]
    · rfl
    · show s.bke.queue.length + 4 ≤ 16
      omega
    · exact fun j _ q hq h => hnew q hq h.1
    · exact fun j _ => ⟨_, hch j he, hall j⟩

end Sys2Proof.MeterReplies

/-! PROOFS. SET-CHANNEL (06 R111, R117, R128; O27): the refusals, the channel removed before it is written, with its queue entry and its
booking in hand, and the channel that is written only. -/

namespace Sys2Proof.ChannelSettings

open Sys2Proof.Machine Sys2Proof.Safety Sys2Proof.Channels

/-! ### Removal -/

/-- The state with a channel's queue entry discarded (06 R111). -/
def dequeued (a : Nat) (ch : Fin 4) (s : State) : State :=
  s.modBke fun b => { b with queue := b.queue.filter fun x => !(decide (x.address = a) && decide (x.channel = ch)) }

/-- The state with an empty queue, the booking in hand dropped and its waiting access withdrawn (06 R128). -/
def dropped (s : State) : State :=
  { s with bke := { s.bke with queue := [], inHand := none }
           rst := { s.rst with arbiter := { s.rst.arbiter with bkeWaits := false } } }

theorem removeChannel_eq (a : Nat) (ch : Fin 4) (s : State) : removeChannel a s ch
    = (match s.bke.inHand with
      | some h => if decide (h.address = a) && decide (h.channel = ch) then discardInHand h (dequeued a ch s) else dequeued a ch s
      | none => dequeued a ch s).modChannel a ch Channel.removed := by
  have hfold (u : State) : channelIds.foldl (fun s d => if decide (d = ch) then s.modChannel a d Channel.removed else s) u
      = u.modChannel a ch Channel.removed := by
    fin_cases ch <;> rfl
  rw [removeChannel, removeWhere, hfold]
  rfl

/-- With no booking of the channel in hand but one that is MARKING, its queue entry alone goes (06 R128). -/
theorem removeChannel_of_kept {s : State} {a : Nat} {ch : Fin 4} (hkept : ∀ h, s.bke.inHand = some h → h.address = a → h.channel = ch →
    ∃ slot barred own, h.phase = .marking slot barred own) :
    removeChannel a s ch = (dequeued a ch s).modChannel a ch Channel.removed := by
  rw [removeChannel_eq]
  split
  · rename_i h hh
    split
    · rename_i hown
      obtain ⟨ha, hc⟩ : h.address = a ∧ h.channel = ch := by simpa using hown
      obtain ⟨slot, barred, own, hphase⟩ := hkept h hh ha hc
      rw [discardInHand, hphase]
    · rfl
  · rfl

/-- A booking of the channel whose access waits is dropped, and BKE goes IDLE where nothing else is queued (06 R128). -/
theorem removeChannel_of_dropped {s : State} {a : Nat} {ch : Fin 4} {h : InHand} (hh : s.bke.inHand = some h) (ha : h.address = a)
    (hc : h.channel = ch) (hphase : (∃ w, h.phase = .resolving w) ∨ ∃ f b, h.phase = .committing f b)
    (hserving : ∀ g, s.rst.arbiter.serving = some g → g.requester ≠ .bke)
    (hq : s.bke.queue.filter (fun x => !(decide (x.address = a) && decide (x.channel = ch))) = []) :
    removeChannel a s ch = (dropped s).modChannel a ch Channel.removed := by
  have hserved : (dequeued a ch s).served .bke = none := by
    refine Option.filter_eq_none_iff.2 fun g hg => ?_
    simpa using hserving g hg
  have hdrop : dropInHand (dequeued a ch s) = dropped s := by
    have hempty : dequeued a ch s = s.modBke fun b => { b with queue := [] } := by
      simp only [dequeued, State.modBke, hq]
    rw [dropInHand, endCycle_of_empty (s := withdrawBke (dequeued a ch s)) hq, hempty]
    rfl
  have hdiscard : discardInHand h (dequeued a ch s) = dropped s := by
    rcases hphase with ⟨w, hphase⟩ | ⟨f, b, hphase⟩
    · simp only [discardInHand, hphase, hserved, hdrop]
    · simp only [discardInHand, hphase, hserved, hdrop]
  simp only [removeChannel_eq, hh, ha, hc, decide_true, Bool.and_self, if_true, hdiscard]

/-! ### SET-CHANNEL on a meter entry -/

section
variable {s : State} {e : PollEntry} {a p k l : Nat} {ch : Fin 4} {on : Bool} (he : s.line.entry a = some e) (hk : e.kind = .meter)
  (hp : p ≤ 4095) (hconstant : within 1 10000 k = true) (hlimit : within 1 4095 l = true)

include he hk hp hconstant hlimit

theorem setChannel_of_changed (hchanged : e.channels[ch].enabled ≠ on ∨ e.channels[ch].enabled = true
      ∧ (e.channels[ch].point ≠ p ∨ e.channels[ch].constant ≠ k)) : setChannel a ch on p k l s
    = (.done, (removeChannel a s ch).modChannel a ch fun c => c.configure on p k l) := by
  have hpoint : ¬ Config.maxPoint < p := Nat.not_lt.2 hp
  have htest : (decide (e.channels[ch].enabled ≠ on)
      || (e.channels[ch].enabled && (decide (e.channels[ch].point ≠ p) || decide (e.channels[ch].constant ≠ k)))) = true := by
    simpa using hchanged
  simp only [setChannel, he, hk, hpoint, hconstant, hlimit, ch.isLt, htest, if_true]
  rfl

theorem setChannel_of_unchanged (hon : e.channels[ch].enabled = on)
    (hsame : on = true → e.channels[ch].point = p ∧ e.channels[ch].constant = k) : setChannel a ch on p k l s
    = (.done, s.modChannel a ch fun c => c.configure on p k l) := by
  have hpoint : ¬ Config.maxPoint < p := Nat.not_lt.2 hp
  have htest : (decide (e.channels[ch].enabled ≠ on)
      || (e.channels[ch].enabled && (decide (e.channels[ch].point ≠ p) || decide (e.channels[ch].constant ≠ k)))) = false := by
    cases on <;> simp_all
  simp only [setChannel, he, hk, hpoint, hconstant, hlimit, ch.isLt, htest]
  rfl

end

theorem setChannel_of_range {s : State} {e : PollEntry} {a n p k l : Nat} {on : Bool} (he : s.line.entry a = some e)
    (hk : e.kind = .meter) (hrange : 4 ≤ n ∨ 4095 < p ∨ k = 0 ∨ 10000 < k ∨ l = 0 ∨ 4095 < l) :
    setChannel a n on p k l s = (.range, s) := by
  have hmeter : ¬ e.kind ≠ .meter := not_not.2 hk
  simp only [setChannel, he, if_neg hmeter]
  split
  · split
    · rfl
    · rename_i hn hp
      have hoff : (!(within 1 10000 k && within 1 4095 l)) = true := by
        have hp : p ≤ 4095 := Nat.le_of_not_lt hp
        simp only [within, Bool.not_eq_true', Bool.and_eq_false_iff, decide_eq_false_iff_not]
        omega
      rw [if_pos hoff]
  · rfl

/-! ### SET-CHANNEL as a request -/

section
variable {s : State} {tag : Byte} {a p k l : Nat} {on : Bool} (hr : Ready s) (hmode : s.yard.mode = .setup)

include hr hmode

theorem exec_setChannel {n : Nat} {t : State} {result : Result}
    (hset : setChannel a n on p k l (headState s tag (.setChannel a n on p k l))
      = (result, headState t tag (.setChannel a n on p k l))) (ht : t.rex = s.rex) :
    exec (.setChannel tag a n on p k l) s = .next (withResponse t tag 0x05 result []) := by
  have hadmits : admits (.setChannel a n on p k l) s.yard.mode = true := decide_eq_true hmode
  refine exec_of_answered (q := .setChannel a n on p k l) rfl hr rfl hadmits ?_ ht
  show atOnce (setChannel a n on p k l _) = _
  rw [hset]
  rfl

/-- SET-CHANNEL that writes a channel beside other changes: the channel as written, the other channels, and all else (06 R111). -/
theorem exec_setChannel_of_written {ch : Fin 4} {c : Channel} {y : State} {f : Channel → Channel} (hc : s.channel a ch = some c)
    (hset : setChannel a ch on p k l (headState s tag (.setChannel a ch on p k l))
      = (.done, headState (y.modChannel a ch f) tag (.setChannel a ch on p k l))) (hline : y.line = s.line) (hrex : y.rex = s.rex) :
    ∃ t, exec (.setChannel tag a ch on p k l) s = .next t ∧ t.channel a ch = some (f c)
      ∧ (∀ b d, b ≠ a ∨ d ≠ ch → t.channel b d = s.channel b d) ∧ { t with line := s.line } = withResponse y tag 0x05 .done [] := by
  have hchannel (b : Nat) (d : Fin 4) : y.channel b d = s.channel b d := by
    rw [State.channel, hline]
    rfl
  refine ⟨_, exec_setChannel hr hmode hset hrex, channel_modChannel f ((hchannel a ch).trans hc), fun b d hne => ?_, ?_⟩
  · exact (channel_modChannel_ne y f hne).trans (hchannel b d)
  · rw [← hline]
    rfl

end

/-- Settles O27: a channel that changes is removed and then written, one that does not is written only. -/
theorem setChannelBindsAChannel : Obligations.SetChannelBindsAChannel := by
  unfold Obligations.SetChannelBindsAChannel
  intro s tag a p k l on hr hmode
  refine ⟨fun ch he => ?_, fun e ch he hkind => ?_, fun e ch he hkind hrange => ?_,
    fun e ch c he hkind hp hk1 hk2 hl1 hl2 hc => ?_⟩
  · refine exec_setChannel hr hmode ?_ rfl
    simp only [setChannel, show (headState s tag _).line.entry a = none from he]
  · refine exec_setChannel hr hmode ?_ rfl
    simp only [setChannel, show (headState s tag _).line.entry a = some e from he, if_pos hkind]
  · exact exec_setChannel hr hmode (setChannel_of_range (s := headState s tag (.setChannel a ch on p k l)) he hkind hrange) rfl
  · have hconstant : within 1 10000 k = true := by simp [within, hk1, hk2]
    have hlimit : within 1 4095 l = true := by simp [within, hl1, hl2]
    have hchannel : s.channel a ch = some c := hc ▸ channel_of_entry he ch
    subst hc
    refine ⟨fun q hchanged hq => ?_, fun hon hsame => ?_⟩
    · have hset := setChannel_of_changed (s := headState s tag (.setChannel a ch on p k l)) he hkind hp hconstant hlimit hchanged
      subst hq
      refine ⟨fun hkept => ?_, fun h hh ha hch hphase hserving hq => ?_⟩
      · rw [removeChannel_of_kept (s := headState s tag _) hkept, modChannel_modChannel] at hset
        exact exec_setChannel_of_written (y := dequeued a ch s) (f := fun c => c.removed.configure on p k l) hr hmode hchannel hset rfl rfl
      · rw [removeChannel_of_dropped (s := headState s tag _) hh ha hch hphase hserving hq, modChannel_modChannel] at hset
        exact exec_setChannel_of_written (y := dropped s) (f := fun c => c.removed.configure on p k l) hr hmode hchannel hset rfl rfl
    · have hset := setChannel_of_unchanged (s := headState s tag (.setChannel a ch on p k l)) he hkind hp hconstant hlimit hon hsame
      subst hon
      exact exec_setChannel_of_written (y := s) (f := fun c => c.configure e.channels[ch].enabled p k l) hr hmode hchannel hset rfl rfl

end Sys2Proof.ChannelSettings

/-! PROOFS. The accesses that the requests on accounts and on the balance make (07 R135 to R153; O39 to O44): how a lone head goes on
behind one, what a judged read hands to its request, and the stores that a record written to a slot leaves. -/

namespace Sys2Proof.AccountAccesses

open Sys2Proof.Machine Sys2Proof.Safety Sys2Proof.DirectoryRequests

/-! ### How the head goes on behind an access -/

/-- Each kind of account work awaits an access that its own command ends (07 R135, R139, R140, R147, R148, R153). -/
theorem ends_of_accountCommand {w : HeadWork} {c : Instr} (h : accountCommand w = some c) : Ends c w := by
  cases w <;> cases h <;> exact ⟨_, fun _ hz => storeCommand_nil _ hz, rfl⟩

/-- What an access leaves alone for the head to go on behind it: REX and the arbiter (11 R194, 08 R163). -/
structure HeadKept (s t : State) : Prop where
  rex : t.rex = s.rex
  arbiter : t.rst.arbiter = s.rst.arbiter

theorem HeadKept.refl (s : State) : HeadKept s s := ⟨rfl, rfl⟩

theorem headKept_slotDamaged (s : State) (n : Nat) : HeadKept s (slotDamaged s n) := ⟨rfl, rfl⟩

section

variable {s t : State} {g : Grant} {tag : Byte} {q : Request} {w : HeadWork} {c : Instr} (h : HeadAwaits s g tag q w)
  (hc : accountCommand w = some c)

include h hc

/-- An access that answers its request (11 R194). -/
theorem exec_answered {r : Result} {fields : List Field} (hw : workAccess g q w s = (.answered r fields, t))
    (ht : HeadKept s t) : exec c s = .next (headAnswered t tag q r fields) := by
  obtain ⟨kind, hexec, hkind⟩ := ends_of_accountCommand hc
  rw [hexec s h.1.1, headAccessEnds_answered h hkind hw ht.rex ht.arbiter]

/-- An access behind which its request awaits another (11 R194). -/
theorem exec_awaits {w' : HeadWork} (hw : workAccess g q w s = await w' t) (ht : HeadKept s t) :
    exec c s = .next (headContinues t w') := by
  obtain ⟨kind, hexec, hkind⟩ := ends_of_accountCommand hc
  rw [hexec s h.1.1, headAccessEnds_awaits h hkind hw ht.arbiter]

end

/-! ### Accesses at an idle store -/

theorem beside_refl (s : State) : Beside s s := ⟨rfl, rfl, rfl, rfl, rfl⟩

/-- What an access leaves alone that touches slots of the store and no more (07 R135). -/
theorem beside_modRst {f : Rst → Rst} (s : State) (hf : (f s.rst).arbiter = s.rst.arbiter) : Beside s (s.modRst f) :=
  ⟨rfl, rfl, rfl, rfl, hf⟩

/-- A started head whose access answers it, with changes beside REX and the arbiter (11 R194, 08 R163). -/
theorem exec_access_changed {s y : State} {tag : Byte} {q : Request} {w : HeadWork} {c : Instr} {r : Result} {fields : List Field}
    (hr : Ready s) (hi : StoreIdle s) (hc : accountCommand w = some c)
    (hw : workAccess (rexGrant s) q w (startedHead s tag q w) = (.answered r fields, startedHead y tag q w)) (hy : Beside s y) :
    exec c (startedHead s tag q w) = .next (withResponse (accessesDone y y.rst) tag q.code r fields) := by
  rw [exec_answered (headAwaits_startedHead tag q w hr hi) hc hw ⟨hy.started_rex tag q w, hy.started_arbiter tag q w⟩,
    Looks.headAnswered_startedHead (hy.ready hr) (hy.idle hi)]

section

variable {i : Instr} {s y : State} {tag : Byte} {q : Request} {r : Result} (hr : Ready s) (hi : StoreIdle s)
  (hstart : exec i s = .next (startedHead s tag q .account))

include hr hi hstart

/-- A request of one access: its start, and the access that answers it (07 R135). -/
theorem after_access (hw : accountAccess (rexGrant s) q (startedHead s tag q .account) = refuse r (startedHead y tag q .account))
    (hy : Beside s y) :
    after [i, .accountRequestAccess []] s = .next (withResponse (accessesDone y y.rst) tag q.code r []) :=
  after_cons hstart (after_cons (exec_access_changed hr hi rfl hw hy) rfl)

theorem after_access_refused
    (hw : accountAccess (rexGrant s) q (startedHead s tag q .account) = refuse r (startedHead s tag q .account)) :
    after [i, .accountRequestAccess []] s = .next (withResponse (accessesDone s s.rst) tag q.code r []) :=
  after_access hr hi hstart hw (beside_refl s)

theorem after_access_written {slot : Nat} {a : Account}
    (hw : accountAccess (rexGrant s) q (startedHead s tag q .account) = writeSlot slot a (startedHead s tag q .account)) :
    after [i, .accountRequestAccess []] s
      = .next (withResponse (accessesDone s (s.rst.putAccount slot a)) tag q.code .done []) :=
  after_access (y := s.modRst fun r => r.putAccount slot a) hr hi hstart hw (beside_modRst s rfl)

end

/-- A shared request whose start changes the part and awaits an access at an idle arbiter (11 R194, R195, 08 R163). -/
theorem exec_start_changed {i : Instr} {s y : State} {tag : Byte} {w : HeadWork} (q : Request) (hq : i.request = some (tag, q))
    (hr : Ready s) (him : immediate tag q s = none) (hg : groupOf q.code = .shared) (hi : StoreIdle y)
    (hs : startRequest q (headState s tag q) = await w (headState y tag q)) : exec i s = .next (startedHead y tag q w) := by
  obtain ⟨⟨hrun, hroom⟩, hstack, -⟩ := hr
  obtain ⟨hserving, hbke, -, -⟩ := hi
  rw [exec_of_request hq, whenRunning_of_running _ hrun, requestArrives_of_awaits hroom hstack him (by rw [admits, hg]) hs,
    request_rex_of_idle (by simpa [headState] using hserving) (by simpa [headState] using hbke)]
  simp [headState, State.modRex, State.modRst, startedHead, ← hbke]

/-! ### What a read hands to its request -/

section

variable {z x : State} {n : Nat}

theorem readsAs_of_clean (h : Clean z n) : ReadsAs z n z := ⟨h.1, .inl ⟨h.2, rfl⟩⟩

/-- A read that finds contents changes only flaws and the marks of corrected reads (08 R155, R160). -/
theorem readsAs_eq (h : ReadsAs z n x) : x = { z with rst := { z.rst with
    flaws := x.rst.flaws, corrected := x.rst.corrected, lastCorrected := x.rst.lastCorrected
    correctedLatch := x.rst.correctedLatch } } := by
  obtain ⟨-, ⟨-, rfl⟩ | ⟨-, rfl⟩⟩ := h <;> rfl

theorem headKept_of_readsAs (h : ReadsAs z n x) : HeadKept z x := by
  rw [readsAs_eq h]
  exact ⟨rfl, rfl⟩

theorem readsAs_account (h : ReadsAs z n x) (k : Nat) : x.rst.account k = z.rst.account k := by
  rw [readsAs_eq h]
  rfl

/-- A started head changes no slot's status (11 R194). -/
theorem damaged_started {tag : Byte} {q : Request} {w : HeadWork} (h : z.rst.isDamaged n = true) :
    (startedHead z tag q w).rst.isDamaged n = true := h

/-- An account that a read has found uncorrectable is counted, latched and DAMAGED, and nothing else changes (08 R156). -/
theorem slotDamaged_of_account (z : State) (h1 : 1 ≤ n) (h255 : n ≤ 255) :
    slotDamaged z n = z.modRst fun r => (r.noteDamaged n).setDamaged n true :=
  (Silences.takeDamage_other (period := 0) h1).symm.trans (Commits.takeDamage_account z h1 h255)

variable (g : Grant) (d : Result) (f : Account → State → Progress × State)

/-- Contents go to the request (07 R135). -/
theorem onContents_of_readsAs (h : ReadsAs z n x) : onContents g n d f z = f (z.rst.account n) x := by
  simp only [onContents, Walks.judge_of_readsAs false g.period h, readsAs_account h]

theorem onContents_of_clean (h : Clean z n) : onContents g n d f z = f (z.rst.account n) z :=
  onContents_of_readsAs g d f (readsAs_of_clean h)

/-- A slot marked DAMAGED refuses the request with its result (07 R135). -/
theorem onContents_of_damaged (h : z.rst.isDamaged n = true) : onContents g n d f z = refuse d z := by
  simp only [onContents, judge_of_damaged h]

/-- A read that cannot be corrected is STORE-FAULT, and the slot DAMAGED (07 R135, 08 R156). -/
theorem onContents_of_uncorrectable (h : Uncorrectable z n) (hn : 1 ≤ n) :
    onContents g n d f z = refuse .storeFault (slotDamaged z n) := by
  simp only [onContents, judge_of_uncorrectable h.1 h.2, Silences.takeDamage_other hn]

end

end Sys2Proof.AccountAccesses

/-! PROOFS. OPEN-, CLOSE-, REOPEN-, RESTORE-ACCOUNT and ADJUST (07 R134 to R138, R141, R142; O39, O40): the start on a slot, and the one
access that reads it and writes the record. -/

namespace Sys2Proof.AccountRequests

open Sys2Proof.Machine Sys2Proof.Safety Sys2Proof.DirectoryRequests Sys2Proof.AccountAccesses

/-! ### The starts -/

section

variable {slot : Nat} {ok : Bool} (w : HeadWork) (z : State)

theorem startOnSlot_of_range (h : 255 < slot ∨ ok = false) : startOnSlot slot ok w z = refuse .range z :=
  if_pos (h.imp_right fun h => by simp [h])

/-- Slot 0 is refused, once the fields are in range (07 R134; log entry 15). -/
theorem startOnSlot_zero (h : ok = true) : startOnSlot 0 ok w z = refuse .wrongState z := by
  simp [startOnSlot, h]

theorem startOnSlot_of_slot (h : ok = true) (h1 : 1 ≤ slot) (h255 : slot ≤ 255) : startOnSlot slot ok w z = await w z := by
  simp [startOnSlot, h, show ¬ 255 < slot by omega, show slot ≠ 0 by omega]

theorem startReopen_of_slot (h1 : 1 ≤ slot) (h255 : slot ≤ 255) : startReopen slot z = await .account z := by
  rw [startReopen, if_neg (by omega), if_neg (by omega)]

end

/-- OPEN-ACCOUNT's fields are in range (07 R136). -/
theorem openFields_eq (kind : AccountKind) (cv : Option Nat) :
    (decide (kind ≠ .suspense) && cvOk cv) = true ↔ kind ≠ .suspense ∧ optWithin 250 1100 cv = true := by
  rw [Bool.and_eq_true, decide_eq_true_eq, cvOk]

/-! ### The accesses of OPEN, CLOSE and REOPEN -/

section

variable {z : State} {slot : Nat} (g : Grant) (hc : Clean z slot)

include hc

theorem openAccess_of_free (kind : AccountKind) (cv : Option Nat) (hs : (z.rst.account slot).state = .free) :
    openAccess g slot kind cv z = writeSlot slot (openedAccount kind cv g.period) z := by
  simp only [openAccess, onContents_of_clean g .full _ hc, hs, if_true]

theorem openAccess_of_taken (kind : AccountKind) (cv : Option Nat) (hs : (z.rst.account slot).state ≠ .free) :
    openAccess g slot kind cv z = refuse .full z := by
  simp only [openAccess, onContents_of_clean g .full _ hc, hs, if_false]

theorem closeAccess_of_free (hs : (z.rst.account slot).state = .free) : closeAccess g slot z = refuse .noRecord z := by
  simp only [closeAccess, onContents_of_clean g .wrongState _ hc, hs]

theorem closeAccess_of_opened (hs : (z.rst.account slot).state = .opened) :
    closeAccess g slot z = writeSlot slot { z.rst.account slot with state := .closed } z := by
  simp only [closeAccess, onContents_of_clean g .wrongState _ hc, hs]

theorem closeAccess_of_closed (hs : (z.rst.account slot).state = .closed) : closeAccess g slot z = refuse .done z := by
  simp only [closeAccess, onContents_of_clean g .wrongState _ hc, hs]

theorem reopenAccess_of_free (hs : (z.rst.account slot).state = .free) : reopenAccess g slot z = refuse .noRecord z := by
  simp only [reopenAccess, onContents_of_clean g .wrongState _ hc, hs]

theorem reopenAccess_of_opened (hs : (z.rst.account slot).state = .opened) : reopenAccess g slot z = refuse .done z := by
  simp only [reopenAccess, onContents_of_clean g .wrongState _ hc, hs]

theorem reopenAccess_of_closed (hs : (z.rst.account slot).state = .closed) :
    reopenAccess g slot z = writeSlot slot { z.rst.account slot with state := .opened } z := by
  simp only [reopenAccess, onContents_of_clean g .wrongState _ hc, hs]

end

section

variable {z : State} {slot : Nat} (g : Grant)

theorem closeAccess_of_damaged (hd : z.rst.isDamaged slot = true) : closeAccess g slot z = refuse .wrongState z :=
  onContents_of_damaged g .wrongState _ hd

theorem reopenAccess_of_damaged (hd : z.rst.isDamaged slot = true) : reopenAccess g slot z = refuse .wrongState z :=
  onContents_of_damaged g .wrongState _ hd

theorem closeAccess_of_uncorrectable (hu : Uncorrectable z slot) (h1 : 1 ≤ slot) (h255 : slot ≤ 255) : closeAccess g slot z
    = refuse .storeFault (z.modRst fun r => (r.noteDamaged slot).setDamaged slot true) := by
  rw [closeAccess, onContents_of_uncorrectable g .wrongState _ hu h1, slotDamaged_of_account z h1 h255]

end

section

variable {s : State} (hr : Ready s) (tag : Byte) (slot : Nat)

include hr

theorem exec_closeAccount_of_slot (hi : StoreIdle s) (h1 : 1 ≤ slot) (h255 : slot ≤ 255) :
    exec (.closeAccount tag slot) s = .next (startedHead s tag (.closeAccount slot) .account) :=
  exec_start_awaits (.closeAccount slot) rfl hr rfl rfl hi (startOnSlot_of_slot .account _ rfl h1 h255)

theorem exec_reopenAccount_of_slot (hi : StoreIdle s) (h1 : 1 ≤ slot) (h255 : slot ≤ 255) :
    exec (.reopenAccount tag slot) s = .next (startedHead s tag (.reopenAccount slot) .account) :=
  exec_start_awaits (.reopenAccount slot) rfl hr rfl rfl hi (startReopen_of_slot _ h1 h255)

end

/-- Settles O39: the refusals at the start, and the access by the state of its slot. -/
theorem openCloseAndReopenWriteTheSlot : Obligations.OpenCloseAndReopenWriteTheSlot := by
  unfold Obligations.OpenCloseAndReopenWriteTheSlot
  intro s tag slot kind cv hr hi
  refine ⟨fun h => ?_, fun h => ⟨?_, ?_⟩, fun hk hcv => ?_, ?_, ?_, fun h1 h255 hc hk hcv => ?_, fun h1 h255 hc => ?_,
    fun h1 h255 hd => ?_, fun h1 h255 hd hf => ?_⟩
  · refine exec_start_refused (.openAccount slot kind cv) rfl hr rfl rfl (startOnSlot_of_range _ _ (h.imp_right fun h => ?_))
    rw [← Bool.not_eq_true, openFields_eq]
    rintro ⟨hk, hcv⟩
    exact h.elim hk fun h => by simp [h] at hcv
  · exact exec_start_refused (.closeAccount slot) rfl hr rfl rfl (startOnSlot_of_range _ _ (.inl h))
  · exact exec_start_refused (.reopenAccount slot) rfl hr rfl rfl (if_pos h)
  · exact exec_start_refused (.openAccount 0 kind cv) rfl hr rfl rfl (startOnSlot_zero _ _ ((openFields_eq kind cv).2 ⟨hk, hcv⟩))
  · exact exec_start_refused (.closeAccount 0) rfl hr rfl rfl (startOnSlot_zero _ _ rfl)
  · exact exec_start_refused (.reopenAccount 0) rfl hr rfl rfl rfl
  · have hstart : exec (.openAccount tag slot kind cv) s = .next (startedHead s tag (.openAccount slot kind cv) .account) :=
      exec_start_awaits (.openAccount slot kind cv) rfl hr rfl rfl hi
        (startOnSlot_of_slot .account _ ((openFields_eq kind cv).2 ⟨hk, hcv⟩) h1 h255)
    refine ⟨hstart, fun hs => ?_, fun hs => ?_⟩
    · exact after_access_written hr hi hstart (openAccess_of_free _ (clean_started hc) kind cv hs)
    · exact after_access_refused hr hi hstart (openAccess_of_taken _ (clean_started hc) kind cv hs)
  all_goals
    have hclose := exec_closeAccount_of_slot hr tag slot hi h1 h255
    have hreopen := exec_reopenAccount_of_slot hr tag slot hi h1 h255
  · refine ⟨hclose, fun hs => ⟨?_, ?_⟩, fun hs => ⟨?_, ?_⟩, fun hs => ⟨?_, ?_⟩⟩
    · exact after_access_refused hr hi hclose (closeAccess_of_free _ (clean_started hc) hs)
    · exact after_access_refused hr hi hreopen (reopenAccess_of_free _ (clean_started hc) hs)
    · exact after_access_written hr hi hclose (closeAccess_of_opened _ (clean_started hc) hs)
    · exact after_access_refused hr hi hreopen (reopenAccess_of_opened _ (clean_started hc) hs)
    · exact after_access_refused hr hi hclose (closeAccess_of_closed _ (clean_started hc) hs)
    · exact after_access_written hr hi hreopen (reopenAccess_of_closed _ (clean_started hc) hs)
  · exact ⟨after_access_refused hr hi hclose (closeAccess_of_damaged _ (damaged_started hd)),
      after_access_refused hr hi hreopen (reopenAccess_of_damaged _ (damaged_started hd))⟩
  · exact after_access (y := s.modRst fun r => (r.noteDamaged slot).setDamaged slot true) hr hi hclose
      (closeAccess_of_uncorrectable (z := startedHead s tag (.closeAccount slot) .account) _ ⟨hd, hf⟩ h1 h255) (beside_modRst s rfl)

end Sys2Proof.AccountRequests

/-! PROOFS. RESTORE-ACCOUNT and ADJUST (07 R134, R135, R141, R142; O40): the store that a restored record leaves, and the two reads of an
adjustment. -/

namespace Sys2Proof.RestoresAndAdjustments

open Sys2Proof.Machine Sys2Proof.Safety Sys2Proof.DirectoryRequests Sys2Proof.AccountAccesses Sys2Proof.AccountRequests

/-! ### The store behind a restored record -/

section

variable {r : Rst}

/-- A record written whole leaves its slot without a flaw (08 R154). -/
theorem flawsOf_putAccount (h : canonical 0 r.flaws = true) (n k : Nat) (a : Account) :
    (r.putAccount n a).flawsOf k = if k = n then 0 else r.flawsOf k := by
  by_cases hk : k = n
  · subst hk
    simp [Rst.flawsOf, Rst.putAccount, Rst.setFlaws, readAt_writeAt_self _ _ h]
  · simp [Rst.flawsOf, Rst.putAccount, Rst.setFlaws, readAt_writeAt_ne _ hk, hk]

theorem isDamaged_setDamaged (h : canonical false r.damaged = true) (n k : Nat) (v : Bool) :
    (r.setDamaged n v).isDamaged k = if k = n then v else r.isDamaged k := by
  by_cases hk : k = n
  · subst hk
    simp [Rst.isDamaged, Rst.setDamaged, readAt_writeAt_self _ _ h]
  · simp [Rst.isDamaged, Rst.setDamaged, readAt_writeAt_ne _ hk, hk]

end

/-- A record has been written to slot `n` and stands there clean; the other slots, the tables and the arbiter are as they were (07 R141,
08 R159). -/
structure Restored (r : Rst) (n : Nat) (a : Account) (x : Rst) : Prop where
  account : x.account n = a
  clean : x.isDamaged n = false ∧ x.flawsOf n = 0
  others : ∀ k, k ≠ n → x.account k = r.account k ∧ x.isDamaged k = r.isDamaged k ∧ x.flawsOf k = r.flawsOf k
  mains : x.mains = r.mains
  points : x.points = r.points
  arbiter : x.arbiter = r.arbiter

section

variable {r : Rst} (hs : storesSound r = true) (n : Nat) (a : Account)

include hs

theorem restored_of_sound (hd : r.isDamaged n = false) : Restored r n a (r.putAccount n a) where
  account := by rw [Rst.account_putAccount (Commits.canonical_of_storesSound hs).1, if_pos rfl]
  clean := ⟨hd, by rw [flawsOf_putAccount (Tables.canon_of_storesSound hs).flaws, if_pos rfl]⟩
  others k hk := ⟨by rw [Rst.account_putAccount (Commits.canonical_of_storesSound hs).1, if_neg hk], rfl,
    by rw [flawsOf_putAccount (Tables.canon_of_storesSound hs).flaws, if_neg hk]⟩
  mains := rfl
  points := rfl
  arbiter := rfl

/-- Over a DAMAGED slot the status is cleared first (07 R141, 08 R159). -/
theorem restored_of_damaged : Restored r n a ((r.setDamaged n false).putAccount n a) where
  account := (Rst.account_putAccount (Commits.canonical_of_storesSound hs).1 n n a).trans (if_pos rfl)
  clean := ⟨(isDamaged_setDamaged (Commits.canonical_of_storesSound hs).2 n n false).trans (if_pos rfl),
    (flawsOf_putAccount (Tables.canon_of_storesSound hs).flaws n n a).trans (if_pos rfl)⟩
  others k hk := ⟨(Rst.account_putAccount (Commits.canonical_of_storesSound hs).1 n k a).trans (if_neg hk),
    (isDamaged_setDamaged (Commits.canonical_of_storesSound hs).2 n k false).trans (if_neg hk),
    (flawsOf_putAccount (Tables.canon_of_storesSound hs).flaws n k a).trans (if_neg hk)⟩
  mains := rfl
  points := rfl
  arbiter := rfl

end

/-! ### RESTORE-ACCOUNT's access -/

section

variable {z : State} {slot : Nat} (g : Grant) (c : AccountContents)

theorem restoreAccess_of_opened (hc : Clean z slot) (hs : (z.rst.account slot).state = .opened) :
    restoreAccess g slot c z = refuse .wrongState z := by
  simp only [restoreAccess, judge_of_clean hc.1 hc.2, hs, if_true]

theorem restoreAccess_of_clean (hc : Clean z slot) (hs : (z.rst.account slot).state ≠ .opened) :
    restoreAccess g slot c z = writeSlot slot (restoredAccount c) z := by
  simp only [restoreAccess, judge_of_clean hc.1 hc.2, hs, if_false]

theorem restoreAccess_of_damaged (hd : z.rst.isDamaged slot = true) : restoreAccess g slot c z
    = refuse .done (z.modRst fun r => (r.setDamaged slot false).putAccount slot (restoredAccount c)) := by
  simp only [restoreAccess, judge_of_damaged hd]
  rfl

end

section

variable {s : State} {tag : Byte} {slot : Nat} {c : AccountContents} (hr : Ready s) (hi : StoreIdle s)
  (hstart : exec (.restoreAccount tag slot c) s = .next (startedHead s tag (.restoreAccount slot c) .account))

include hr hi hstart

/-- A restore's access that leaves the store with its record ends it DONE with no more changed (07 R141). -/
theorem exists_restored {x : Rst} (hx : Restored s.rst slot (restoredAccount c) x)
    (hw : restoreAccess (rexGrant s) slot c (startedHead s tag (.restoreAccount slot c) .account)
      = refuse .done (startedHead { s with rst := x } tag (.restoreAccount slot c) .account)) :
    ∃ t, after [.restoreAccount tag slot c, .accountRequestAccess []] s = .next t
      ∧ t = withResponse (accessesDone s t.rst) tag 0x44 .done []
      ∧ t.rst.account slot = restoredAccount c ∧ Clean t slot
      ∧ (∀ n, n ≠ slot → t.rst.account n = s.rst.account n ∧ t.rst.isDamaged n = s.rst.isDamaged n
          ∧ t.rst.flawsOf n = s.rst.flawsOf n)
      ∧ t.rst.mains = s.rst.mains ∧ t.rst.points = s.rst.points := by
  refine ⟨_, after_access hr hi hstart hw ⟨rfl, rfl, rfl, rfl, hx.arbiter⟩, ?_, hx.account, hx.clean, hx.others, hx.mains,
    hx.points⟩
  simp only [accessesDone, withResponse, hx.arbiter]
  rfl

end

/-! ### ADJUST's access -/

/-- A volume and a heat that the one account has and the other has room for are moved (07 R142). -/
theorem adjusted_of_fits {x y : Account} {v w : Nat} (hv : v ≤ x.volume) (hw : w ≤ x.heat) (hyv : y.volume + v ≤ 1099511627775)
    (hyw : y.heat + w ≤ 4294967295) : adjusted x y v w = some ({ x with volume := x.volume - v, heat := x.heat - w },
      { y with volume := y.volume + v, heat := y.heat + w }) :=
  if_neg (by simp only [Config.maxVolume, Config.maxWord]; omega)

section

variable {z : State} {a b : Nat} (g : Grant) (v w : Nat)

/-- A DAMAGED slot on either side, with none that is FREE on the other (07 R135, R142). -/
theorem adjustAccess_of_damaged (hd : (z.rst.isDamaged a = true ∧ Clean z b ∧ (z.rst.account b).state ≠ .free)
      ∨ (z.rst.isDamaged b = true ∧ Clean z a ∧ (z.rst.account a).state ≠ .free)
      ∨ (z.rst.isDamaged a = true ∧ z.rst.isDamaged b = true)) : adjustAccess g a b v w z = refuse .wrongState z := by
  rcases hd with ⟨ha, hb, hs⟩ | ⟨hb, ha, hs⟩ | ⟨ha, hb⟩
  · simp [adjustAccess, judge_of_damaged ha, judge_of_clean hb.1 hb.2, hs]
  · simp [adjustAccess, judge_of_clean ha.1 ha.2, judge_of_damaged hb, hs]
  · simp [adjustAccess, judge_of_damaged ha, judge_of_damaged hb]

variable (ha : Clean z a) (hb : Clean z b)

include ha hb

theorem adjustAccess_of_free (hs : (z.rst.account a).state = .free ∨ (z.rst.account b).state = .free) :
    adjustAccess g a b v w z = refuse .noRecord z := by
  simp [adjustAccess, judge_of_clean ha.1 ha.2, judge_of_clean hb.1 hb.2, hs]

variable (hsa : (z.rst.account a).state ≠ .free) (hsb : (z.rst.account b).state ≠ .free)

include hsa hsb

/-- A figure that would leave its range refuses the adjustment of two rolled accounts (07 R142). -/
theorem adjustAccess_of_range (h : adjusted ((z.rst.account a).rolled g.period) ((z.rst.account b).rolled g.period) v w = none) :
    adjustAccess g a b v w z = refuse .range z := by
  simp [adjustAccess, judge_of_clean ha.1 ha.2, judge_of_clean hb.1 hb.2, hsa, hsb, h]

/-- Both accounts are written, the from-slot first (07 R142; log entry 21). -/
theorem adjustAccess_of_adjusted {x y : Account}
    (h : adjusted ((z.rst.account a).rolled g.period) ((z.rst.account b).rolled g.period) v w = some (x, y)) :
    adjustAccess g a b v w z = refuse .done (z.modRst fun r => (r.putAccount a x).putAccount b y) := by
  simp [adjustAccess, judge_of_clean ha.1 ha.2, judge_of_clean hb.1 hb.2, hsa, hsb, h]
  rfl

end

theorem startAdjust_of_range {a b v w : Nat} (z : State)
    (h : 255 < a ∨ 255 < b ∨ 1099511627775 < v ∨ 4294967295 < w ∨ a = b) : startAdjust a b v w z = refuse .range z :=
  if_pos h

theorem startAdjust_of_slots {a b v w : Nat} (z : State) (ha : a ≤ 255) (hb : b ≤ 255) (hab : a ≠ b) (hv : v ≤ 1099511627775)
    (hw : w ≤ 4294967295) : startAdjust a b v w z = await .account z :=
  if_neg (by simp only [Config.maxVolume, Config.maxWord]; omega)

/-- Settles O40: the restore by the state of its slot, the adjustment by the states of both and by the figures it moves. -/
theorem restoreAndAdjustWriteAccounts : Obligations.RestoreAndAdjustWriteAccounts := by
  unfold Obligations.RestoreAndAdjustWriteAccounts
  intro s tag hr hi
  have adjusts {a b v w : Nat} (ha : a ≤ 255) (hb : b ≤ 255) (hab : a ≠ b) (hv : v ≤ 1099511627775) (hw : w ≤ 4294967295) :
      exec (.adjust tag a b v w) s = .next (startedHead s tag (.adjust a b v w) .account) :=
    exec_start_awaits (.adjust a b v w) rfl hr rfl rfl hi (startAdjust_of_slots _ ha hb hab hv hw)
  refine ⟨fun slot c h => ?_, fun c hc => ?_, fun slot c hc h1 h255 => ?_, fun a b v w h => ?_,
    fun a b v w ha hb hab hv hw hd => ?_, fun a b v w ha hb hab hv hw hca hcb => ?_⟩
  · exact exec_start_refused (.restoreAccount slot c) rfl hr rfl rfl (startOnSlot_of_range _ _ h)
  · exact exec_start_refused (.restoreAccount 0 c) rfl hr rfl rfl (startOnSlot_zero _ _ hc)
  · have hstart : exec (.restoreAccount tag slot c) s = .next (startedHead s tag (.restoreAccount slot c) .account) :=
      exec_start_awaits (.restoreAccount slot c) rfl hr rfl rfl hi (startOnSlot_of_slot _ _ hc h1 h255)
    refine ⟨hstart, fun hclean hs => ?_, fun hsound h => ?_⟩
    · exact after_access_refused hr hi hstart (restoreAccess_of_opened _ c (clean_started hclean) hs)
    · rcases h with ⟨hclean, hs⟩ | hd
      · exact exists_restored hr hi hstart (restored_of_sound hsound slot _ hclean.1)
          (restoreAccess_of_clean _ c (clean_started hclean) hs)
      · exact exists_restored hr hi hstart (restored_of_damaged hsound slot _)
          (restoreAccess_of_damaged _ c (damaged_started hd))
  · exact exec_start_refused (.adjust a b v w) rfl hr rfl rfl (startAdjust_of_range _ h)
  · exact after_access_refused hr hi (adjusts ha hb hab hv hw) (adjustAccess_of_damaged (z := startedHead s tag _ _) _ v w hd)
  · have hstart := adjusts ha hb hab hv hw
    refine ⟨hstart, fun hs => ?_, fun hsa hsb x y hx hy => ⟨fun h => ?_, fun hv hw hyv hyw => ?_⟩⟩
    · exact after_access_refused hr hi hstart (adjustAccess_of_free _ v w (clean_started hca) (clean_started hcb) hs)
    · subst hx hy
      exact after_access_refused hr hi hstart
        (adjustAccess_of_range _ v w (clean_started hca) (clean_started hcb) hsa hsb (if_pos h))
    · subst hx hy
      exact after_access (y := s.modRst fun r => (r.putAccount a _).putAccount b _) hr hi hstart
        (adjustAccess_of_adjusted _ v w (clean_started hca) (clean_started hcb) hsa hsb (adjusted_of_fits hv hw hyv hyw))
        (beside_modRst s rfl)

end Sys2Proof.RestoresAndAdjustments

/-! PROOFS. RETIRE-ACCOUNT (07 R135, R139, R140; O41): its check, the scan of the point tables, and the access that frees the slot. -/

namespace Sys2Proof.Retirement

open Sys2Proof.Machine Sys2Proof.Safety Sys2Proof.DirectoryRequests Sys2Proof.AccountAccesses Sys2Proof.AccountRequests

/-! ### What the accesses find -/

theorem isEmpty_iff (a : Account) : a.isEmpty = true ↔ NoTotals a := by
  simp only [Account.isEmpty, Bool.and_eq_true, decide_eq_true_eq, and_assoc]

theorem namesSlot_iff (slot : Nat) (t : Sparse Leaf) : namesSlot slot t = true ↔ ∃ p ∈ t, p.2.kind = .account slot := by
  simp only [namesSlot, List.any_eq_true, decide_eq_true_eq]

/-- What RETIRE-ACCOUNT awaits with the given tables left to scan (07 R140). -/
def scanOrFinal (tables : List Nat) : HeadWork := if tables = [] then .retireFinal else .retireScan tables

theorem retireNext_eq (tables : List Nat) (z : State) : retireNext tables z = await (scanOrFinal tables) z := by
  cases tables <;> rfl

section

variable {z x : State} {slot : Nat} (g : Grant) (hx : ReadsAs z slot x)

include hx

/-! ### The check -/

theorem retireCheck_of_free (hs : (z.rst.account slot).state = .free) : retireCheck g slot z = refuse .noRecord x := by
  simp only [retireCheck, onContents_of_readsAs g .wrongState _ hx, hs]

theorem retireCheck_of_opened (hs : (z.rst.account slot).state = .opened) : retireCheck g slot z = refuse .wrongState x := by
  simp only [retireCheck, onContents_of_readsAs g .wrongState _ hx, hs]

/-- Totals refuse a CLOSED account, before a route that names it (07 R139; log entry 15). -/
theorem retireCheck_of_totals (hs : (z.rst.account slot).state = .closed) (ht : ¬ NoTotals (z.rst.account slot)) :
    retireCheck g slot z = refuse .wrongState x := by
  rw [← isEmpty_iff, Bool.not_eq_true] at ht
  simp [retireCheck, onContents_of_readsAs g .wrongState _ hx, hs, ht]

theorem retireCheck_of_route (hs : (z.rst.account slot).state = .closed) (ht : NoTotals (z.rst.account slot))
    (hroute : z.bke.routes[0].slot = some slot ∨ z.bke.routes[1].slot = some slot) :
    retireCheck g slot z = refuse .inUse x := by
  rw [← isEmpty_iff] at ht
  have hbke : x.bke = z.bke := by rw [readsAs_eq hx]
  simp [retireCheck, onContents_of_readsAs g .wrongState _ hx, hs, ht, hbke, hroute]

/-- The check goes on to the tables that are allocated, or to the final access (07 R140). -/
theorem retireCheck_of_unrouted (hs : (z.rst.account slot).state = .closed) (ht : NoTotals (z.rst.account slot))
    (h0 : z.bke.routes[0].slot ≠ some slot) (h1 : z.bke.routes[1].slot ≠ some slot) :
    retireCheck g slot z = await (scanOrFinal z.rst.allocatedPoints) x := by
  rw [← isEmpty_iff] at ht
  have hbke : x.bke = z.bke := by rw [readsAs_eq hx]
  have htables : x.rst.allocatedPoints = z.rst.allocatedPoints := by rw [readsAs_eq hx]; rfl
  simp [retireCheck, onContents_of_readsAs g .wrongState _ hx, hs, ht, hbke, h0, h1, retireNext_eq, htables]

/-! ### The final access -/

/-- The final access frees the slot and flushes the cache entries that name it (07 R140). -/
theorem retireFinal_of_empty (hs : (z.rst.account slot).state = .closed) (ht : NoTotals (z.rst.account slot)) :
    retireFinal g slot z = (.answered .done [], { x with
      rst := x.rst.putAccount slot Account.free
      bke := { z.bke with cache := z.bke.cache.filter fun e => decide (e.slot ≠ slot) } }) := by
  rw [← isEmpty_iff] at ht
  have hbke : x.bke = z.bke := by rw [readsAs_eq hx]
  simp only [retireFinal, onContents_of_readsAs g .wrongState _ hx, hs, ht, and_self, if_true, writeSlot, refuse, flushWhere,
    State.modBke, State.modRst, hbke, decide_not]

theorem retireFinal_of_changed (h : (z.rst.account slot).state ≠ .closed ∨ ¬ NoTotals (z.rst.account slot)) :
    retireFinal g slot z = refuse .wrongState x := by
  rw [← isEmpty_iff, ← not_and_or] at h
  simp only [retireFinal, onContents_of_readsAs g .wrongState _ hx, if_neg h]

end

/-! ### Reads of a slot that give no contents -/

section

variable {z : State} {slot : Nat} (g : Grant)

theorem retireCheck_of_damaged (hd : z.rst.isDamaged slot = true) : retireCheck g slot z = refuse .wrongState z :=
  onContents_of_damaged g .wrongState _ hd

theorem retireFinal_of_damaged (hd : z.rst.isDamaged slot = true) : retireFinal g slot z = refuse .wrongState z :=
  onContents_of_damaged g .wrongState _ hd

variable (hu : Uncorrectable z slot) (h1 : 1 ≤ slot)

include hu h1

/-- The check's read that finds damage is STORE-FAULT (07 R139, 08 R156; log entry 44). -/
theorem retireCheck_of_uncorrectable : retireCheck g slot z = refuse .storeFault (slotDamaged z slot) :=
  onContents_of_uncorrectable g .wrongState _ hu h1

theorem retireFinal_of_uncorrectable : retireFinal g slot z = refuse .storeFault (slotDamaged z slot) :=
  onContents_of_uncorrectable g .wrongState _ hu h1

end

/-! ### The scan -/

section

variable {z x : State} {t : Nat} (g : Grant) (slot : Nat) (left : List Nat)

theorem retireScan_of_named (hx : ReadsAs z (pointSlot t) x) (h : ∃ p ∈ z.rst.pointTable t, p.2.kind = .account slot) :
    retireScan g slot (t :: left) z = refuse .inUse x := by
  have htable : x.rst.pointTable t = z.rst.pointTable t := by rw [readsAs_eq hx]; rfl
  simp only [retireScan, Walks.judge_of_readsAs false g.period hx, htable, (namesSlot_iff slot _).2 h, if_true]

theorem retireScan_of_unnamed (hx : ReadsAs z (pointSlot t) x) (h : ∀ p ∈ z.rst.pointTable t, p.2.kind ≠ .account slot) :
    retireScan g slot (t :: left) z = await (scanOrFinal left) x := by
  have htable : x.rst.pointTable t = z.rst.pointTable t := by rw [readsAs_eq hx]; rfl
  have hnames : ¬ namesSlot slot (z.rst.pointTable t) = true := by
    rw [namesSlot_iff]
    rintro ⟨p, hp, hk⟩
    exact h p hp hk
  simp only [retireScan, Walks.judge_of_readsAs false g.period hx, htable, if_neg hnames, retireNext_eq]

/-- A damaged table holds no reference (07 R140). -/
theorem retireScan_of_damaged (hd : z.rst.isDamaged (pointSlot t) = true) :
    retireScan g slot (t :: left) z = await (scanOrFinal left) z := by
  simp only [retireScan, judge_of_damaged hd, retireNext_eq]

/-- Nor does one whose read finds it damaged (07 R140, 08 R158). -/
theorem retireScan_of_uncorrectable (hu : Uncorrectable z (pointSlot t)) :
    retireScan g slot (t :: left) z = await (scanOrFinal left) (slotDamaged z (pointSlot t)) := by
  simp only [retireScan, judge_of_uncorrectable hu.1 hu.2, retireNext_eq,
    Silences.takeDamage_other (show 1 ≤ pointSlot t by simp only [pointSlot]; omega)]

end

/-! ### A retirement at an idle store -/

/-- The final access of a slot that may be freed answers DONE (07 R140). -/
theorem exec_final_of_empty {s : State} {slot : Nat} (tag : Byte) (hr : Ready s) (hi : StoreIdle s) (hc : Clean s slot)
    (hs : (s.rst.account slot).state = .closed) (ht : NoTotals (s.rst.account slot)) :
    exec (.retireFinalAccess []) (startedHead s tag (.retireAccount slot) .retireFinal)
      = .next (withResponse { accessesDone s (s.rst.putAccount slot Account.free) with
          bke := { s.bke with cache := s.bke.cache.filter fun e => decide (e.slot ≠ slot) } } tag 0x43 .done []) :=
  exec_access_changed (y := { s with
      rst := s.rst.putAccount slot Account.free
      bke := { s.bke with cache := s.bke.cache.filter fun e => decide (e.slot ≠ slot) } }) hr hi rfl
    (retireFinal_of_empty _ (readsAs_of_clean (clean_started hc)) hs ht) ⟨rfl, rfl, rfl, rfl, rfl⟩

section

variable {s : State} {tag : Byte} {slot : Nat} (hr : Ready s) (hi : StoreIdle s)
  (hstart : exec (.retireAccount tag slot) s = .next (startedHead s tag (.retireAccount slot) .retireCheck))

include hr hi hstart

theorem after_check_refused {r : Result}
    (hw : retireCheck (rexGrant s) slot (startedHead s tag (.retireAccount slot) .retireCheck)
      = refuse r (startedHead s tag (.retireAccount slot) .retireCheck)) :
    after [.retireAccount tag slot, .retireCheckAccess []] s = .next (withResponse (accessesDone s s.rst) tag 0x43 r []) :=
  after_cons hstart (after_cons (exec_access_answered (q := .retireAccount slot) hr hi (ends_of_accountCommand rfl) hw) rfl)

variable (hc : Clean s slot) (hs : (s.rst.account slot).state = .closed) (ht : NoTotals (s.rst.account slot))
  (h0 : s.bke.routes[0].slot ≠ some slot) (h1 : s.bke.routes[1].slot ≠ some slot)

include hc hs ht h0 h1

/-- Behind the check of a slot that may be retired the next access is awaited (07 R140). -/
theorem after_check_passed (cs : List Instr) : after (.retireAccount tag slot :: .retireCheckAccess [] :: cs) s
    = after cs (startedHead s tag (.retireAccount slot) (scanOrFinal s.rst.allocatedPoints)) :=
  after_cons hstart (after_cons (exec_access_awaits (y := s) hr hi (ends_of_accountCommand rfl)
    (retireCheck_of_unrouted _ (readsAs_of_clean (clean_started hc)) hs ht h0 h1) (beside_refl s)) rfl)

end

/-- Settles O41: the refusals at the start, the check, the scan of one table and the final access by what each reads, and the three
one after another at an idle store. -/
theorem retireFreesAnEmptyClosedAccount : Obligations.RetireFreesAnEmptyClosedAccount := by
  unfold Obligations.RetireFreesAnEmptyClosedAccount
  intro s tag slot
  have starts (hr : Ready s) (hi : StoreIdle s) (h1 : 1 ≤ slot) (h255 : slot ≤ 255) :
      exec (.retireAccount tag slot) s = .next (startedHead s tag (.retireAccount slot) .retireCheck) :=
    exec_start_awaits (.retireAccount slot) rfl hr rfl rfl hi (startOnSlot_of_slot .retireCheck _ rfl h1 h255)
  refine ⟨fun hr h => ?_, fun hr => ?_, starts, fun g h => ⟨fun x hx => ⟨fun hs => ?_, fun hs => ?_, fun hs ht => ⟨fun hroute => ?_,
      fun tables h0 h1 htables => ?_⟩⟩, fun hd => ?_, fun hu h1 h255 => ?_⟩,
    fun g t left h => ⟨fun x hx => ⟨fun hnamed => ?_, fun hunnamed => ?_⟩, fun hd => ?_, fun hu => ?_⟩,
    fun g h => ⟨fun x hx => ⟨fun hs ht => ?_, fun hchanged => ?_⟩, fun hd => ?_, fun hu h1 h255 => ?_⟩,
    fun hr hi h1 h255 hc => ?_⟩
  · exact exec_start_refused (.retireAccount slot) rfl hr rfl rfl (startOnSlot_of_range _ _ (.inl h))
  · exact exec_start_refused (.retireAccount 0) rfl hr rfl rfl (startOnSlot_zero _ _ rfl)
  · exact exec_answered h rfl (retireCheck_of_free g hx hs) (headKept_of_readsAs hx)
  · rcases hs with hs | ⟨hs, ht⟩
    · exact exec_answered h rfl (retireCheck_of_opened g hx hs) (headKept_of_readsAs hx)
    · exact exec_answered h rfl (retireCheck_of_totals g hx hs ht) (headKept_of_readsAs hx)
  · exact exec_answered h rfl (retireCheck_of_route g hx hs ht hroute) (headKept_of_readsAs hx)
  · subst htables
    exact exec_awaits h rfl (retireCheck_of_unrouted g hx hs ht h0 h1) (headKept_of_readsAs hx)
  · exact exec_answered h rfl (retireCheck_of_damaged g hd) (.refl s)
  · exact exec_answered h rfl (retireCheck_of_uncorrectable g hu h1) (headKept_slotDamaged s slot)
  · exact exec_answered h rfl (retireScan_of_named g slot left hx hnamed) (headKept_of_readsAs hx)
  · exact exec_awaits h rfl (retireScan_of_unnamed g slot left hx hunnamed) (headKept_of_readsAs hx)
  · exact exec_awaits h rfl (retireScan_of_damaged g slot left hd) (.refl s)
  · exact exec_awaits h rfl (retireScan_of_uncorrectable g slot left hu) (headKept_slotDamaged s _)
  · exact exec_answered h rfl (retireFinal_of_empty g hx hs ht) ⟨(headKept_of_readsAs hx).rex, (headKept_of_readsAs hx).arbiter⟩
  · exact exec_answered h rfl (retireFinal_of_changed g hx hchanged) (headKept_of_readsAs hx)
  · exact exec_answered h rfl (retireFinal_of_damaged g hd) (.refl s)
  · exact exec_answered h rfl (retireFinal_of_uncorrectable g hu h1) (headKept_slotDamaged s slot)
  · have hstart := starts hr hi h1 h255
    have hread (w : HeadWork) : ReadsAs (startedHead s tag (.retireAccount slot) w) slot (startedHead s tag (.retireAccount slot) w) :=
      readsAs_of_clean (clean_started hc)
    refine ⟨fun hs => ?_, fun hs => ?_, fun hs ht => ⟨fun hroute => ?_, fun h0 h1 htables => ?_, fun t a h0 h1 htables hct => ?_⟩⟩
    · exact after_check_refused hr hi hstart (retireCheck_of_free _ (hread _) hs)
    · rcases hs with hs | ⟨hs, hvolume⟩
      · exact after_check_refused hr hi hstart (retireCheck_of_opened _ (hread _) hs)
      · exact after_check_refused hr hi hstart (retireCheck_of_totals _ (hread _) hs fun ht => hvolume ht.1)
    · exact after_check_refused hr hi hstart (retireCheck_of_route _ (hread _) hs ht hroute)
    · have hnext : scanOrFinal s.rst.allocatedPoints = .retireFinal := by simp [scanOrFinal, Rst.allocatedPoints, htables]
      rw [after_check_passed hr hi hstart hc hs ht h0 h1, after_check_passed hr hi hstart hc hs ht h0 h1, hnext]
      exact ⟨rfl, after_cons (exec_final_of_empty tag hr hi hc hs ht) rfl⟩
    · have hnext : scanOrFinal s.rst.allocatedPoints = .retireScan [t] := by simp [scanOrFinal, Rst.allocatedPoints, htables]
      have htable : ReadsAs (startedHead s tag (.retireAccount slot) (.retireScan [t])) (pointSlot t)
          (startedHead s tag (.retireAccount slot) (.retireScan [t])) := readsAs_of_clean (clean_started hct)
      simp only [after_check_passed hr hi hstart hc hs ht h0 h1, hnext]
      refine ⟨rfl, fun ⟨i, hi', hk⟩ => ?_, fun hunnamed => ?_⟩
      · exact after_cons (exec_access_answered (q := .retireAccount slot) hr hi (ends_of_accountCommand rfl)
          (retireScan_of_named _ slot [] htable ⟨_, hi', hk⟩)) rfl
      · exact after_cons (exec_access_awaits (y := s) hr hi (ends_of_accountCommand rfl)
          (retireScan_of_unnamed _ slot [] htable hunnamed) (beside_refl s)) rfl

end Sys2Proof.Retirement

/-! PROOFS. CLOSE-PERIOD (07 R144 to R150; O42, O43): the roll of an account, the start, the scan of the slots, the BOOKED pass and the
figures at the end. -/

namespace Sys2Proof.PeriodClose

open Sys2Proof.Machine Sys2Proof.Safety Sys2Proof.AccountAccesses

/-! ### Rolls -/

/-- An account of another period is rolled; a FREE slot and one of the period stand (07 R144, R145). -/
theorem rolled_eq (a : Account) (p : Nat) :
    a.rolled p = if a.state = .free ∨ a.period = p then a else a.roll p := by
  by_cases h : a.state = .free ∨ a.period = p
  · rw [if_pos h, Account.rolled, if_neg fun ⟨hs, hp⟩ => h.elim hs hp]
  · rw [if_neg h, Account.rolled, if_pos (not_or.1 h)]

theorem rolled_kind (a : Account) (p : Nat) : (a.rolled p).kind = a.kind := by
  rw [rolled_eq]
  split <;> rfl

/-! ### The scan -/

section

variable {z : State} {n : Nat} (g : Grant) (m : Sums)

theorem closeScanAccess_of_free (hc : Clean z n) (hs : (z.rst.account n).state = .free) : closeScanAccess g n m z = (m, z) := by
  simp only [closeScanAccess, judge_of_clean hc.1 hc.2, Account.rolled_state, hs, if_true]

/-- An account is rolled to the period and written, and its previous totals are added (07 R147). -/
theorem closeScanAccess_of_account (hc : Clean z n) (hs : (z.rst.account n).state ≠ .free) : closeScanAccess g n m z
    = (m.add (z.rst.account n).kind ((z.rst.account n).rolled g.period).prevVolume ((z.rst.account n).rolled g.period).prevHeat,
        { z with rst := z.rst.putAccount n ((z.rst.account n).rolled g.period) }) := by
  simp only [closeScanAccess, judge_of_clean hc.1 hc.2, Account.rolled_state, hs, if_false, rolled_kind]
  rfl

theorem closeScanAccess_of_damaged (hd : z.rst.isDamaged n = true) :
    closeScanAccess g n m z = ({ m with skipped := m.skipped + 1 }, z) := by
  simp only [closeScanAccess, judge_of_damaged hd, Sums.skip]

variable {g m} {k : Sums} {x : State}

theorem closeScan_of_next (hn : n ≤ 254) (h : closeScanAccess g n m z = (k, x)) :
    closeScan g n m z = await (.closeScan (n + 1) k) x := by
  simp [closeScan, h, Config.accounts, show n < 255 by omega]

/-- Behind slot 255 the BOOKED pass begins (07 R148). -/
theorem closeScan_of_last (h : closeScanAccess g 255 m z = (k, x)) :
    closeScan g 255 m z = passNext x.rst.allocatedPoints [] k x := by
  simp [closeScan, h, Config.accounts]

end

/-! ### The BOOKED pass and the end -/

/-- The end of a close works out the figures and answers with the period (07 R149, R152). -/
theorem endClose_eq (m : Sums) (z : State) : endClose m z = (.answered .done [.num 2 z.yard.period], closeFinished z m) := rfl

theorem passNext_of_left {tables : List Nat} {leaves : List PassLeaf} (m : Sums) (z : State) (h : tables ≠ [] ∨ leaves ≠ []) :
    passNext tables leaves m z = await (.closePass tables leaves m) z := by
  rw [passNext, if_neg]
  rcases h with h | h <;> simp [h]

section

variable {z : State} (g : Grant)

theorem passAccess_of_table {t : Nat} (rest : List Nat) (hc : Clean z (pointSlot t)) :
    passAccess g (t :: rest) [] z = (⟨rest, bookedLeaves t (z.rst.pointTable t)⟩, z) := by
  simp only [passAccess, judge_of_clean hc.1 hc.2]

theorem passAccess_of_damaged_table {t : Nat} (rest : List Nat) (hd : z.rst.isDamaged (pointSlot t) = true) :
    passAccess g (t :: rest) [] z = (⟨rest, []⟩, z) := by
  simp only [passAccess, judge_of_damaged hd]

variable {p : PassLeaf} (tables : List Nat) (rest : List PassLeaf)

/-- A leaf's clearing access writes it only where it is as it was read, and no mark stands (07 R148). -/
theorem passAccess_of_leaf (hc : Clean z (pointSlot p.own.table)) :
    passAccess g tables (p :: rest) z = (⟨tables, rest⟩, { z with rst := clearMark p z.rst }) := by
  simp only [passAccess, flagAccess, judge_of_clean hc.1 hc.2]
  rfl

theorem passAccess_of_damaged_leaf (hd : z.rst.isDamaged (pointSlot p.own.table) = true) :
    passAccess g tables (p :: rest) z = (⟨tables, rest⟩, z) := by
  simp only [passAccess, flagAccess, judge_of_damaged hd]

end

section

variable {s x : State} {g : Grant} {tag : Byte} {w : HeadWork} {c : Instr} {m : Sums} {tables : List Nat} {leaves : List PassLeaf}
  (h : HeadAwaits s g tag .closePeriod w) (hc : accountCommand w = some c)
  (hw : workAccess g .closePeriod w s = passNext tables leaves m x) (hx : HeadKept s x)

include h hc hw hx

/-- An access behind which nothing is left to do ends the close (07 R149). -/
theorem exec_passNext_of_none (ht : tables = []) (hl : leaves = []) :
    exec c s = .next (headAnswered (closeFinished x m) tag .closePeriod .done [.num 2 x.yard.period]) := by
  subst ht hl
  exact exec_answered h hc (hw.trans (endClose_eq m x)) ⟨hx.rex, hx.arbiter⟩

/-- An access behind which tables or leaves are left goes on with the pass (07 R148). -/
theorem exec_passNext_of_left (hleft : tables ≠ [] ∨ leaves ≠ []) :
    exec c s = .next (headContinues x (.closePass tables leaves m)) :=
  exec_awaits h hc (hw.trans (passNext_of_left m x hleft)) hx

end

section

variable {s : State} {g : Grant} {tag : Byte} {n : Nat} {m : Sums} (h : HeadAwaits s g tag .closePeriod (.closeScan n m))
  (hn : n ≤ 254)

include h hn

/-- The scan goes on behind a slot below the last (07 R147). -/
theorem exec_closeScan_of_next {k : Sums} {x : State} (hw : closeScanAccess g n m s = (k, x)) (hx : HeadKept s x) :
    exec (.closeScanAccess []) s = .next (headContinues x (.closeScan (n + 1) k)) :=
  exec_awaits h rfl (closeScan_of_next hn hw) hx

/-- The close scan's access to an account (07 R147). -/
theorem exec_closeScan_of_account (hc : Clean s n) (hs : (s.rst.account n).state ≠ .free) :
    exec (.closeScanAccess []) s = .next (headContinues
      { s with rst := s.rst.putAccount n ((s.rst.account n).rolled g.period) }
      (.closeScan (n + 1) (m.add (s.rst.account n).kind ((s.rst.account n).rolled g.period).prevVolume
        ((s.rst.account n).rolled g.period).prevHeat))) :=
  exec_closeScan_of_next h hn (closeScanAccess_of_account g m hc hs) ⟨rfl, rfl⟩

end

/-- Settles O42: the account that the scan's access writes, and the roll itself. -/
theorem rollKeepsTheResidues : Obligations.RollKeepsTheResidues := by
  unfold Obligations.RollKeepsTheResidues
  refine ⟨fun s t g tag n m h hn hc hsound hs hp ht => ?_, rolled_eq⟩
  rw [exec_closeScan_of_account h hn hc hs] at ht
  obtain rfl := Host.Outcome.next.inj ht
  have haccount (k : Nat) : (s.rst.putAccount n ((s.rst.account n).rolled g.period)).account k
      = if k = n then (s.rst.account n).roll g.period else s.rst.account k := by
    rw [Rst.account_putAccount (Commits.canonical_of_storesSound hsound).1, rolled_eq, if_neg (not_or.2 ⟨hs, hp⟩)]
  refine ⟨s.rst.account n, (s.rst.account n).roll g.period, rfl, ((haccount n).trans (if_pos rfl)).symm, rfl, rfl, rfl, rfl, rfl, rfl,
    rfl, fun _ => rfl, rfl, rfl, rfl, rfl, rfl, rfl, rfl, fun k hk => (haccount k).trans (if_neg hk)⟩

/-! ### The start -/

theorem mapSix_eq_map {α β : Type} (f : α → β) (v : Vector α 6) : mapSix f v = v.map f := by
  obtain ⟨⟨l⟩, hl⟩ := v
  match l, hl with
  | [_, _, _, _, _, _], _ => simp [mapSix]

/-- The cache entries that are not global are flushed (07 R146). -/
theorem flushWhere_global (b : Bke) : flushWhere (fun e => !e.global) b = { b with cache := b.cache.filter (·.global) } := by
  simp only [flushWhere, Bool.not_not]

/-- The state in which a close begins a new period (07 R146). -/
def periodBegun (s : State) : State :=
  (s.modBalance fun b => b.begin s.yard.time s.stocks).modYard fun y =>
    { y with period := nextPeriod y.period, closeUnfinished := true }

theorem startClose_of_finished {z : State} (h : z.yard.closeUnfinished = false) : startClose z
    = await (.closeScan 0 Sums.zero) ((periodBegun z).modBke fun b => { b with cache := b.cache.filter (·.global) }) := by
  simp only [startClose, h, State.modBke, flushWhere_global]
  rfl

theorem startClose_of_unfinished {z : State} (h : z.yard.closeUnfinished = true) : startClose z
    = await (.closeScan 0 Sums.zero) (z.modBke fun b => { b with cache := b.cache.filter (·.global) }) := by
  simp only [startClose, h, State.modBke, flushWhere_global, if_true]

theorem exec_closePeriod {s y : State} (tag : Byte) (hr : Ready s) (hi : StoreIdle y)
    (h : startClose (headState s tag .closePeriod) = await (.closeScan 0 Sums.zero) (headState y tag .closePeriod)) :
    exec (.closePeriod tag) s = .next (startedHead y tag .closePeriod (.closeScan 0 Sums.zero)) :=
  exec_start_changed .closePeriod rfl hr rfl rfl hi h

/-- Settles O43: the start, the scan below its last slot and at it, and the pass by what it reads of a table and of a leaf. -/
theorem closePeriodGoesFromStartToFigures : Obligations.ClosePeriodGoesFromStartToFigures := by
  unfold Obligations.ClosePeriodGoesFromStartToFigures
  intro s g tag n m
  refine ⟨fun hr hi hf => ?_, fun hr hi hf => ?_, fun h hn => ⟨fun hc hs => ?_, exec_closeScan_of_account h hn, fun hd => ?_⟩,
    fun r k tables h htables hk => ?_, fun t rest leaves h hl => ?_, fun own stands rest tables r h hl => ?_⟩
  · rw [← mapSix_eq_map]
    exact exec_closePeriod (y := (periodBegun s).modBke fun b => { b with cache := b.cache.filter (·.global) }) tag hr hi
      (startClose_of_finished hf)
  · exact exec_closePeriod (y := s.modBke fun b => { b with cache := b.cache.filter (·.global) }) tag hr hi
      (startClose_of_unfinished hf)
  · exact exec_closeScan_of_next h hn (closeScanAccess_of_free g m hc hs) (.refl s)
  · exact exec_closeScan_of_next h hn (closeScanAccess_of_damaged g m hd) (.refl s)
  · have hscan : closeScanAccess g 255 m s = (k, { s with rst := r }) ∧ r.pointAlloc = s.rst.pointAlloc
        ∧ r.arbiter = s.rst.arbiter := by
      rcases hk with ⟨hc, hs, rfl, rfl⟩ | ⟨hc, hs, rfl, rfl⟩ | ⟨hd, rfl, rfl⟩
      · exact ⟨closeScanAccess_of_free g k hc hs, rfl, rfl⟩
      · exact ⟨closeScanAccess_of_account g m hc hs, rfl, rfl⟩
      · exact ⟨closeScanAccess_of_damaged g m hd, rfl, rfl⟩
    obtain ⟨haccess, halloc, harbiter⟩ := hscan
    have hwork : workAccess g .closePeriod (.closeScan 255 m) s = passNext tables [] k { s with rst := r } := by
      rw [htables, ← halloc]
      exact closeScan_of_last haccess
    exact ⟨fun ht => exec_passNext_of_none h rfl hwork ⟨rfl, harbiter⟩ ht rfl,
      fun ht => exec_passNext_of_left h rfl hwork ⟨rfl, harbiter⟩ (.inl ht)⟩
  · have hwork : workAccess g .closePeriod (.closePass (t :: rest) [] m) s = passNext rest leaves m s := by
      rcases hl with ⟨hc, rfl⟩ | ⟨hd, rfl⟩
      · simp only [workAccess, bookedPass, passAccess_of_table g rest hc, bookedLeaves]
      · simp only [workAccess, bookedPass, passAccess_of_damaged_table g rest hd]
    exact ⟨exec_passNext_of_none h rfl hwork (.refl s), exec_passNext_of_left h rfl hwork (.refl s)⟩
  · have hleaf : passAccess g tables (⟨own, stands⟩ :: rest) s = (⟨tables, rest⟩, { s with rst := r })
        ∧ r.arbiter = s.rst.arbiter := by
      rcases hl with ⟨hc, hstands, hk, rfl⟩ | ⟨hc, hkept, rfl⟩ | ⟨hd, rfl⟩
      · exact ⟨by rw [passAccess_of_leaf g tables rest hc, clearMark_eq, if_pos ⟨hstands, hk⟩], rfl⟩
      · refine ⟨?_, rfl⟩
        rw [passAccess_of_leaf g tables rest hc, clearMark_eq, if_neg]
        rintro ⟨hstands, hk⟩
        exact hkept.elim (fun h => by simp [h] at hstands) fun h => h hk
      · exact ⟨passAccess_of_damaged_leaf g tables rest hd, rfl⟩
    have hwork : workAccess g .closePeriod (.closePass tables (⟨own, stands⟩ :: rest) m) s
        = passNext tables rest m { s with rst := r } := by
      simp only [workAccess, bookedPass, hleaf.1]
    exact ⟨exec_passNext_of_left h rfl hwork ⟨rfl, hleaf.2⟩, exec_passNext_of_none h rfl hwork ⟨rfl, hleaf.2⟩⟩

end Sys2Proof.PeriodClose

/-! PROOFS. LOOK BALANCE (07 R151 to R153; O44): what each read adds to the sums, and the answer behind the last. -/

namespace Sys2Proof.BalanceLook

open Sys2Proof.Machine Sys2Proof.Safety Sys2Proof.DirectoryRequests Sys2Proof.AccountAccesses

/-! ### The reads -/

/-- LOOK BALANCE goes on behind the read of slot `n` with the sums given: to the next slot, or to its answer (07 R153). -/
def goesOn (n : Nat) (m : Sums) (z : State) : Progress × State :=
  if n + 1 < Config.accounts then await (.balance (n + 1) m) z else (.answered .done (balanceFields m z), z)

/-- An account of an earlier period is counted with zeros (07 R153). -/
theorem add_zeros (m : Sums) (kind : Option AccountKind) : m.add kind 0 0 = { m with counted := m.counted + 1 } := by
  match kind with
  | none | some .receipt | some .sendOut | some .worksUse | some .suspense => rfl

section

variable {z : State} {n : Nat} (g : Grant) (m : Sums)

theorem balanceRead_of_free (hc : Clean z n) (hs : (z.rst.account n).state = .free) :
    balanceRead g n m z = goesOn n m z := by
  simp [balanceRead, goesOn, judge_of_clean hc.1 hc.2, hs]

theorem balanceRead_of_present (hc : Clean z n) (hs : (z.rst.account n).state ≠ .free) (hp : (z.rst.account n).period = g.period) :
    balanceRead g n m z = goesOn n (m.add (z.rst.account n).kind (z.rst.account n).volume (z.rst.account n).heat) z := by
  simp [balanceRead, goesOn, judge_of_clean hc.1 hc.2, hs, hp]

theorem balanceRead_of_earlier (hc : Clean z n) (hs : (z.rst.account n).state ≠ .free) (hp : (z.rst.account n).period ≠ g.period) :
    balanceRead g n m z = goesOn n { m with counted := m.counted + 1 } z := by
  simp [balanceRead, goesOn, judge_of_clean hc.1 hc.2, hs, hp, add_zeros]

theorem balanceRead_of_damaged (hd : z.rst.isDamaged n = true) :
    balanceRead g n m z = goesOn n { m with skipped := m.skipped + 1 } z := by
  simp [balanceRead, goesOn, judge_of_damaged hd, Sums.skip]

end

section

variable {s : State} {g : Grant} {tag : Byte} {n : Nat} {m k : Sums} (h : HeadAwaits s g tag .lookBalance (.balance n m))
  (hw : balanceRead g n m s = goesOn n k s)

include h hw

theorem exec_balanceRead_of_next (hn : n ≤ 254) : exec (.balanceRead []) s = .next (headContinues s (.balance (n + 1) k)) :=
  exec_awaits h rfl (hw.trans (if_pos (by simp only [Config.accounts]; omega))) (.refl s)

theorem exec_balanceRead_of_last (hn : n = 255) :
    exec (.balanceRead []) s = .next (headAnswered s tag .lookBalance .done (balanceFields k s)) :=
  exec_answered h rfl (hw.trans (if_neg (by simp only [Config.accounts]; omega))) (.refl s)

end

/-! ### The answer -/

theorem flatMap_n4 (l : List Nat) : l.flatMap n4 = l.map (.num 4) := List.flatMap_pure_eq_map _ l

/-- The change of the stocks up to now, priced at the declared CV (07 R152). -/
theorem stockChange_eq {s : State} {stocks : Vector Nat 6} {change therms : Int}
    (hstocks : stocks = s.holders.map fun r => if r.fitted then r.stock else 0)
    (hchange : change = ((stocks.toList.sum : Nat) : Int) - (s.balance.startStocks.toList.sum : Nat))
    (htherms : therms = (change * s.yard.declaredCv + 50000) / 100000) :
    stockChangeOf (sumStocks s.balance.startStocks) (sumStocks s.stocks) s.yard.declaredCv = ⟨change, therms⟩ := by
  have hnow : stocks = s.stocks := by
    rw [hstocks, ← PeriodClose.mapSix_eq_map]
    rfl
  rw [htherms, hchange, hnow]
  rfl

/-- The answer's fields (07 R153; log entry 12). -/
theorem balanceFields_eq {s : State} {c : SignedFigure} (k : Sums)
    (hc : stockChangeOf (sumStocks s.balance.startStocks) (sumStocks s.stocks) s.yard.declaredCv = c) :
    balanceFields k s
      = ([.num 2 s.yard.period, .flag s.yard.closeUnfinished, .num 2 s.balance.start.day, .num 2 s.balance.start.minute,
            .num 2 s.balance.prevStart.day, .num 2 s.balance.prevStart.minute] : List Field)
          ++ s.balance.startStocks.toList.map (Field.num 4) ++ s.balance.prevStocks.toList.map (Field.num 4)
          ++ sumsFields k c (unaccountedOf k c) ++ sumsFields s.balance.previous s.balance.stockChange s.balance.unaccounted
          ++ ([.flag s.balance.unfinished] : List Field) := by
  simp only [balanceFields, hc, timeFields, n2, flatMap_n4, List.append_assoc, List.cons_append, List.nil_append]

/-- Settles O44: the start, each read by the slot it finds, and the answer behind slot 255. -/
theorem lookBalanceSumsTheAccounts : Obligations.LookBalanceSumsTheAccounts := by
  unfold Obligations.LookBalanceSumsTheAccounts
  intro s g tag n m
  refine ⟨fun hr hi => exec_start_awaits .lookBalance rfl hr rfl rfl hi rfl,
    fun h hn => ⟨fun hc hs => ?_, fun hc hs hp => ?_, fun hc hs hp => ?_, fun hd => ?_⟩,
    fun k stocks change therms h hk hstocks hchange htherms => ?_⟩
  · exact exec_balanceRead_of_next h (balanceRead_of_free g m hc hs) hn
  · have hread := exec_balanceRead_of_next h (balanceRead_of_present g m hc hs hp) hn
    refine ⟨fun hk => ?_, fun hk => ?_, fun hk => ?_, fun hk => ?_⟩ <;> rw [hk] at hread <;> exact hread
  · exact exec_balanceRead_of_next h (balanceRead_of_earlier g m hc hs hp) hn
  · exact exec_balanceRead_of_next h (balanceRead_of_damaged g m hd) hn
  · have hread : balanceRead g 255 m s = goesOn 255 k s := by
      rcases hk with ⟨hc, hs, rfl⟩ | ⟨hc, hs, hp, rfl⟩ | ⟨hc, hs, hp, rfl⟩ | ⟨hd, rfl⟩
      · exact balanceRead_of_free g k hc hs
      · exact balanceRead_of_present g m hc hs hp
      · exact balanceRead_of_earlier g m hc hs hp
      · exact balanceRead_of_damaged g m hd
    have hanswer := exec_balanceRead_of_last h hread rfl
    rw [balanceFields_eq k (stockChange_eq hstocks hchange htherms)] at hanswer
    exact hanswer

end Sys2Proof.BalanceLook
